-- ==== Sys2Proof/Word.lean ====
section
/-!
DEFINITION. The word types of the part, and the shape of a request at the upstream port
(00_scope.md "Conventions"; 01_the_memory_path.md section 1.1).
-/

namespace Sys2Proof

/-- One byte of memory or of a link cell. -/
abbrev Byte := BitVec 8

/-- An 8-byte word of the mailbox page or a watch word. -/
abbrev Word := BitVec 64

/-- A byte address at the upstream port ("Addresses are 40-bit byte addresses", 00_scope.md). -/
abbrev Addr := BitVec 40

/-- The link frame count: 32 bits, modular (00_scope.md "Link frame"). -/
abbrev FrameCount := BitVec 32

/-- A frame number: 16 bits (00_scope.md "Frame numbers"). -/
abbrev FrameNumber := BitVec 16

/-- A free-running ring index: 16 bits (00_scope.md "Ring indices"). -/
abbrev RingIndex := BitVec 16

/-- What a request asks for: a read of a byte count, or a write of its data bytes, the first at the
request's address (section 1.1). -/
inductive Access where
  | read (count : Nat)
  | write (data : List Byte)
deriving DecidableEq, Repr

/-- A request as the head's interconnect presents it (section 1.1). -/
structure Request where
  initiator : BitVec 4
  addr : Addr
  access : Access
deriving DecidableEq, Repr

/-- The byte count of a request. -/
def Request.size (r : Request) : Nat :=
  match r.access with
  | .read n => n
  | .write d => d.length

/-- Whether the request is a write. -/
def Request.isWrite (r : Request) : Bool :=
  match r.access with
  | .read _ => false
  | .write _ => true

end Sys2Proof
end

