-- ==== Sys2Proof/Config.lean ====
section
/-!
DEFINITION. What is fixed for the part: the capacities the rules give, and the free values the spec
leaves open.
-/

namespace Sys2Proof.Config

/-- The hold queue holds at most 8 requests (R1, section 1.3). -/
def holdCapacity : Nat := 8

/-- The upstream port takes a request while the pass queue holds fewer than 4 (R1). -/
def passAdmit : Nat := 4

/-- The video queue holds at most 16 jobs (R77). -/
def queueCapacity : Nat := 16

/-- The stitch window is positions 0 to 47 (R55). -/
def stitchWindow : Nat := 48

/-- A pending change takes effect 8 link frames after its creation (R137). -/
def changeDelay : Nat := 8

/-- The loss run at which the link is lost (R131). -/
def lossLimit : Nat := 8

/-- Probe frames in a probe cycle (R124). -/
def probeCycleLength : Nat := 64

/-- Windows in a block of the error monitor (R136). -/
def monitorBlock : Nat := 256

/-- Errors in a block from which a step-down arises (R136). -/
def monitorLimit : Nat := 8

/-- The greatest trial error count that still passes (R126). -/
def trialLimit : Nat := 1

/-- The last trial frame of a trial (R126). -/
def lastTrialFrame : Nat := 15

/-- The acknowledgement timeout in link frames (R102). -/
def ackTimeout : Nat := 4

/-- The greatest payload of a ring record, a CMSG and a return piece (R99, R111, R117). -/
def maxPayload : Nat := 992

/-- The greatest piece length (R87). -/
def maxPiece : Nat := 1024

/-- Landing writes not yet accepted from which a return piece is discarded (R117). -/
def returnLimit : Nat := 32

/-- One past the greatest 40-bit address. -/
def addressSpace : Nat := 2 ^ 40

/-- Where the mailbox page of MBSEL 0 begins (R3). -/
def mailboxOrigin : Nat := 0xFFFFF00000

/-- The cells of the training split, forward and return (R121). -/
def trainingSplit : Nat × Nat := (128, 64)

/-- FREE VALUE: the bytes of idle fill that stand in the payload cells of a late fetch (R91).
The spec states no content for idle fill; the n-th such byte the part sends is this value at n. -/
opaque idleFill : Nat → BitVec 8

/-- FREE VALUE: what the 16-bit lines completed field of a done word holds when the buffer's count
does not fit 16 bits (R116 gives the count no width, section 11.2 gives the field 16 bits). -/
opaque linesCompletedField : Nat → BitVec 16

/-- FREE VALUE: what the 8-bit attempts used field of a send record holds when the send count does not
fit 8 bits (R108 keeps the count over link losses, section 11.2 gives the field 1 byte). -/
opaque attemptsField : Nat → BitVec 8

end Sys2Proof.Config
end

