-- ==== Sys2Proof/Syntax.lean ====
section
/-!
DEFINITION. The commands of the part: one constructor for each row of spec/opcode_table.json, in the
table's order. An operand list that is shorter than the thing it names stands for one whose further
bytes are 0 (log entry 12).
-/

namespace Sys2Proof

/-- The commands the part takes, one for each row of the table. -/
inductive Instr where
  /-- POWER_ON_RESET with the strap levels it samples (R18, R122). -/
  | powerOnReset (mbsel ctlid : BitVec 4) (autolink : Bool)
  /-- RESTART_N: the pin passes from high to low (R156). -/
  | restartN
  /-- INIT_COMPLETION (R17). -/
  | initCompletion
  /-- UPSTREAM_REQUEST: the interconnect presents a request (R1). -/
  | upstreamRequest (r : Request)
  /-- HOLD_EXPIRY of the leader of an initiator (R10). -/
  | holdExpiry (initiator : BitVec 4)
  /-- FORWARDING: the arbiter grants the pass queue (R11, R14). -/
  | forwarding
  /-- OWN_REQUEST_GRANT: the arbiter grants the own-request queue (R14). -/
  | ownRequestGrant
  /-- DOWNSTREAM_RESPONSE to the forwarded request at a place of the outstanding ones, oldest 0 (R12). -/
  | downstreamResponse (place : Nat) (error : Bool) (data : List Byte)
  /-- OWN_WRITE_ACCEPTED: the response to the own write at a place of the outstanding ones (R15). -/
  | ownWriteAccepted (place : Nat) (error : Bool)
  /-- CAPTURE_WRITE: a forwarded write with its capture entry (R51 to R61). -/
  | captureWrite (window : Fin 32) (position : Fin 6) (r : Request)
  /-- STITCH_DEADLINE of the entry of a line (R64). -/
  | stitchDeadline (slot : Fin 4) (line : Nat)
  /-- FRAME_MARK: a whole write of the word at an address, as the frame mark word (R39). -/
  | frameMark (addr : Nat) (value : Word)
  /-- RELEASE of the head line (R66). -/
  | release
  /-- FRAME_END of the head frame (R69). -/
  | frameEnd
  /-- LINK_FRAME_START (R121). -/
  | linkFrameStart
  /-- RATE_CHANGE_EFFECT (R139). -/
  | rateChangeEffect
  /-- SPLIT_CHANGE_EFFECT (R140). -/
  | splitChangeEffect
  /-- PAYLOAD_FETCH_COMPLETE of the parcel with a serial number (R90). -/
  | payloadFetchComplete (parcel : Nat) (error : Bool) (data : List Byte)
  /-- PARCEL_SENT: the next placed parcel is transmitted (R89). -/
  | parcelSent
  /-- RETURN_WINDOW_ARRIVAL: the header cell if one was found, and the cells after it (R132). -/
  | returnWindowArrival (header : Option (List Byte)) (body : List Byte)
  /-- PROBE_CYCLE (R124). -/
  | probeCycle
  /-- TRIAL_END (R126). -/
  | trialEnd
  /-- MONITOR_BLOCK_JUDGEMENT (R136). -/
  | monitorBlockJudgement
  /-- LINK_LOSS (R131). -/
  | linkLoss
  /-- ACK_TIMEOUT of an outbound ring (R102). -/
  | ackTimeout (ring : Fin 4)
  /-- RECORD_FETCH_RESPONSE to the record fetch at a place of the outstanding ones (R99). -/
  | recordFetchResponse (place : Nat) (error : Bool) (data : List Byte)
  /-- PRODUCER_INDEX_WRITE: a whole write of an outbound ring's producer word (R98). -/
  | producerIndexWrite (ring : Fin 4) (value : Word)
  /-- CONSUMER_INDEX_WRITE: a whole write of an inbound ring's consumer word (R110). -/
  | consumerIndexWrite (ring : Fin 2) (value : Word)
  /-- PARAMETER_WORD_WRITE: a parameter word covered whole (some value) or in part (none) (R146, R147). -/
  | parameterWordWrite (slot : Fin 8) (value : Option Word)
  /-- ACKNOWLEDGE: a whole write of the acknowledge word (R164). -/
  | acknowledge (value : Word)
  /-- UNKNOWN_OP: a launch with a code that is none of the seventeen (R150). -/
  | unknownOp (code : BitVec 8) (count : BitVec 4) (tag : BitVec 8)
  /-- MAKE_WINDOW launch (R24). -/
  | makeWindow (count : BitVec 4) (tag : BitVec 8)
  /-- CLEAR_WINDOW launch (R26). -/
  | clearWindow (count : BitVec 4) (tag : BitVec 8)
  /-- LOCK_WINDOW launch (R27). -/
  | lockWindow (count : BitVec 4) (tag : BitVec 8)
  /-- READ_WINDOW_FIRST launch (R31). -/
  | readWindowFirst (count : BitVec 4) (tag : BitVec 8)
  /-- READ_WINDOW_NEXT launch (R32). -/
  | readWindowNext (count : BitVec 4) (tag : BitVec 8)
  /-- OPEN_STREAM launch (R36). -/
  | openStream (count : BitVec 4) (tag : BitVec 8)
  /-- CLOSE_STREAM launch (R38). -/
  | closeStream (count : BitVec 4) (tag : BitVec 8)
  /-- BIND_RING launch (R96). -/
  | bindRing (count : BitVec 4) (tag : BitVec 8)
  /-- BIND_RETURN launch (R116). -/
  | bindReturn (count : BitVec 4) (tag : BitVec 8)
  /-- UNBIND launch (R107). -/
  | unbind (count : BitVec 4) (tag : BitVec 8)
  /-- RESUME_RING launch (R106). -/
  | resumeRing (count : BitVec 4) (tag : BitVec 8)
  /-- LOAD_SCHEDULE launch (R83). -/
  | loadSchedule (count : BitVec 4) (tag : BitVec 8)
  /-- SCHEDULE_IMAGE_RESPONSE to the image read at a place of the outstanding ones (R83). -/
  | scheduleImageResponse (place : Nat) (error : Bool) (data : List Byte)
  /-- SET_SPLIT launch (R140). -/
  | setSplit (count : BitVec 4) (tag : BitVec 8)
  /-- LINK_CONTROL_ENABLE: a launch of LINK CONTROL whose P0 names ENABLE (R128). -/
  | linkControlEnable (count : BitVec 4) (tag : BitVec 8)
  /-- LINK_CONTROL_DISABLE: a launch of LINK CONTROL whose P0 names DISABLE (R129). -/
  | linkControlDisable (count : BitVec 4) (tag : BitVec 8)
  /-- LINK_CONTROL_RETRAIN: a launch of LINK CONTROL whose P0 names RETRAIN (R130). -/
  | linkControlRetrain (count : BitVec 4) (tag : BitVec 8)
  /-- SNAPSHOT_COUNTERS launch (R159). -/
  | snapshotCounters (count : BitVec 4) (tag : BitVec 8)
  /-- SNAPSHOT_STEP (R171). -/
  | snapshotStep
  /-- SET_EVENTS launch (R160). -/
  | setEvents (count : BitVec 4) (tag : BitVec 8)
  /-- RESTART launch (R155). -/
  | restart (count : BitVec 4) (tag : BitVec 8)
  /-- STATUS_WRITE_ISSUE (R162). -/
  | statusWriteIssue
deriving DecidableEq, Repr

end Sys2Proof
end

