-- ==== Sys2Proof/WellFormed.lean ====
section
/-!
DEFINITION. What the outside can present: the shape of a request (01_the_memory_path.md section 1.1)
and the codes a launch can carry (R148, R150).
-/

namespace Sys2Proof

/-- A request has 1 to 256 bytes, and they do not cross a 256-byte boundary (section 1.1). -/
def Request.wf (r : Request) : Bool :=
  decide (1 ≤ r.size) && decide (r.addr.toNat % 256 + r.size ≤ 256)

/-- A capture write is a write of that shape (R5, R51). -/
def Request.wfWrite (r : Request) : Bool :=
  r.wf && r.isWrite

/-- The codes of the seventeen commands (section 8.7). -/
def knownCode (code : BitVec 8) : Bool :=
  decide (1 ≤ code.toNat) && decide (code.toNat ≤ 17)

/-- A launch that is an UNKNOWN_OP: the code 0x00 is no launch (R148), and a known code is another row. -/
def unknownCode (code : BitVec 8) : Bool :=
  decide (code ≠ 0) && !knownCode code

/-- The commands that the outside can present as they are written. -/
def Instr.wf : Instr → Bool
  | .upstreamRequest r => r.wf
  | .captureWrite _ _ r => r.wfWrite
  | .unknownOp code _ _ => unknownCode code
  | .powerOnReset _ _ _ | .restartN | .initCompletion | .holdExpiry _ | .forwarding
  | .ownRequestGrant | .downstreamResponse _ _ _ | .ownWriteAccepted _ _
  | .stitchDeadline _ _ | .frameMark _ _ | .release | .frameEnd | .linkFrameStart
  | .rateChangeEffect | .splitChangeEffect | .payloadFetchComplete _ _ _ | .parcelSent
  | .returnWindowArrival _ _ | .probeCycle | .trialEnd | .monitorBlockJudgement | .linkLoss
  | .ackTimeout _ | .recordFetchResponse _ _ _ | .producerIndexWrite _ _
  | .consumerIndexWrite _ _ | .parameterWordWrite _ _ | .acknowledge _
  | .makeWindow _ _ | .clearWindow _ _ | .lockWindow _ _ | .readWindowFirst _ _
  | .readWindowNext _ _ | .openStream _ _ | .closeStream _ _ | .bindRing _ _
  | .bindReturn _ _ | .unbind _ _ | .resumeRing _ _ | .loadSchedule _ _
  | .scheduleImageResponse _ _ _ | .setSplit _ _ | .linkControlEnable _ _
  | .linkControlDisable _ _ | .linkControlRetrain _ _ | .snapshotCounters _ _
  | .snapshotStep | .setEvents _ _ | .restart _ _ | .statusWriteIssue => true

end Sys2Proof
end

