-- ==== Sys2Proof/Decode.lean ====
section
/-!
DEFINITION. The commands that a word of spec/opcode_table.json spells. No row of the table gives
bits (98_reader.md: n_rows_with_fixed is 0), so no word spells a command.
-/

namespace Sys2Proof

/-- The command that the `nbits` bits `w` spell by the table: none, since no row has bits. -/
def decodeTableWord (_nbits _w : Nat) : Option Instr := none

end Sys2Proof
end

