-- ==== Sys2Proof/Machine/State.lean ====
section
/-!
DEFINITION. The state of the part, block by block, as plain data, and the state right after
power-on reset.
-/

namespace Sys2Proof.Machine

/-- Why the part would stop. -/
inductive Fault where
  /-- Raised by UPSTREAM_REQUEST and CAPTURE_WRITE for a request of a shape the interconnect never
  presents (section 1.1); the spec gives it no effect. Safe: the model stops where nothing is said. -/
  | malformedRequest
deriving DecidableEq, Repr

/-- Why a command would have no meaning. -/
inductive Refusal where
  /-- A command with no meaning yet, by its mnemonic; raised by exec's arms alone. Safe. -/
  | notModelled (mnemonic : String)
deriving DecidableEq, Repr

/-! ### Path unit (01_the_memory_path.md) -/

/-- INITIALIZING or READY (section 1.7). -/
inductive PathMode where
  | initializing | ready
deriving DecidableEq, Repr

/-- The side the arbiter granted last (R14). -/
inductive Side where
  | pass | own
deriving DecidableEq, Repr

/-- The origin of a guard fault (R16). -/
inductive Origin where
  | window (index : Fin 32) | mailbox | id15
deriving DecidableEq, Repr

/-- A control word of the mailbox page (R3). -/
inductive ControlWord where
  | param (slot : Fin 8) | launch | acknowledge
deriving DecidableEq, Repr

/-- An entry of a tap set (R1, R4, R5, R6). -/
inductive Tap where
  /-- A control word touched by the write: its value if covered whole, none if torn (R4). -/
  | control (word : ControlWord) (value : Option Word)
  /-- A capture entry (R5). -/
  | capture (window : Fin 32) (position : Fin 6)
  /-- A watch entry: the word's address and its value (R6). -/
  | watch (addr : Nat) (value : Word)
deriving DecidableEq, Repr

/-- An entry of the pass queue (R1). -/
structure Passing where
  request : Request
  taps : List Tap
deriving DecidableEq, Repr

/-- The role of a held request (section 1.3). -/
inductive Role where
  | leader | follower
deriving DecidableEq, Repr

/-- An entry of the hold queue (section 1.3). -/
structure Held where
  request : Request
  role : Role
  entry : FrameCount
  deadline : FrameCount
deriving DecidableEq, Repr

/-- The first guard fault record when full (R16). -/
structure GuardFault where
  addr : Addr
  initiator : BitVec 4
  isWrite : Bool
  origin : Origin
deriving DecidableEq, Repr

/-- What an own request is for, so that its response finds its block (R13, R15). -/
inductive Owner where
  | recordFetch (ring : Fin 4) (serial : Nat)
  | payload (parcel : Nat)
  | scheduleImage
  | landing (ring : Fin 2) (serial : Nat)
  | returnLanding (buffer : Bool) (serial : Nat)
  | doneWord
  | recordStatus
  | indexWord
  | resultData
  /-- A result word write; `raises` when its acceptance raises CMD_DONE (R150, R152, R155). -/
  | resultWord (raises : Bool)
  | status
  | snapshot
deriving DecidableEq, Repr

/-- An own request: `live` while its response still acts on a block; a reset ends that (R18, R19, R168). -/
structure OwnRequest where
  owner : Owner
  addr : Nat
  access : Access
  live : Bool
deriving DecidableEq, Repr

/-- What a forwarded capture write was applied to: an entry of the stitch table, and a position (R62). -/
structure Applied where
  entry : Nat
  position : Fin 6
deriving DecidableEq, Repr

/-- A forwarded request whose response has not arrived; `discard` after a power-on reset (R18). -/
structure Forwarded where
  request : Request
  applied : Option Applied
  discard : Bool
deriving DecidableEq, Repr

/-- The path unit (chapter 1). -/
structure PathUnit where
  mode : PathMode
  waiting : List Request
  pass : List Passing
  hold : List Held
  egress : List OwnRequest
  other : List OwnRequest
  lastSide : Side
  guard : Option GuardFault
  forwarded : List Forwarded
  ownOut : List OwnRequest
deriving DecidableEq, Repr

/-! ### Region map (02_the_region_map.md) -/

/-- The kind of a window entry (R20). -/
inductive WindowKind where
  | free | capture | guard
deriving DecidableEq, Repr

/-- An entry of the region map (R20). -/
structure Window where
  kind : WindowKind
  base : Nat
  size : Nat
  writers : BitVec 16
  readers : BitVec 16
  locked : Bool
  segLen : Nat
  pitch : Nat
  stride : Nat
deriving DecidableEq, Repr

/-- A FREE entry (R20). -/
def Window.free : Window :=
  { kind := .free, base := 0, size := 0, writers := 0, readers := 0, locked := false,
    segLen := 0, pitch := 0, stride := 0 }

/-- The region map and its walk cursor (R20, R30). -/
structure RegionMap where
  windows : Vector Window 32
  cursor : Nat
deriving DecidableEq, Repr

/-- The map after power-on reset (R33). -/
def RegionMap.empty : RegionMap := { windows := Vector.replicate 32 Window.free, cursor := 0 }

/-! ### Capture tracker (03_frames_and_segments.md) -/

/-- The stream's state (R35). -/
inductive StreamState where
  | closed | openState | draining
deriving DecidableEq, Repr

/-- The stream record (R35). -/
structure Stream where
  state : StreamState
  windows : List (Fin 32)
  lines : Nat
  slotCount : Nat
  timeout : Nat
  holdLimit : Nat
  markWord : Nat
  linePayload : Nat
deriving DecidableEq, Repr

/-- The stream record in CLOSED (R35). -/
def Stream.closed : Stream :=
  { state := .closed, windows := [], lines := 0, slotCount := 0, timeout := 0, holdLimit := 0,
    markWord := 0, linePayload := 0 }

/-- A frame record of the frame list (R43). -/
structure FrameRecord where
  frame : FrameNumber
  slot : Fin 4
  cursor : Nat
  whole : Nat
  torn : Nat
  absent : Nat
deriving DecidableEq, Repr

/-- A slot record (R44). -/
structure SlotRecord where
  frame : Option FrameNumber
  unfinished : Nat
deriving DecidableEq, Repr

/-- The capture tracker. -/
structure Tracker where
  stream : Stream
  frames : List FrameRecord
  slots : Vector SlotRecord 4
  newest : Option FrameNumber
deriving DecidableEq, Repr

/-- The capture tracker after a reset (R54). -/
def Tracker.empty : Tracker :=
  { stream := Stream.closed, frames := [],
    slots := Vector.replicate 4 { frame := none, unfinished := 0 }, newest := none }

/-! ### Stitch unit (04_the_stitch_table.md) -/

/-- The state of a segment record (R57). -/
inductive SegmentState where
  | empty | filling | full | damaged
deriving DecidableEq, Repr

/-- A segment record: its state and fill mark (R57). -/
structure Segment where
  state : SegmentState
  mark : Nat
deriving DecidableEq, Repr

/-- The state of a line entry (R57). -/
inductive EntryState where
  | openState | live | whole | torn | absent
deriving DecidableEq, Repr

/-- A line entry; `id` tells an entry from a later one of the same line (log entry 27). -/
structure LineEntry where
  id : Nat
  frame : FrameNumber
  slot : Fin 4
  line : Nat
  state : EntryState
  deadline : Option FrameCount
  segments : List Segment
deriving DecidableEq, Repr

/-- The stitch table; the release cursor is the head frame's (R55). -/
structure StitchUnit where
  entries : List LineEntry
  nextEntry : Nat
deriving DecidableEq, Repr

/-! ### Forward scheduler (05_forward_scheduling.md) -/

/-- The kind of a LINE job (R66). -/
inductive LineKind where
  | whole | torn
deriving DecidableEq, Repr

/-- The placing state of a job (R77). -/
inductive Placing where
  | waiting | placing | placed
deriving DecidableEq, Repr

/-- What a job carries by its kind; a LINE job's piece cursor is `position` and `offset` (R77). -/
inductive JobBody where
  | line (line : Nat) (kind : LineKind) (present : List (Fin 6)) (position : Fin 6) (offset : Nat)
  | absentRun (first count : Nat)
  | frameEnd (whole torn absent : Nat)
deriving DecidableEq, Repr

/-- A job of the video queue (R77). -/
structure Job where
  id : Nat
  frame : FrameNumber
  slot : Fin 4
  body : JobBody
  placing : Placing
deriving DecidableEq, Repr

/-- A lane a service entry can name (R81). -/
inductive Source where
  | video | ring (index : Fin 4)
deriving DecidableEq, Repr

/-- A service entry before its slot's end (R81). -/
structure ServiceEntry where
  source : Source
  quota : Nat
deriving DecidableEq, Repr

/-- A lane schedule of 16 slots (R81). -/
abbrev Schedule := Vector (List ServiceEntry) 16

/-- The due condition of a staged schedule (R82). -/
inductive Due where
  | nextFrame | nextCycle
deriving DecidableEq, Repr

/-- The schedule state (R82). -/
inductive ScheduleState where
  | none | active | halted
deriving DecidableEq, Repr

/-- What a placed parcel carries (R86, R87, R88). -/
inductive ParcelBody where
  | piece (job : Nat) (frame : FrameNumber) (slot : Fin 4) (line : Nat) (kind : LineKind)
      (present : List (Fin 6)) (position : Fin 6) (offset length : Nat) (first last : Bool)
  | absentRun (job : Nat) (frame : FrameNumber) (slot : Fin 4) (first count : Nat)
  | frameEnd (job : Nat) (frame : FrameNumber) (slot : Fin 4) (whole torn absent : Nat)
  | ring (ring : Fin 4) (record : Nat) (tag : BitVec 8) (length buffer : Nat) (toggle sync : Bool)
deriving DecidableEq, Repr

/-- The payload fetch of a placed parcel (R89). -/
inductive Fetch where
  | notNeeded
  | pending
  | complete (data : List Byte)
deriving DecidableEq, Repr

/-- A parcel placed and not yet transmitted (R84, R89). -/
structure Parcel where
  id : Nat
  body : ParcelBody
  fetch : Fetch
  poison : Bool
deriving DecidableEq, Repr

/-- The forward scheduler; `hold` is VIDEO, O0, O1, O2, O3 (R92). -/
structure Scheduler where
  queue : List Job
  active : Option Schedule
  staged : Option (Schedule × Due)
  state : ScheduleState
  hold : Vector (BitVec 8) 5
  window : List Parcel
  nextJob : Nat
  nextParcel : Nat
deriving DecidableEq, Repr

/-! ### Ring unit (06_rings_and_landing.md) -/

/-- The state of a ring (R95, R109). -/
inductive RingState where
  | unbound | active | halted
deriving DecidableEq, Repr

/-- A ring's halt cause (R95). -/
inductive HaltCause where
  | none | index | memory | failed
deriving DecidableEq, Repr

/-- The kind of an outbound ring (R95). -/
inductive RingKind where
  | plain | reliable
deriving DecidableEq, Repr

/-- The fields of a send record that the ring uses (R99); `serial` is of its fetch. -/
structure SendRecord where
  serial : Nat
  length : Nat
  tag : BitVec 8
  retry : Nat
  attention : Bool
  buffer : Nat
deriving DecidableEq, Repr

/-- The head record of an outbound ring (R95). -/
inductive HeadRecord where
  | empty
  | fetching (serial : Nat)
  | ready (r : SendRecord)
  | placed (r : SendRecord)
  | inFlight (r : SendRecord)
deriving DecidableEq, Repr

/-- An outbound ring (R95). -/
structure OutRing where
  state : RingState
  cause : HaltCause
  kind : RingKind
  count : Nat
  base : Nat
  producerWord : Option Nat
  consumerWord : Option Nat
  producerSeen : RingIndex
  producerWritten : RingIndex
  consumer : RingIndex
  head : HeadRecord
  toggle : Bool
  syncNeeded : Bool
  sendCount : Nat
  sentFrame : FrameCount
deriving DecidableEq, Repr

/-- An outbound ring after a reset (R95). -/
def OutRing.unbound : OutRing :=
  { state := .unbound, cause := .none, kind := .plain, count := 0, base := 0,
    producerWord := none, consumerWord := none, producerSeen := 0, producerWritten := 0,
    consumer := 0, head := .empty, toggle := false, syncNeeded := false, sendCount := 0,
    sentFrame := 0 }

/-- An answer in an acknowledgement field (R113). -/
inductive Answer where
  | none | ack (toggle : Bool) | nak (toggle : Bool)
deriving DecidableEq, Repr

/-- A landing of an inbound ring: the writes not yet accepted, and the toggle of the ACK that its end
sets, none once the link has left UP (R112, R115). -/
inductive Landing where
  | idle
  | inProgress (serial left : Nat) (ack : Option Bool)
deriving DecidableEq, Repr

/-- An inbound ring (R109). -/
structure InRing where
  state : RingState
  cause : HaltCause
  count : Nat
  base : Nat
  producerWord : Option Nat
  consumerWord : Option Nat
  producer : RingIndex
  consumerSeen : RingIndex
  consumerWritten : RingIndex
  lastAccepted : Option Bool
  landing : Landing
  toSend : Answer
  holdRequested : Bool
  releaseDue : Bool
deriving DecidableEq, Repr

/-- An inbound ring after a reset (R109). -/
def InRing.unbound : InRing :=
  { state := .unbound, cause := .none, count := 0, base := 0, producerWord := none,
    consumerWord := none, producer := 0, consumerSeen := 0, consumerWritten := 0,
    lastAccepted := none, landing := .idle, toSend := .none, holdRequested := false,
    releaseDue := false }

/-- One buffer of the return picture (R116). -/
structure ReturnBuffer where
  completed : Nat
  left : Nat
  due : Option (BitVec 16 × Nat)
deriving DecidableEq, Repr

/-- A return buffer with nothing landed (R116). -/
def ReturnBuffer.empty : ReturnBuffer := { completed := 0, left := 0, due := none }

/-- The return binding (R116). -/
structure ReturnBinding where
  bound : Bool
  base : Nat
  pitch : Nat
  lines : Nat
  stride : Nat
  doneWord : Option Nat
  serial : Nat
  buffer0 : ReturnBuffer
  buffer1 : ReturnBuffer
  releaseDue : Bool
deriving DecidableEq, Repr

/-- The return binding after a reset (R116). -/
def ReturnBinding.unbound : ReturnBinding :=
  { bound := false, base := 0, pitch := 0, lines := 0, stride := 0, doneWord := none, serial := 0,
    buffer0 := .empty, buffer1 := .empty, releaseDue := false }

/-- The ring unit. -/
structure RingUnit where
  outbound : Vector OutRing 4
  inbound : Vector InRing 2
  ret : ReturnBinding
  nextSerial : Nat
deriving DecidableEq, Repr

/-! ### Link unit (07_the_triax_link.md) -/

/-- The link states (R121). -/
inductive LinkState where
  | down | probing | training | up
deriving DecidableEq, Repr

/-- The link rates (00_scope.md "Rate and effective cells"). -/
inductive Rate where
  | quarter | threeQuarter | half | full
deriving DecidableEq, Repr

/-- The kind and value of a link change (R137). -/
inductive Change where
  | rate (r : Rate)
  | split (f rt : Nat)
deriving DecidableEq, Repr

/-- A pending change record (R137). -/
structure PendingChange where
  change : Change
  effective : FrameCount
  echoed : Bool
deriving DecidableEq, Repr

/-- What the next link frame start does to the link (R124, R126). -/
inductive LinkMove where
  | training | up | trial (r : Rate) | probing
deriving DecidableEq, Repr

/-- The link unit (R122); `cells` are the effective forward and return cells in force for the present
frame, fixed at its link frame start (R121). -/
structure LinkUnit where
  state : LinkState
  enabled : Bool
  ceiling : Rate
  rate : Rate
  splitF : Nat
  splitRt : Nat
  count : FrameCount
  lossRun : Nat
  probeFrames : Nat
  probeCycles : Nat
  trialRate : Option Rate
  trialFrame : Nat
  trialBaseErrors : Nat
  trialOwnErrors : Nat
  monitorFrames : Nat
  monitorErrors : Nat
  change : Option PendingChange
  lastDropped : FrameNumber
  dropCount : BitVec 8
  dropRepeat : Nat
  tally : BitVec 8
  move : Option LinkMove
  returnTaken : Bool
  cells : Nat × Nat
deriving DecidableEq, Repr

/-- The link unit after a reset, but for its state, enabled and the count (R122); no frame has started,
so no cells are in force. -/
def LinkUnit.cleared (state : LinkState) (enabled : Bool) (count : FrameCount) : LinkUnit :=
  { state, enabled, ceiling := .full, rate := .quarter, splitF := 1024, splitRt := 256, count,
    lossRun := 0, probeFrames := 0, probeCycles := 0, trialRate := none, trialFrame := 0,
    trialBaseErrors := 0, trialOwnErrors := 0, monitorFrames := 0, monitorErrors := 0,
    change := none, lastDropped := 0, dropCount := 0, dropRepeat := 0, tally := 0, move := none,
    returnTaken := false, cells := (0, 0) }

/-! ### Mailbox unit (08_command_mailbox_and_command_reference.md) -/

/-- A parameter slot: its value, and whether it is FRESH (R145). -/
structure ParamSlot where
  value : Word
  fresh : Bool
deriving DecidableEq, Repr

/-- The code and tag of a command (R145). -/
structure CommandTag where
  code : BitVec 8
  tag : BitVec 8
deriving DecidableEq, Repr

/-- The mailbox unit; the command state is RUNNING when `running` holds a command (R145). -/
structure Mailbox where
  slots : Vector ParamSlot 8
  running : Option CommandTag
  staging : Vector Word 8
  abortNote : Option CommandTag
deriving DecidableEq, Repr

/-- The mailbox unit after power-on reset (R145). -/
def Mailbox.empty : Mailbox :=
  { slots := Vector.replicate 8 { value := 0, fresh := false }, running := none,
    staging := Vector.replicate 8 0, abortNote := none }

/-! ### Status unit (09_status_block_and_attention.md, 10_counters.md) -/

/-- The option of a snapshot (R172). -/
inductive SnapshotOption where
  | keep | clear | preset
deriving DecidableEq, Repr

/-- A snapshot walk in progress (R171). -/
structure Snapshot where
  option : SnapshotOption
  next : Nat
  left : Nat
deriving DecidableEq, Repr

/-- The status unit: events and enable by the event bit order of chapter 11. -/
structure StatusUnit where
  events : BitVec 10
  enable : BitVec 10
  launchLost : Bool
  paramTorn : Bool
  inboundFull : Bool
  due : List (Fin 32)
  counters : Vector (BitVec 32) 59
  snapshot : Option Snapshot
deriving DecidableEq, Repr

/-- The status unit after power-on reset (R167, R174). -/
def StatusUnit.empty : StatusUnit :=
  { events := 0, enable := 0, launchLost := false, paramTorn := false, inboundFull := false,
    due := [], counters := Vector.replicate 59 0, snapshot := none }

/-! ### The part -/

/-- The straps as sampled at power-on reset (00_scope.md, R18). -/
structure Straps where
  mbsel : BitVec 4
  ctlid : BitVec 4
  autolink : Bool
deriving DecidableEq, Repr

/-- What leaves the part at its outputs (log entry 7). -/
inductive Output where
  /-- An answer at the upstream port (R12). -/
  | answer (initiator : BitVec 4) (error : Bool) (data : List Byte)
  /-- A request forwarded on the downstream port (R11). -/
  | forward (r : Request)
  /-- An own request granted on the downstream port (R14). -/
  | own (owner : Owner) (addr : Nat) (access : Access)
  /-- The header cell of a forward window and the idle fill cells that end the window (R84, R124, R125). -/
  | header (bytes : List Byte) (idle : Nat)
  /-- A transmitted parcel, header, payload and check (R89, section 11.4). -/
  | parcel (bytes : List Byte)
deriving DecidableEq, Repr

/-- The state of the part. -/
structure State where
  straps : Straps
  path : PathUnit
  map : RegionMap
  tracker : Tracker
  stitch : StitchUnit
  sched : Scheduler
  rings : RingUnit
  link : LinkUnit
  mbox : Mailbox
  status : StatusUnit
  free : Nat
  out : List Output
  pending : List Instr
deriving DecidableEq, Repr

/-- Where the mailbox page begins (R3). -/
def Straps.mailboxPage (p : Straps) : Nat := Config.mailboxOrigin + p.mbsel.toNat * 0x1000

/-- The write of status word 0 issued on entering INITIALIZING: READY clear, the link state, enabled,
ceiling FULL and link rate QUARTER as the reset leaves them (R162, section 11.3). -/
def initWrite (p : Straps) (state : BitVec 8) (enabled : Bool) : OwnRequest :=
  { owner := .status, addr := p.mailboxPage + 0x100,
    access := .write [0, state, if enabled then 1 else 0, 3, 0, 0, 0, 0], live := true }

/-- The path unit after power-on reset (R18), with the write of R162. -/
def PathUnit.initial (p : Straps) : PathUnit :=
  { mode := .initializing, waiting := [], pass := [], hold := [], egress := [],
    other := [initWrite p 0 p.autolink], lastSide := .own, guard := none, forwarded := [],
    ownOut := [] }

/-- The forward scheduler after a reset (R94). -/
def Scheduler.empty (nextJob nextParcel : Nat) : Scheduler :=
  { queue := [], active := none, staged := none, state := .none, hold := Vector.replicate 5 0,
    window := [], nextJob, nextParcel }

/-- The ring unit after a reset (R120). -/
def RingUnit.empty (nextSerial : Nat) : RingUnit :=
  { outbound := Vector.replicate 4 OutRing.unbound, inbound := Vector.replicate 2 InRing.unbound,
    ret := ReturnBinding.unbound, nextSerial }

/-- The part right after power-on reset with straps `p` (R18, R33, R54, R76, R94, R120, R122, R145,
R167, R174). -/
def State.initial (p : Straps) : State :=
  { straps := p, path := PathUnit.initial p, map := RegionMap.empty, tracker := Tracker.empty,
    stitch := { entries := [], nextEntry := 0 }, sched := Scheduler.empty 0 0,
    rings := RingUnit.empty 0, link := LinkUnit.cleared .down p.autolink 0, mbox := Mailbox.empty,
    status := StatusUnit.empty, free := 0, out := [], pending := [] }

/-- The part right after power-on reset. The strap levels are DESIGN CHOICE (log entry 1, unsafe):
the spec gives straps no reset value; POWER_ON_RESET brings any. -/
def State.reset : State := State.initial { mbsel := 0, ctlid := 0, autolink := false }

end Sys2Proof.Machine
end

