-- ==== Sys2Proof/Machine/Operands.lean ====
section
/-!
DEFINITION. Reading and writing the fields of words, records and headers: byte order, bit fields,
the words a write covers, the mailbox page, and the parameter words
(00_scope.md "Conventions"; 11_memory_and_link_formats.md).
-/

namespace Sys2Proof.Machine

/-! ### Bytes and fields -/

/-- The low `n` bytes of a value, least significant first (00_scope.md "Byte order"). -/
def leBytes : Nat → Nat → List Byte
  | 0, _ => []
  | n + 1, v => BitVec.ofNat 8 v :: leBytes n (v / 256)

/-- The value of bytes, least significant first. -/
def leValue : List Byte → Nat
  | [] => 0
  | b :: bs => b.toNat + 256 * leValue bs

/-- The byte at an offset; bytes past the end of the list are 0 (log entry 12). -/
def byteAt (bs : List Byte) (i : Nat) : Byte := bs.getD i 0

/-- The `n` bytes from an offset, padded with 0 (log entry 12). -/
def bytesAt : List Byte → Nat → Nat → List Byte
  | _, _, 0 => []
  | bs, i, n + 1 => byteAt bs i :: bytesAt bs (i + 1) n

/-- The unsigned field of `n` bytes at an offset. -/
def fieldAt (bs : List Byte) (i n : Nat) : Nat := leValue (bytesAt bs i n)

/-- A list of bytes with its further bytes up to `n` set to 0 (R175). -/
def padTo (n : Nat) (bs : List Byte) : List Byte := bytesAt bs 0 n

/-- Bits `hi:lo` of a word (chapter 11 "Bits a:b"). -/
def bits (w : Word) (hi lo : Nat) : Nat := w.toNat / 2 ^ lo % 2 ^ (hi + 1 - lo)

/-- A value placed at a bit of a word. -/
def atBit (lo v : Nat) : Nat := v * 2 ^ lo

/-- A 1-bit field's value. -/
def flag (b : Bool) : Nat := if b then 1 else 0

/-- The bytes of an 8-byte word. -/
def wordBytes (w : Word) : List Byte := leBytes 8 w.toNat

/-- The reads or writes an access of `n` bytes at an address is split into at 256-byte boundaries:
the address and length of each, in ascending order (R89, R112, R117). -/
def chunks : Nat → Nat → Nat → List (Nat × Nat)
  | 0, _, _ => []
  | fuel + 1, addr, n =>
    if n = 0 then []
    else
      let room := 256 - addr % 256
      let k := if n < room then n else room
      (addr, k) :: chunks fuel (addr + k) (n - k)

/-- Rounded-up division, as the cell counts use it (R87, R88). -/
def ceilDiv (n d : Nat) : Nat := (n + d - 1) / d

/-! ### The link frame count (00_scope.md "Deadlines") -/

/-- A deadline is reached when the count minus it, modulo 2^32, is below 2^31. -/
def reached (count deadline : FrameCount) : Bool := decide ((count - deadline).toNat < 2 ^ 31)

/-- The link frame number: the low 8 bits of the count. -/
def linkFrameNumber (count : FrameCount) : Byte := BitVec.ofNat 8 count.toNat

/-- Frame A is ahead of frame B when (A − B) mod 65536 is 1 to 32767 (00_scope.md "Frame numbers"). -/
def aheadOf (a b : FrameNumber) : Bool :=
  decide (1 ≤ (a - b).toNat) && decide ((a - b).toNat ≤ 32767)

/-! ### Rates and cells (00_scope.md "Rate and effective cells") -/

/-- The rate factor k. -/
def Rate.factor : Rate → Nat
  | .full => 4
  | .threeQuarter => 3
  | .half => 2
  | .quarter => 1

/-- The rate code (chapter 11): 0 QUARTER, 1 THREE_QUARTER, 2 HALF, 3 FULL. -/
def Rate.code : Rate → Nat
  | .quarter => 0
  | .threeQuarter => 1
  | .half => 2
  | .full => 3

/-- The rate of a code, none for a code outside the four. -/
def Rate.ofCode : Nat → Option Rate
  | 0 => some .quarter
  | 1 => some .threeQuarter
  | 2 => some .half
  | 3 => some .full
  | _ => none

/-- The next lower rate, none below QUARTER (R126, R139). -/
def Rate.lower : Rate → Option Rate
  | .full => some .threeQuarter
  | .threeQuarter => some .half
  | .half => some .quarter
  | .quarter => none

/-- Effective cells at a rate: floor(cells × k / 4). -/
def effective (cells : Nat) (r : Rate) : Nat := cells * r.factor / 4

/-- The effective forward and return cells that the link state gives a frame that starts now (R121). -/
def LinkUnit.effectiveCells (l : LinkUnit) : Nat × Nat :=
  match l.state with
  | .down => (0, 0)
  | .probing => (effective Config.trainingSplit.1 .quarter, effective Config.trainingSplit.2 .quarter)
  | .training =>
    let r := l.trialRate.getD .quarter
    (effective Config.trainingSplit.1 r, effective Config.trainingSplit.2 r)
  | .up => (effective l.splitF l.rate, effective l.splitRt l.rate)

/-- A link frame start fixes the cells in force for the frame it opens (R121). -/
def LinkUnit.enforce (l : LinkUnit) : LinkUnit := { l with cells := l.effectiveCells }

/-- The effective cells that the status block shows: both 0 while the link is DOWN (R161). -/
def LinkUnit.shownCells (l : LinkUnit) : Nat × Nat := if l.state = .down then (0, 0) else l.cells

/-! ### Codes (chapter 11) -/

def LinkState.code : LinkState → Nat
  | .down => 0
  | .probing => 1
  | .training => 2
  | .up => 3

def StreamState.code : StreamState → Nat
  | .closed => 0
  | .openState => 1
  | .draining => 2

def RingState.code : RingState → Nat
  | .unbound => 0
  | .active => 1
  | .halted => 2

def HaltCause.code : HaltCause → Nat
  | .none => 0
  | .index => 1
  | .memory => 2
  | .failed => 3

def RingKind.code : RingKind → Nat
  | .plain => 0
  | .reliable => 1

def ScheduleState.code : ScheduleState → Nat
  | .none => 0
  | .active => 1
  | .halted => 2

def WindowKind.code : WindowKind → Nat
  | .free => 0
  | .capture => 1
  | .guard => 2

def LineKind.code : LineKind → Nat
  | .whole => 0
  | .torn => 1

/-- The origin byte of status word 18: the window index, 0x40 MAILBOX, 0x41 ID15. -/
def Origin.code : Origin → Nat
  | .window i => i.val
  | .mailbox => 0x40
  | .id15 => 0x41

/-- An acknowledgement byte: bits 1:0 the code, bit 7 the toggle (section 11.4). -/
def Answer.byte : Answer → Byte
  | .none => 0
  | .ack t => BitVec.ofNat 8 (1 + 128 * flag t)
  | .nak t => BitVec.ofNat 8 (2 + 128 * flag t)

/-- The answer an acknowledgement byte carries; code 3 is taken as NONE (R176). -/
def Answer.ofByte (b : Byte) : Answer :=
  let t := decide (128 ≤ b.toNat)
  match b.toNat % 4 with
  | 1 => .ack t
  | 2 => .nak t
  | _ => .none

/-- The present set as a byte, bit k for position k (section 11.4). -/
def presentBits (ps : List (Fin 6)) : Nat :=
  ps.foldl (fun n p => n ||| 2 ^ p.val) 0

/-! ### The words a request touches -/

/-- The bytes `a` to `a + n − 1` and the bytes `lo` to `hi − 1` share a byte. -/
def overlaps (a n lo hi : Nat) : Bool := decide (a < hi) && decide (lo < a + n)

/-- The value of the 8-byte word at `w` when the write covers all of it, none when it covers a part
(R4, R6). -/
def coveredWord (a : Nat) (data : List Byte) (w : Nat) : Option Word :=
  if a ≤ w ∧ w + 8 ≤ a + data.length then
    some (BitVec.ofNat 64 (fieldAt data (w - a) 8))
  else none

/-- The 8-byte aligned words a write of `n` bytes at `a` touches, in ascending order. -/
def touchedWords (a n : Nat) : List Nat :=
  let first := a / 8
  let last := (a + n - 1) / 8
  (List.range (last + 1 - first)).map (fun i => (first + i) * 8)

/-! ### The mailbox page (R3, section 11.1) -/

/-- Whether an address lies inside the mailbox page. -/
def inMailbox (page a : Nat) : Bool := decide (page ≤ a) && decide (a < page + 0x1000)

/-- Whether a write of `n` bytes touches a part-written area (R3). -/
def touchesPartWritten (page a n : Nat) : Bool :=
  overlaps a n (page + 0x080) (page + 0x0C8) || overlaps a n (page + 0x100) (page + 0x200) ||
    overlaps a n (page + 0x200) (page + 0x2EC)

/-- Whether a write of `n` bytes touches a control area (R3). -/
def touchesControl (page a n : Nat) : Bool := overlaps a n page (page + 0x050)

/-- The control words in ascending address order (R3). -/
def controlWords : List ControlWord :=
  [.param 0, .param 1, .param 2, .param 3, .param 4, .param 5, .param 6, .param 7, .launch,
    .acknowledge]

/-- The offset of a control word in the page (section 11.1). -/
def ControlWord.offset : ControlWord → Nat
  | .param i => 8 * i.val
  | .launch => 0x40
  | .acknowledge => 0x48

/-! ### Launch word (section 11.1) -/

/-- The command code of a launch word: bits 7:0. -/
def launchCode (w : Word) : BitVec 8 := BitVec.ofNat 8 w.toNat

/-- The declared count: bits 11:8. -/
def launchCount (w : Word) : BitVec 4 := BitVec.ofNat 4 (bits w 11 8)

/-- The tag: bits 23:16. -/
def launchTag (w : Word) : BitVec 8 := BitVec.ofNat 8 (bits w 23 16)

/-! ### Parameter words (section 11.1) -/

/-- The values of the parameter slots as a command takes them. -/
abbrev Params := Vector Word 8

/-- The fields of MAKE WINDOW. -/
structure WindowParams where
  index : Nat
  kind : Nat
  base : Nat
  size : Nat
  writers : BitVec 16
  readers : BitVec 16
  segLen : Nat
  pitch : Nat
  stride : Nat
deriving DecidableEq, Repr

/-- MAKE WINDOW: P0 index and kind, P1 base, P2 size, P3 sets, P4 length and pitch, P5 stride. -/
def windowParams (p : Params) : WindowParams :=
  { index := bits p[0] 7 0, kind := bits p[0] 9 8, base := p[1].toNat, size := p[2].toNat,
    writers := BitVec.ofNat 16 (bits p[3] 15 0), readers := BitVec.ofNat 16 (bits p[3] 31 16),
    segLen := bits p[4] 15 0, pitch := bits p[4] 48 32, stride := p[5].toNat }

/-- An index or id in bits 7:0 of P0. -/
def indexParam (p : Params) : Nat := bits p[0] 7 0

/-- The fields of OPEN STREAM. -/
structure StreamParams where
  count : Nat
  listed : List Nat
  lines : Nat
  slotCount : Nat
  timeout : Nat
  holdLimit : Nat
  markWord : Nat
deriving DecidableEq, Repr

/-- OPEN STREAM: P0 count and list, P1 lines and slots, P2 timeout and hold limit, P3 mark word. The
listed indices are those of the first `count` bytes after the count byte, six at most. -/
def streamParams (p : Params) : StreamParams :=
  let count := bits p[0] 7 0
  let all := (List.range 6).map (fun k => bits p[0] (8 * k + 15) (8 * k + 8))
  { count, listed := all.take count, lines := bits p[1] 15 0, slotCount := bits p[1] 23 16,
    timeout := bits p[2] 7 0, holdLimit := bits p[2] 15 8, markWord := p[3].toNat }

/-- The fields of BIND RING. -/
structure RingParams where
  id : Nat
  kind : Nat
  count : Nat
  base : Nat
  producerWord : Nat
  consumerWord : Nat
deriving DecidableEq, Repr

/-- BIND RING: P0 id, kind, count; P1 base; P2 producer word; P3 consumer word. -/
def ringParams (p : Params) : RingParams :=
  { id := bits p[0] 7 0, kind := bits p[0] 15 8, count := bits p[0] 31 16, base := p[1].toNat,
    producerWord := p[2].toNat, consumerWord := p[3].toNat }

/-- The fields of BIND RETURN. -/
structure ReturnParams where
  lines : Nat
  pitch : Nat
  base : Nat
  stride : Nat
  doneWord : Nat
deriving DecidableEq, Repr

/-- BIND RETURN: P0 lines and pitch, P1 base, P2 stride, P3 done word. -/
def returnParams (p : Params) : ReturnParams :=
  { lines := bits p[0] 15 0, pitch := bits p[0] 48 32, base := p[1].toNat, stride := p[2].toNat,
    doneWord := p[3].toNat }

/-- SET SPLIT: P0 15:0 F, 31:16 Rt. -/
def splitParams (p : Params) : Nat × Nat := (bits p[0] 15 0, bits p[0] 31 16)

/-- The operations of LINK CONTROL (section 11.1). -/
inductive LinkOperation where
  | enable | disable | retrain
deriving DecidableEq, Repr

/-- LINK CONTROL's operation, P0 7:0, none if unknown. -/
def linkOperation (p : Params) : Option LinkOperation :=
  match bits p[0] 7 0 with
  | 1 => some .enable
  | 2 => some .disable
  | 3 => some .retrain
  | _ => none

/-- LINK CONTROL's ceiling, P0 15:8, none if outside the four rates. -/
def linkCeiling (p : Params) : Option Rate := Rate.ofCode (bits p[0] 15 8)

/-- SNAPSHOT COUNTERS' option: none if a stray bit or both options are set (R159). -/
def snapshotOption (p : Params) : Option SnapshotOption :=
  match p[0].toNat with
  | 0 => some .keep
  | 1 => some .clear
  | 2 => some .preset
  | _ => none

/-! ### Send record and schedule image (section 11.2) -/

/-- The fields of a send record that the ring uses (R99, section 11.2). -/
def sendRecord (serial : Nat) (bs : List Byte) : SendRecord :=
  { serial, length := fieldAt bs 0 2, tag := byteAt bs 2, retry := (byteAt bs 3).toNat % 4,
    attention := decide (128 ≤ (byteAt bs 3).toNat), buffer := fieldAt bs 8 8 }

/-- The source a source code names: none for end, and none inside for a code that is none of the six
(section 11.2). -/
def sourceOfCode : Nat → Option (Option Source)
  | 0 => some none
  | 1 => some (some .video)
  | 2 => some (some (.ring 0))
  | 3 => some (some (.ring 1))
  | 4 => some (some (.ring 2))
  | 5 => some (some (.ring 3))
  | _ => none

/-- The source code and quota of entry `e` of slot `s` of an image (section 11.2). -/
def imageEntry (image : List Byte) (s e : Nat) : Nat × Nat :=
  ((byteAt image (16 * s + 2 * e)).toNat, (byteAt image (16 * s + 2 * e + 1)).toNat)

end Sys2Proof.Machine
end

