-- ==== Sys2Proof/Machine/Flags.lean ====
section
/-!
DEFINITION. Counters, events, sticky flags, ATTN, the words of the status block and the due list
(09_status_block_and_attention.md, 10_counters.md).
-/

namespace Sys2Proof.Machine

/-! ### Updates of one block of the state -/

def State.updPath (f : PathUnit → PathUnit) (s : State) : State := { s with path := f s.path }
def State.updMap (f : RegionMap → RegionMap) (s : State) : State := { s with map := f s.map }
def State.updTracker (f : Tracker → Tracker) (s : State) : State := { s with tracker := f s.tracker }
def State.updStitch (f : StitchUnit → StitchUnit) (s : State) : State := { s with stitch := f s.stitch }
def State.updSched (f : Scheduler → Scheduler) (s : State) : State := { s with sched := f s.sched }
def State.updRings (f : RingUnit → RingUnit) (s : State) : State := { s with rings := f s.rings }
def State.updLink (f : LinkUnit → LinkUnit) (s : State) : State := { s with link := f s.link }
def State.updMbox (f : Mailbox → Mailbox) (s : State) : State := { s with mbox := f s.mbox }
def State.updStatus (f : StatusUnit → StatusUnit) (s : State) : State := { s with status := f s.status }

/-- Something leaves the part at an output (log entry 7). -/
def State.emit (o : Output) (s : State) : State := { s with out := s.out ++ [o] }

/-! ### Counters (R169, R170) -/

/-- The 59 counters, in the snapshot order of R170; the capture group is given by position. -/
inductive Counter where
  | blockedWrites | blockedReads | initPasses | heldRequests | holdExpiries | mailboxTornWords
  | watchTornWords
  | strayWrites (position : Fin 6) | damagedSegments (position : Fin 6) | rewrites (position : Fin 6)
  | lateWrites (position : Fin 6)
  | unframedWrites | badMarks | staleMarks | linesWhole | linesTorn | linesAbsent | framesDropped
  | linesDroppedByOverrun | jobsSunk | videoPiecesSent | videoBytesSent | ringParcelsSent
  | reliableRetries | recordsFailed | recordsTooLarge | poisonedParcelsSent | returnWindowsGood
  | returnHeaderErrors | returnParcelCheckErrors | cmsgLanded | cmsgNaks | cmsgDuplicates
  | returnPiecesLanded | returnPiecesDiscarded | linkLosses | rateStepDowns | trainingFailures
  | baseReportedErrors
deriving DecidableEq, Repr

/-- The index of a counter in the snapshot order (R170). -/
def Counter.index : Counter → Fin 59
  | .blockedWrites => 0
  | .blockedReads => 1
  | .initPasses => 2
  | .heldRequests => 3
  | .holdExpiries => 4
  | .mailboxTornWords => 5
  | .watchTornWords => 6
  | .strayWrites k => ⟨7 + 4 * k.val, by omega⟩
  | .damagedSegments k => ⟨8 + 4 * k.val, by omega⟩
  | .rewrites k => ⟨9 + 4 * k.val, by omega⟩
  | .lateWrites k => ⟨10 + 4 * k.val, by omega⟩
  | .unframedWrites => 31
  | .badMarks => 32
  | .staleMarks => 33
  | .linesWhole => 34
  | .linesTorn => 35
  | .linesAbsent => 36
  | .framesDropped => 37
  | .linesDroppedByOverrun => 38
  | .jobsSunk => 39
  | .videoPiecesSent => 40
  | .videoBytesSent => 41
  | .ringParcelsSent => 42
  | .reliableRetries => 43
  | .recordsFailed => 44
  | .recordsTooLarge => 45
  | .poisonedParcelsSent => 46
  | .returnWindowsGood => 47
  | .returnHeaderErrors => 48
  | .returnParcelCheckErrors => 49
  | .cmsgLanded => 50
  | .cmsgNaks => 51
  | .cmsgDuplicates => 52
  | .returnPiecesLanded => 53
  | .returnPiecesDiscarded => 54
  | .linkLosses => 55
  | .rateStepDowns => 56
  | .trainingFailures => 57
  | .baseReportedErrors => 58

/-- An increment, taken whole and saturating at 0xFFFF_FFFF (R169). -/
def saturate (c : BitVec 32) (n : Nat) : BitVec 32 :=
  if c.toNat + n < 2 ^ 32 then BitVec.ofNat 32 (c.toNat + n) else 0xFFFFFFFF

/-- The value of a counter. -/
def State.counter (s : State) (c : Counter) : BitVec 32 := s.status.counters[c.index]

/-- The counter goes up by `n` (R169). -/
def State.countBy (c : Counter) (n : Nat) (s : State) : State :=
  s.updStatus fun u =>
    { u with counters := u.counters.set c.index (saturate u.counters[c.index] n) }

/-- The counter goes up by 1. -/
def State.count (c : Counter) (s : State) : State := s.countBy c 1

/-- A saturating 16-bit count of the link unit (R122). -/
def saturate16 (n : Nat) : Nat := if n < 65535 then n else 65535

/-! ### Events (R163) and ATTN (R166) -/

/-- The ten events. -/
inductive Event where
  | cmdDone | linkChange | streamClosed | frameDropped | ringAttn | ringHalt | schedHalt | tally
  | guard | memErr
deriving DecidableEq, Repr

/-- The event bit order of chapter 11. -/
def Event.mask : Event → BitVec 10
  | .cmdDone => 0x001
  | .linkChange => 0x002
  | .streamClosed => 0x004
  | .frameDropped => 0x008
  | .ringAttn => 0x010
  | .ringHalt => 0x020
  | .schedHalt => 0x040
  | .tally => 0x080
  | .guard => 0x100
  | .memErr => 0x200

/-- Whether an event is pending. -/
def State.eventPending (s : State) (e : Event) : Bool := decide (s.status.events &&& e.mask ≠ 0)

/-- Raising an event puts it in the pending set (R163). -/
def State.raise (e : Event) (s : State) : State :=
  s.updStatus fun u => { u with events := u.events ||| e.mask }

/-- ATTN is asserted exactly while some pending event is enabled (R166). -/
def State.attn (s : State) : Bool := decide (s.status.events &&& s.status.enable ≠ 0)

/-! ### The status block (R161, section 11.3) -/

/-- The head frame and the release cursor, none while the list is empty (R55, R68). -/
def Tracker.head (t : Tracker) : Option FrameRecord := t.frames.head?

/-- The value of word `n` of the status block, by the bytes of section 11.3. Where what a field mirrors is
absent (no change pending, no head frame, no guard fault recorded), the field holds 0, which is the
model's choice (log entry 39). -/
def State.statusWord (s : State) (n : Nat) : Word :=
  let l := s.link
  let ring (r : OutRing) : Nat :=
    atBit 0 r.state.code + atBit 8 r.cause.code + atBit 16 r.kind.code
  let inring (r : InRing) : Nat :=
    atBit 0 r.state.code + atBit 8 r.cause.code + atBit 16 (flag r.holdRequested)
  BitVec.ofNat 64 <|
    match n with
    | 0 => flag (decide (s.path.mode = .ready)) + atBit 8 l.state.code + atBit 16 (flag l.enabled) +
        atBit 24 l.ceiling.code + atBit 32 l.rate.code
    | 1 => atBit 0 l.shownCells.1 + atBit 16 l.shownCells.2 + atBit 32 l.splitF + atBit 48 l.splitRt
    | 2 =>
      match l.change with
      | none => 0
      | some c =>
        atBit 8 (flag c.echoed) + atBit 48 (c.effective.toNat % 65536) +
          (match c.change with
           | .rate r => 1 + atBit 16 r.code
           | .split f rt => 2 + atBit 16 f + atBit 32 rt)
    | 3 => l.probeCycles + atBit 16 l.tally.toNat
    | 4 =>
      atBit 0 s.tracker.stream.state.code +
        (match s.tracker.head with
         | none => 0
         | some f => atBit 8 1 + atBit 16 f.frame.toNat + atBit 32 f.cursor)
    | 5 => s.stitch.entries.length + atBit 8 s.sched.queue.length + atBit 16 s.sched.state.code
    | 6 => ring s.rings.outbound[0]
    | 7 => ring s.rings.outbound[1]
    | 8 => ring s.rings.outbound[2]
    | 9 => ring s.rings.outbound[3]
    | 10 => inring s.rings.inbound[0]
    | 11 => inring s.rings.inbound[1]
    | 12 => flag s.rings.ret.bound
    | 13 => atBit 0 s.sched.hold[0].toNat + atBit 8 s.sched.hold[1].toNat +
        atBit 16 s.sched.hold[2].toNat + atBit 24 s.sched.hold[3].toNat +
        atBit 32 s.sched.hold[4].toNat
    | 14 => atBit 16 (flag s.status.launchLost) + atBit 17 (flag s.status.paramTorn) +
        atBit 18 (flag s.status.inboundFull)
    | 15 => s.status.events.toNat
    | 16 => s.status.enable.toNat
    | 17 => (s.path.guard.map (fun g => g.addr.toNat)).getD 0
    | 18 =>
      match s.path.guard with
      | none => 0
      | some g => 1 + atBit 8 g.initiator.toNat + atBit 16 (flag g.isWrite) + atBit 24 g.origin.code
    | 19 => l.lastDropped.toNat + atBit 16 l.dropCount.toNat
    | _ => 0

/-- The 256 bytes of the status block (R161). -/
def State.statusBlock (s : State) : List Byte :=
  (List.range 32).flatMap (fun n => wordBytes (s.statusWord n))

/-- A word joins the tail of the due list unless it is on it (R162). -/
def joinDue (due : List (Fin 32)) (w : Fin 32) : List (Fin 32) :=
  if due.contains w then due else due ++ [w]

/-- The words that mirror state: 0 to 19 (R161). -/
def mirroredWords : List (Fin 32) :=
  [0, 1, 2, 3, 4, 5, 6, 7, 8, 9, 10, 11, 12, 13, 14, 15, 16, 17, 18, 19]

/-- The words whose values the change from `s` to `t` changed: those of `order` first, in its order, then
the others ascending. -/
def changedWords (order : List (Fin 32)) (s t : State) : List (Fin 32) :=
  (order ++ mirroredWords).filter (fun w => decide (s.statusWord w.val ≠ t.statusWord w.val))

/-- After one change from `s` to `t`, the words it changed become due while the part is READY, in the
order in which the rule of the change reaches them (R162, section 9.7; log entry 6). -/
def noteChanges (order : List (Fin 32)) (s t : State) : State :=
  match t.path.mode with
  | .initializing => t
  | .ready => t.updStatus fun u => { u with due := (changedWords order s t).foldl joinDue u.due }

/-- The order in which a change from one state to another reaches its words: those named come first, in
this order, the others after them ascending (log entry 6). -/
abbrev WordOrder := State → State → List (Fin 32)

/-- Words that no rule orders become due ascending (log entry 6). -/
def ascending : WordOrder := fun _ _ => []

/-- Word 15 at the place where an event is raised that was not pending. -/
def raisedBy (e : Event) : WordOrder := fun s t =>
  if t.eventPending e && !s.eventPending e then [15] else []

/-- One change of the part, with the words it makes due in its rule's order. -/
def mirroredIn (order : WordOrder) (f : State → State) (s : State) : State :=
  let t := f s
  noteChanges (order s t) s t

/-- One change of the part whose words no rule orders otherwise than ascending. -/
def mirrored (f : State → State) (s : State) : State := mirroredIn ascending f s

end Sys2Proof.Machine
end

