-- ==== Sys2Proof/Machine/Ops.lean ====
section
/-!
DEFINITION. The named operations that several blocks share: own requests, result writes and command
completion, the outcome of a change, and picking an outstanding request
(R13, R15, R150, R152, R162).
-/

namespace Sys2Proof.Machine

/-- The outcome of a step of the part. -/
abbrev Result := Host.Outcome State Fault Refusal

/-- The next state of a command that is one change whose words become due in an order (R162). -/
def changeIn (order : WordOrder) (f : State → State) (s : State) : Result := .next (mirroredIn order f s)

/-- The next state of a command that is one change whose words become due ascending (R162). -/
def change (f : State → State) (s : State) : Result := changeIn ascending f s

/-! ### Own requests (R13) -/

/-- An own request joins the tail of the EGRESS class. -/
def State.issueEgress (owner : Owner) (addr n : Nat) (s : State) : State :=
  s.updPath fun p =>
    { p with egress := p.egress ++ [{ owner, addr, access := .read n, live := true }] }

/-- An own read joins the tail of the OTHER class. -/
def State.issueRead (owner : Owner) (addr n : Nat) (s : State) : State :=
  s.updPath fun p =>
    { p with other := p.other ++ [{ owner, addr, access := .read n, live := true }] }

/-- An own write joins the tail of the OTHER class. -/
def State.issueWrite (owner : Owner) (addr : Nat) (data : List Byte) (s : State) : State :=
  s.updPath fun p =>
    { p with other := p.other ++ [{ owner, addr, access := .write data, live := true }] }

/-- Own writes split at 256-byte boundaries, in ascending order (R112, R117); with their number. -/
def State.issueSplit (owner : Owner) (addr : Nat) (data : List Byte) (s : State) : State :=
  (chunks data.length addr data.length).foldl
    (fun t c => t.issueWrite owner c.1 (bytesAt data (c.1 - addr) c.2)) s

/-- The number of writes `issueSplit` issues. -/
def splitCount (addr n : Nat) : Nat := (chunks n addr n).length

/-- The writing of an index word: the index in bits 15:0 and 0 above (R175); a ring with no such word
writes nothing. -/
def State.issueIndex (owner : Owner) (word : Option Nat) (index : RingIndex) (s : State) : State :=
  match word with
  | none => s
  | some a => s.issueWrite owner a (leBytes 8 index.toNat)

/-- A status write of word `w` with its present value (R162). -/
def State.issueStatus (w : Fin 32) (s : State) : State :=
  s.issueWrite .status (s.straps.mailboxPage + 0x100 + 8 * w.val) (wordBytes (s.statusWord w.val))

/-- An own request whose response no longer acts on any block. -/
def OwnRequest.retired (q : OwnRequest) : OwnRequest := { q with live := false }

/-- Whether an own request is a read. -/
def OwnRequest.isRead (q : OwnRequest) : Bool :=
  match q.access with
  | .read _ => true
  | .write _ => false

/-- The element at a place among those that satisfy `p`, and the list without it. -/
def takeNth {α : Type} (p : α → Bool) : Nat → List α → Option (α × List α)
  | _, [] => none
  | k, x :: xs =>
    if p x then
      match k with
      | 0 => some (x, xs)
      | k + 1 => (takeNth p k xs).map (fun r => (r.1, x :: r.2))
    else (takeNth p k xs).map (fun r => (r.1, x :: r.2))

/-! ### Results (R150, R152, section 11.1) -/

/-- The error codes of R150. -/
inductive ErrorCode where
  | noError | unknownOp | shape | stale | range | locked | inUse | stateError | unboundError | memory
  | noAgreement | superseded | linkBusy | aborted
deriving DecidableEq, Repr

/-- The numbers of R150's table. -/
def ErrorCode.code : ErrorCode → Byte
  | .noError => 0
  | .unknownOp => 1
  | .shape => 2
  | .stale => 3
  | .range => 4
  | .locked => 5
  | .inUse => 6
  | .stateError => 7
  | .unboundError => 8
  | .memory => 9
  | .noAgreement => 10
  | .superseded => 11
  | .linkBusy => 12
  | .aborted => 13

/-- The status byte of a result word (section 11.1). -/
inductive ResultStatus where
  | running | done | failed
deriving DecidableEq, Repr

def ResultStatus.code : ResultStatus → Byte
  | .running => 0
  | .done => 1
  | .failed => 2

/-- The own write of the result word; `raises` when its acceptance raises CMD_DONE. -/
def State.issueResult (st : ResultStatus) (c : CommandTag) (e : ErrorCode) (raises : Bool)
    (s : State) : State :=
  s.issueWrite (.resultWord raises) (s.straps.mailboxPage + 0x080)
    [st.code, c.code, c.tag, e.code, 0, 0, 0, 0]

/-- The one own write of the eight result data words (R152), 0 where the command uses none. -/
def State.issueData (data : List Word) (s : State) : State :=
  s.issueWrite .resultData (s.straps.mailboxPage + 0x088)
    ((List.range 8).flatMap (fun k => wordBytes (data.getD k 0)))

/-- The running command ends: result data, then the result word, and the state becomes IDLE (R152). -/
def State.finish (e : ErrorCode) (data : List Word) (s : State) : State :=
  match s.mbox.running with
  | none => s
  | some c =>
    let st := if e = .noError then ResultStatus.done else .failed
    ((s.issueData data).issueResult st c e true).updMbox fun m => { m with running := none }

/-- The codes of the seventeen commands (section 8.7). -/
inductive Command where
  | makeWindow | clearWindow | lockWindow | readWindowFirst | readWindowNext | openStream
  | closeStream | bindRing | bindReturn | unbind | resumeRing | loadSchedule | setSplit
  | linkControl | snapshotCounters | setEvents | restart
deriving DecidableEq, Repr

def Command.code : Command → BitVec 8
  | .makeWindow => 0x01
  | .clearWindow => 0x02
  | .lockWindow => 0x03
  | .readWindowFirst => 0x04
  | .readWindowNext => 0x05
  | .openStream => 0x06
  | .closeStream => 0x07
  | .bindRing => 0x08
  | .bindReturn => 0x09
  | .unbind => 0x0A
  | .resumeRing => 0x0B
  | .loadSchedule => 0x0C
  | .setSplit => 0x0D
  | .linkControl => 0x0E
  | .snapshotCounters => 0x0F
  | .setEvents => 0x10
  | .restart => 0x11

/-- The fixed parameter counts (section 8.7). -/
def Command.paramCount : Command → Nat
  | .makeWindow => 6
  | .clearWindow => 1
  | .lockWindow => 1
  | .readWindowFirst => 0
  | .readWindowNext => 0
  | .openStream => 4
  | .closeStream => 0
  | .bindRing => 4
  | .bindReturn => 4
  | .unbind => 1
  | .resumeRing => 1
  | .loadSchedule => 1
  | .setSplit => 1
  | .linkControl => 1
  | .snapshotCounters => 1
  | .setEvents => 1
  | .restart => 0

/-- The seventeen commands, in the order of section 8.7. -/
def allCommands : List Command :=
  [.makeWindow, .clearWindow, .lockWindow, .readWindowFirst, .readWindowNext, .openStream,
    .closeStream, .bindRing, .bindReturn, .unbind, .resumeRing, .loadSchedule, .setSplit,
    .linkControl, .snapshotCounters, .setEvents, .restart]

/-- The command of a code, none for a code that is none of the seventeen. -/
def Command.ofCode (code : BitVec 8) : Option Command := allCommands.find? (fun c => c.code == code)

/-- Whether the running command is `c`. -/
def State.isRunning (s : State) (c : Command) : Bool :=
  match s.mbox.running with
  | none => false
  | some r => r.code == c.code

/-- The command `c` ends if it is the one running. -/
def State.finishIf (c : Command) (e : ErrorCode) (data : List Word) (s : State) : State :=
  if s.isRunning c then s.finish e data else s

/-- A link frame count as a result data word (section 11.1). -/
def State.countWord (s : State) : Word := BitVec.ofNat 64 s.link.count.toNat

/-! ### Guard faults (R16) -/

/-- A request is blocked: answered ERROR, counted, GUARD raised, and the first guard fault record
filled if it is empty (R12, R16). -/
def State.block (r : Request) (o : Origin) (s : State) : State :=
  let t := s.emit (.answer r.initiator true [])
  let t := if r.isWrite then t.count .blockedWrites else t.count .blockedReads
  (t.raise .guard).updPath fun p =>
    match p.guard with
    | some _ => p
    | none =>
      { p with
        guard := some { addr := r.addr, initiator := r.initiator, isWrite := r.isWrite, origin := o } }

end Sys2Proof.Machine
end

