-- ==== Sys2Proof/Machine/RegionMap.lean ====
section
/-!
DEFINITION. The region map: lookup, and the checks and effects of its five commands
(02_the_region_map.md).
-/

namespace Sys2Proof.Machine

/-- An entry of kind CAPTURE or GUARD is valid (R20). -/
def Window.valid (w : Window) : Bool := decide (w.kind ≠ .free)

/-- A window contains an address a when base ≤ a < base + size (R20). -/
def Window.contains (w : Window) (a : Nat) : Bool :=
  decide (w.base ≤ a) && decide (a < w.base + w.size)

/-- Whether an initiator is in a writer or reader set (R20). -/
def inSet (ids : BitVec 16) (id : BitVec 4) : Bool := ids.getLsbD id.toNat

/-- Whether the request is permitted by the window's sets (R5). -/
def Window.permits (w : Window) (r : Request) : Bool :=
  inSet (if r.isWrite then w.writers else w.readers) r.initiator

/-- The lowest index that satisfies `p` (R21, R31). -/
def RegionMap.firstFrom (m : RegionMap) (start : Nat) (p : Window → Bool) : Option (Fin 32) :=
  (List.finRange 32).find? (fun i => decide (start ≤ i.val) && p m.windows[i])

/-- The lookup: the valid entry of lowest index that contains the address; while INITIALIZING, locked
entries alone (R21). -/
def State.lookup (s : State) (a : Nat) : Option (Fin 32) :=
  s.map.firstFrom 0 fun w =>
    w.valid && w.contains a && (decide (s.path.mode = .ready) || w.locked)

/-- The segment position of a window: its place in the stream's window list (R21). -/
def Stream.position (t : Stream) (w : Fin 32) : Option (Fin 6) :=
  if t.state = .closed then none
  else
    match t.windows.findIdx? (fun v => v == w) with
    | none => none
    | some k => if h : k < 6 then some ⟨k, h⟩ else none

/-- Whether an index is named by an OPEN or DRAINING stream (R28). -/
def State.windowInUse (s : State) (i : Fin 32) : Bool :=
  decide (s.tracker.stream.state ≠ .closed) && s.tracker.stream.windows.contains i

/-- The geometry values R20 allows for CAPTURE, checked in order (R24 check 6). -/
def geometryOk (w : WindowParams) : Bool :=
  decide (16 ≤ w.segLen) && decide (w.segLen ≤ 8192) && decide (w.segLen % 16 = 0) &&
  decide (w.pitch % 16 = 0) && decide (w.segLen ≤ w.pitch) && decide (w.pitch ≤ 65536) &&
  decide (w.stride % 16 = 0) && decide (w.pitch ≤ w.stride) && decide (w.stride ≤ w.size)

/-- MAKE WINDOW's own checks, in order (R24). -/
def checkMakeWindow (p : Params) (s : State) : Option ErrorCode :=
  let w := windowParams p
  if h : w.index < 32 then
    if w.kind ≠ 1 ∧ w.kind ≠ 2 then some .range
    else if (s.map.windows[w.index]).locked then some .locked
    else if s.windowInUse ⟨w.index, h⟩ then some .inUse
    else if w.base % 256 ≠ 0 ∨ w.size = 0 ∨ w.size % 256 ≠ 0 ∨ Config.addressSpace < w.base + w.size then
      some .range
    else if w.writers.getLsbD 15 || w.readers.getLsbD 15 then some .range
    else if w.kind = 1 ∧ geometryOk w = false then some .range
    else if overlaps w.base w.size s.straps.mailboxPage (s.straps.mailboxPage + 0x1000) then
      some .range
    else none
  else some .range

/-- The entry MAKE WINDOW makes (R24, R25): a GUARD's geometry is 0, and locked is no. -/
def madeWindow (w : WindowParams) : Window :=
  let capture := decide (w.kind = 1)
  { kind := if capture then .capture else .guard, base := w.base, size := w.size,
    writers := w.writers, readers := w.readers, locked := false,
    segLen := if capture then w.segLen else 0, pitch := if capture then w.pitch else 0,
    stride := if capture then w.stride else 0 }

/-- The entry at an index is replaced. -/
def State.setWindow (i : Nat) (w : Window) (s : State) : State :=
  if h : i < 32 then s.updMap fun m => { m with windows := m.windows.set i w } else s

/-- A word that holds one number. -/
def numberWord (n : Nat) : Word := BitVec.ofNat 64 n

/-- MAKE WINDOW's effect and result data (R25). -/
def doMakeWindow (p : Params) (s : State) : State × List Word :=
  let w := windowParams p
  (s.setWindow w.index (madeWindow w), [numberWord w.index])

/-- CLEAR WINDOW's own checks, in order (R26). -/
def checkClearWindow (p : Params) (s : State) : Option ErrorCode :=
  let i := indexParam p
  if h : i < 32 then
    if (s.map.windows[i]).locked then some .locked
    else if s.windowInUse ⟨i, h⟩ then some .inUse
    else none
  else some .range

/-- CLEAR WINDOW's effect and result data (R26). -/
def doClearWindow (p : Params) (s : State) : State × List Word :=
  (s.setWindow (indexParam p) Window.free, [numberWord (indexParam p)])

/-- LOCK WINDOW's own checks, in order (R27). -/
def checkLockWindow (p : Params) (s : State) : Option ErrorCode :=
  let i := indexParam p
  if h : i < 32 then
    if (s.map.windows[i]).valid then none else some .stateError
  else some .range

/-- LOCK WINDOW's effect and result data (R27). -/
def doLockWindow (p : Params) (s : State) : State × List Word :=
  let i := indexParam p
  (if h : i < 32 then s.setWindow i { s.map.windows[i] with locked := true } else s, [numberWord i])

/-- The result data of a walk step that reports entry `i` (R31, section 11.1). -/
def walkData (i : Fin 32) (w : Window) (last : Bool) : List Word :=
  [numberWord (i.val + atBit 8 1 + atBit 9 (flag last) + atBit 16 w.kind.code + atBit 24 (flag w.locked)),
   numberWord w.base, numberWord w.size,
   numberWord (w.writers.toNat + atBit 16 w.readers.toNat),
   numberWord (w.segLen + atBit 32 w.pitch), numberWord w.stride]

/-- A walk step: the search from an index, what it reports, and the cursor (R31, R32). -/
def walkFrom (start : Nat) (s : State) : State × List Word :=
  match s.map.firstFrom start Window.valid with
  | none => (s.updMap fun m => { m with cursor := 32 }, [numberWord (atBit 9 1)])
  | some i =>
    let last := (s.map.firstFrom (i.val + 1) Window.valid).isNone
    (s.updMap fun m => { m with cursor := i.val + 1 }, walkData i s.map.windows[i] last)

/-- READ WINDOW FIRST (R31). -/
def doReadFirst (s : State) : State × List Word := walkFrom 0 s

/-- READ WINDOW NEXT (R32). -/
def doReadNext (s : State) : State × List Word := walkFrom s.map.cursor s

/-- The map at restart: locked entries are kept, the others become FREE, the cursor 0 (R33). -/
def RegionMap.restarted (m : RegionMap) : RegionMap :=
  { windows := m.windows.map (fun w => if w.locked then w else Window.free), cursor := 0 }

end Sys2Proof.Machine
end

