-- ==== Sys2Proof/Machine/Stream.lean ====
section
/-!
DEFINITION. The stream, positions, the mapping of a capture write and the hold question, and OPEN
STREAM's and CLOSE STREAM's checks (03_frames_and_segments.md; 04_the_stitch_table.md section 4.1).
-/

namespace Sys2Proof.Machine

/-- The stream is OPEN or DRAINING (R35). -/
def Stream.isOpen (t : Stream) : Bool := decide (t.state ≠ .closed)

/-- The index on the frame list of the frame that a slot's writes belong to (R43). -/
def Tracker.indexOf (t : Tracker) (frame : FrameNumber) (slot : Fin 4) : Option Nat :=
  t.frames.findIdx? (fun f => f.frame == frame && f.slot == slot)

/-- The head frame's release cursor, 0 while there is none (R55). -/
def Tracker.cursor (t : Tracker) : Nat := (t.head.map FrameRecord.cursor).getD 0

/-- The position of line `line` of the frame at list index `i`: d = i × lines + L − c (R55). -/
def Tracker.position (t : Tracker) (i line : Nat) : Int :=
  (i : Int) * (t.stream.lines : Int) + (line : Int) - (t.cursor : Int)

/-- What a capture write maps to (R51, R52). -/
inductive Mapped where
  | stray
  | unframed
  | line (frame : FrameNumber) (slot : Fin 4) (line byte : Nat)
deriving DecidableEq, Repr

/-- The offset of an address from a window's base, taken modulo 2^40 (R51; log entry 16). -/
def Window.offset (w : Window) (a : Addr) : Nat :=
  (a.toNat + Config.addressSpace - w.base) % Config.addressSpace

/-- The mapping of R51 and the sorting of R52, from the write's first byte. -/
def Tracker.mapWrite (t : Tracker) (w : Window) (a : Addr) : Mapped :=
  let o := w.offset a
  let s := o / w.stride
  let r := o % w.stride
  let line := r / w.pitch
  let b := r % w.pitch
  if t.stream.slotCount ≤ s ∨ t.stream.lines ≤ line ∨ w.segLen ≤ b then .stray
  else if h : s < 4 then
    match (t.slots[s]).frame with
    | none => .unframed
    | some f => .line f ⟨s, h⟩ line b
  else .stray

/-- The stitch unit's answer to the hold question for a frame and line: the frame is on the list, the
line stands at position 48 or beyond, and the hold limit is above 0 (R56). -/
def Tracker.holdAnswer (t : Tracker) (frame : FrameNumber) (slot : Fin 4) (line : Nat) : Bool :=
  match t.indexOf frame slot with
  | none => false
  | some i =>
    decide ((Config.stitchWindow : Int) ≤ t.position i line) && decide (0 < t.stream.holdLimit)

/-- The hold question for a write in a window of the stream (R50). -/
def Tracker.mustHold (t : Tracker) (w : Window) (a : Addr) : Bool :=
  t.stream.isOpen &&
    match t.mapWrite w a with
    | .line f s l _ => t.holdAnswer f s l
    | .stray | .unframed => false

/-! ### Words in use (R96) and the mailbox page -/

/-- The index words of the bound rings and the done word of a bound return picture (R36 check 9, R96). -/
def RingUnit.wordsInUse (r : RingUnit) : List Nat :=
  (r.outbound.toList.filter (fun o => decide (o.state ≠ .unbound))).flatMap
      (fun o => o.producerWord.toList ++ o.consumerWord.toList) ++
    (r.inbound.toList.filter (fun o => decide (o.state ≠ .unbound))).flatMap
      (fun o => o.producerWord.toList ++ o.consumerWord.toList) ++
    (if r.ret.bound then r.ret.doneWord.toList else [])

/-- The words in use that R96 check 6 and R116 check 5 list: also the stream's mark word. -/
def State.wordsInUse (s : State) : List Nat :=
  (if s.tracker.stream.isOpen then [s.tracker.stream.markWord] else []) ++ s.rings.wordsInUse

/-- An index, mark or done word must be aligned to 8 and lie outside the mailbox page (R36, R96, R116). -/
def State.badWord (s : State) (a : Nat) : Bool :=
  decide (a % 8 ≠ 0) || overlaps a 8 s.straps.mailboxPage (s.straps.mailboxPage + 0x1000)

/-! ### OPEN STREAM and CLOSE STREAM -/

/-- The windows a list of indices names. -/
def RegionMap.named (m : RegionMap) (listed : List Nat) : List Window :=
  listed.map (fun i => if h : i < 32 then m.windows[i] else Window.free)

/-- OPEN STREAM's own checks, in order (R36). -/
def checkOpenStream (p : Params) (s : State) : Option ErrorCode :=
  let q := streamParams p
  let ws := s.map.named q.listed
  if s.tracker.stream.state ≠ .closed then some .stateError
  else if q.count = 0 ∨ 6 < q.count ∨ q.listed.any (fun i => decide (32 ≤ i)) then some .range
  else if q.lines = 0 ∨ 4352 < q.lines ∨ q.slotCount = 0 ∨ 4 < q.slotCount ∨ q.timeout = 0 ∨
      255 < q.timeout ∨ 15 < q.holdLimit then some .range
  else if ws.any (fun w => decide (w.kind ≠ .capture)) then some .stateError
  else if !decide q.listed.Nodup then some .range
  else if ws.any (fun w =>
      decide (w.size < q.slotCount * w.stride) || decide (w.stride < q.lines * w.pitch)) then
    some .range
  else if 16384 < (ws.map Window.segLen).sum then some .range
  else if s.badWord q.markWord then some .range
  else if s.rings.wordsInUse.contains q.markWord then some .inUse
  else none

/-- OPEN STREAM's effect and result data (R37). -/
def doOpenStream (p : Params) (s : State) : State × List Word :=
  let q := streamParams p
  let payload := ((s.map.named q.listed).map Window.segLen).sum
  let stream : Stream :=
    { state := .openState, windows := q.listed.filterMap (fun i => if h : i < 32 then some ⟨i, h⟩ else none),
      lines := q.lines, slotCount := q.slotCount, timeout := q.timeout, holdLimit := q.holdLimit,
      markWord := q.markWord, linePayload := payload }
  ((s.updTracker fun _ => { Tracker.empty with stream }).updStitch fun u => { u with entries := [] },
    [numberWord payload])

/-- CLOSE STREAM's own check (R38). -/
def checkCloseStream (s : State) : Option ErrorCode :=
  if s.tracker.stream.state = .openState then none else some .stateError

end Sys2Proof.Machine
end

