-- ==== Sys2Proof/Machine/PathUnit.lean ====
section
/-!
DEFINITION. The path unit: classification, the hold queue, the pass queue, the arbiter, and the
commands that act on them (01_the_memory_path.md).
-/

namespace Sys2Proof.Machine

/-! ### Classification (section 1.2) -/

/-- The protection of R2, R3 and R5: the origin of the block, none where the request may go on. While
INITIALIZING the mailbox step does not apply (R17); the lookup then sees locked entries alone (R21). -/
def State.protection (s : State) (r : Request) : Option Origin :=
  let a := r.addr.toNat
  let page := s.straps.mailboxPage
  if r.initiator = 15 then some .id15
  else if s.path.mode = .ready ∧ inMailbox page a then
    if r.isWrite && (touchesPartWritten page a r.size ||
        (touchesControl page a r.size && decide (r.initiator ≠ s.straps.ctlid))) then some .mailbox
    else none
  else
    match s.lookup a with
    | none => none
    | some i => if (s.map.windows[i]).permits r then none else some (.window i)

/-- The tap entries of a mailbox write: one for each control word it touches (R4). -/
def controlTaps (page a : Nat) (data : List Byte) : List Tap :=
  controlWords.filterMap fun w =>
    let at_ := page + w.offset
    if overlaps a data.length at_ (at_ + 8) then some (.control w (coveredWord a data at_)) else none

/-- The current watch words (R6). -/
def State.watchWords (s : State) : List Nat :=
  (if s.tracker.stream.isOpen then [s.tracker.stream.markWord] else []) ++
  (s.rings.outbound.toList.filter (fun o => decide (o.state ≠ .unbound))).flatMap
    (fun o => o.producerWord.toList) ++
  (s.rings.inbound.toList.filter (fun o => decide (o.state ≠ .unbound))).flatMap
    (fun o => o.consumerWord.toList)

/-- The watch words a write touches, ascending, each with its value if covered whole (R6). -/
def State.watchTouched (s : State) (a : Nat) (data : List Byte) : List (Nat × Option Word) :=
  ((touchedWords a data.length).filter (fun w => s.watchWords.contains w)).map
    (fun w => (w, coveredWord a data w))

/-- What classification decides: a pass with its tap set and the number of watch words torn, a hold,
or a block with its origin (R1, R2 to R6). -/
inductive Verdict where
  | pass (taps : List Tap) (torn : Nat)
  | hold
  | block (origin : Origin)
deriving DecidableEq, Repr

/-- A write that goes on to the watch word step with the tap set so far (R6). -/
def State.watchStep (s : State) (taps : List Tap) (a : Nat) (data : List Byte) : Verdict :=
  let touched := s.watchTouched a data
  .pass
    (taps ++ touched.filterMap (fun w => w.2.map (fun v => Tap.watch w.1 v)))
    (touched.filter (fun w => w.2.isNone)).length

/-- Classification of a request (R2 to R6, R17, R22, R50). -/
def State.classify (s : State) (r : Request) : Verdict :=
  match s.protection r with
  | some o => .block o
  | none =>
    match s.path.mode, r.access with
    | .initializing, _ => .pass [] 0
    | .ready, .read _ => .pass [] 0
    | .ready, .write data =>
      let a := r.addr.toNat
      let page := s.straps.mailboxPage
      if inMailbox page a then s.watchStep (controlTaps page a data) a data
      else
        match s.lookup a with
        | none => s.watchStep [] a data
        | some i =>
          let w := s.map.windows[i]
          match w.kind, s.tracker.stream.position i with
          | .capture, some k =>
            if s.tracker.mustHold w r.addr then .hold else s.watchStep [.capture i k] a data
          | _, _ => s.watchStep [] a data

/-! ### The queues (R1, R7, R9, R10) -/

/-- A request joins the tail of the pass queue. -/
def State.joinPass (r : Request) (taps : List Tap) (s : State) : State :=
  s.updPath fun p => { p with pass := p.pass ++ [{ request := r, taps }] }

/-- A request joins the tail of the hold queue and counts *held requests* (R7). -/
def State.joinHold (r : Request) (role : Role) (s : State) : State :=
  (s.updPath fun p =>
    { p with
      hold := p.hold ++ [{ request := r, role, entry := s.link.count,
                           deadline := s.link.count + BitVec.ofNat 32 s.tracker.stream.holdLimit }] }).count
    .heldRequests

/-- Whether an initiator has a request in the hold queue. -/
def PathUnit.holds (p : PathUnit) (i : BitVec 4) : Bool := p.hold.any (fun h => h.request.initiator == i)

/-- The oldest held request of an initiator. -/
def PathUnit.oldest (p : PathUnit) (i : BitVec 4) : Option Held :=
  p.hold.find? (fun h => h.request.initiator == i)

/-- The oldest held request of an initiator leaves the hold queue. -/
def State.leaveHold (i : BitVec 4) (s : State) : State :=
  s.updPath fun p => { p with hold := p.hold.eraseP (fun h => h.request.initiator == i) }

/-- A request taken from the upstream port is classified, or joins as a follower (R1, R7, R17). -/
def State.takeIn (r : Request) (s : State) : State :=
  if s.path.holds r.initiator then s.joinHold r .follower
  else
    match s.classify r with
    | .pass taps torn =>
      let t := (s.countBy .watchTornWords torn).joinPass r taps
      if s.path.mode = .initializing then t.count .initPasses else t
    | .hold => s.joinHold r .leader
    | .block o => s.block r o

/-- The upstream port takes a new request (R1, R8). -/
def PathUnit.portOpen (p : PathUnit) : Bool :=
  decide (p.hold.length < Config.holdCapacity) && decide (p.pass.length < Config.passAdmit)

/-- Requests waiting on the interconnect are taken while the port is open (R1). -/
def takeLoop : Nat → State → State
  | 0, s => s
  | fuel + 1, s =>
    match s.path.waiting with
    | [] => s
    | r :: rest =>
      if s.path.portOpen then
        takeLoop fuel ((s.updPath fun p => { p with waiting := rest }).takeIn r)
      else s

/-- Every waiting request that the port now takes (R1). -/
def State.takeWaiting (s : State) : State := takeLoop s.path.waiting.length s

/-- The held leader leaves untapped and counts *hold expiries* (R10). -/
def State.expire (h : Held) (s : State) : State :=
  ((s.leaveHold h.request.initiator).joinPass h.request []).count .holdExpiries

/-- The first held request of an initiator takes the role of leader. -/
def promoteFirst (i : BitVec 4) : List Held → List Held
  | [] => []
  | h :: hs =>
    if h.request.initiator = i then { h with role := .leader } :: hs else h :: promoteFirst i hs

/-- The oldest request of an initiator becomes the leader of its chain, keeping its own entry count and
deadline (R9). -/
def State.promote (i : BitVec 4) (s : State) : State :=
  s.updPath fun p => { p with hold := promoteFirst i p.hold }

/-- An initiator's followers are classified in turn, until one stays held or none is left (R9, R10). -/
def chainLoop : Nat → BitVec 4 → State → State
  | 0, _, s => s
  | fuel + 1, i, s =>
    match s.path.oldest i with
    | none => s
    | some h =>
      match s.classify h.request with
      | .hold =>
        if reached s.link.count h.deadline then chainLoop fuel i (s.expire h) else s.promote i
      | .pass taps torn =>
        chainLoop fuel i (((s.leaveHold i).countBy .watchTornWords torn).joinPass h.request taps)
      | .block o => chainLoop fuel i ((s.leaveHold i).block h.request o)

/-- The chain of an initiator whose leader has left. -/
def State.workChain (i : BitVec 4) (s : State) : State := chainLoop s.path.hold.length i s

/-- A held leader is classified afresh (R9). -/
def State.reclassifyLeader (i : BitVec 4) (s : State) : State :=
  match s.path.oldest i with
  | none => s
  | some h =>
    match s.classify h.request with
    | .hold => s
    | .pass taps torn =>
      (((s.leaveHold i).countBy .watchTornWords torn).joinPass h.request taps).workChain i
    | .block o => ((s.leaveHold i).block h.request o).workChain i

/-- The initiators of the leaders, oldest first. -/
def PathUnit.leaders (p : PathUnit) : List (BitVec 4) :=
  (p.hold.filter (fun h => decide (h.role = .leader))).map (fun h => h.request.initiator)

/-- At a cursor advance the held leaders are classified afresh, oldest first (R9). -/
def State.reclassify (s : State) : State :=
  s.path.leaders.foldl (fun t i => t.reclassifyLeader i) s

/-! ### The arbiter (R14) -/

/-- The side the arbiter would grant next, none while nothing waits (R14). -/
def PathUnit.nextSide (p : PathUnit) : Option Side :=
  let passWaits := !p.pass.isEmpty
  let ownWaits := !(p.egress.isEmpty && p.other.isEmpty)
  if passWaits && ownWaits then some (match p.lastSide with | .pass => .own | .own => .pass)
  else if passWaits then some .pass
  else if ownWaits then some .own
  else none

/-- The grant of the own side: the head of EGRESS, and the head of OTHER when EGRESS is empty (R14). -/
def State.grantOwn (s : State) : State :=
  let out (q : OwnRequest) (p : PathUnit) : PathUnit :=
    { p with lastSide := .own, ownOut := p.ownOut ++ [q] }
  match s.path.egress, s.path.other with
  | q :: rest, _ => (s.updPath fun p => out q { p with egress := rest }).emit (.own q.owner q.addr q.access)
  | [], q :: rest => (s.updPath fun p => out q { p with other := rest }).emit (.own q.owner q.addr q.access)
  | [], [] => s

/-! ### The commands -/

/-- UPSTREAM_REQUEST (R1, R8): the request waits at the port, and the port takes what it can. -/
def execUpstreamRequest (r : Request) (s : State) : Result :=
  if r.wf then
    change (fun t => (t.updPath fun p => { p with waiting := p.waiting ++ [r] }).takeWaiting) s
  else .fault .malformedRequest

/-- HOLD_EXPIRY (R10): the leader of the initiator leaves if its deadline is reached. -/
def execHoldExpiry (i : BitVec 4) (s : State) : Result :=
  match s.path.oldest i with
  | none => .next s
  | some h =>
    if h.role = .leader ∧ reached s.link.count h.deadline then
      change (fun t => ((t.expire h).workChain i).takeWaiting) s
    else .next s

/-- OWN_REQUEST_GRANT (R14), when the arbiter grants the own side. -/
def execOwnRequestGrant (s : State) : Result :=
  if s.path.nextSide = some .own then change State.grantOwn s else .next s

end Sys2Proof.Machine
end

