-- ==== Sys2Proof/Machine/VideoQueue.lean ====
section
/-!
DEFINITION. The video queue: appending, sinking and removing jobs, the finishing of lines, and the end
of a drain (05_forward_scheduling.md section 5.1; R44, R73).
-/

namespace Sys2Proof.Machine

/-- The lines a job reports when it is sent or sunk (R44, R78). -/
def JobBody.lines : JobBody → Nat
  | .line _ _ _ _ _ => 1
  | .absentRun _ n => n
  | .frameEnd _ _ _ => 0

/-- Lines of a frame finish: its slot's unfinished count goes down, never below 0 (R44). -/
def State.finishLines (frame : FrameNumber) (slot : Fin 4) (n : Nat) (s : State) : State :=
  s.updTracker fun t =>
    if (t.slots[slot]).frame = some frame then
      { t with slots := t.slots.set slot { t.slots[slot] with unfinished := (t.slots[slot]).unfinished - n } }
    else t

/-- The drain ends when the frame list is empty and the video queue holds no job: the stream becomes
CLOSED, STREAM_CLOSED is raised and CLOSE STREAM completes (R73, R38). -/
def State.drainTest (s : State) : State :=
  if s.tracker.stream.state = .draining ∧ s.tracker.frames = [] ∧ s.sched.queue = [] then
    let t := s.updTracker fun t =>
      { t with stream := Stream.closed, slots := t.slots.map (fun r => { r with unfinished := 0 }) }
    (t.raise .streamClosed).finishIf .closeStream .noError [s.countWord]
  else s

/-- A job is sunk: counted, and its lines reported finished (R79). -/
def State.sink (j : Job) (s : State) : State :=
  (s.count .jobsSunk).finishLines j.frame j.slot j.body.lines

/-- A job appended by the stitch unit: at the tail of the queue, or sunk at once while the link is not
UP (R77, R79). -/
def State.appendJob (frame : FrameNumber) (slot : Fin 4) (body : JobBody) (s : State) : State :=
  let j : Job := { id := s.sched.nextJob, frame, slot, body, placing := .waiting }
  let t := s.updSched fun c => { c with nextJob := c.nextJob + 1 }
  if s.link.state = .up then t.updSched fun c => { c with queue := c.queue ++ [j] } else t.sink j

/-- Every job in the queue is sunk, oldest first (R79). -/
def State.sinkAll (s : State) : State :=
  s.sched.queue.foldl (fun t j => t.sink j) (s.updSched fun c => { c with queue := [] })

/-- The job a parcel belongs to, none for a ring parcel. -/
def ParcelBody.job : ParcelBody → Option Nat
  | .piece j _ _ _ _ _ _ _ _ _ _ => some j
  | .absentRun j _ _ _ _ => some j
  | .frameEnd j _ _ _ _ _ => some j
  | .ring _ _ _ _ _ _ _ => none

/-- The frame and slot of a video parcel. -/
def ParcelBody.ofFrame (b : ParcelBody) (frame : FrameNumber) (slot : Fin 4) : Bool :=
  match b with
  | .piece _ f s _ _ _ _ _ _ _ _ => f == frame && s == slot
  | .absentRun _ f s _ _ => f == frame && s == slot
  | .frameEnd _ f s _ _ _ => f == frame && s == slot
  | .ring _ _ _ _ _ _ _ => false

/-- Every job of a dropped frame leaves the queue; its pieces whose payload fetch is in flight go out
with POISON (R46, R80). -/
def State.dropJobs (frame : FrameNumber) (slot : Fin 4) (s : State) : State :=
  s.updSched fun c =>
    { c with
      queue := c.queue.filter (fun j => !(j.frame == frame && j.slot == slot))
      window := c.window.map (fun p =>
        if p.body.ofFrame frame slot && decide (p.fetch = .pending) then { p with poison := true } else p) }

/-- A LINE job is abandoned: it becomes PLACED (R90). -/
def State.abandonJob (id : Nat) (s : State) : State :=
  s.updSched fun c =>
    { c with queue := c.queue.map (fun j => if j.id = id then { j with placing := .placed } else j) }

/-- The job with a serial number is sent when it is PLACED and no parcel of it is left untransmitted: it
leaves the queue and its lines finish (R78, R90). -/
def State.jobSent (id : Nat) (s : State) : State :=
  match s.sched.queue.find? (fun j => j.id == id) with
  | none => s
  | some j =>
    if j.placing = .placed ∧ s.sched.window.all (fun p => p.body.job != some id) then
      let t := s.updSched fun c => { c with queue := c.queue.filter (fun x => x.id != id) }
      (t.finishLines j.frame j.slot j.body.lines).drainTest
    else s

end Sys2Proof.Machine
end

