-- ==== Sys2Proof/Machine/StitchTable.lean ====
section
/-!
DEFINITION. The stitch table: entries, capture writes, settling, deadlines, release, frame ends and
frame marks (03_frames_and_segments.md sections 3.2 to 3.5; 04_the_stitch_table.md).
-/

namespace Sys2Proof.Machine

/-! ### Entries -/

/-- WHOLE, TORN and ABSENT are the settled states (R57). -/
def EntryState.settled : EntryState → Bool
  | .openState | .live => false
  | .whole | .torn | .absent => true

/-- The entry of a line of a frame. -/
def StitchUnit.find (u : StitchUnit) (frame : FrameNumber) (slot : Fin 4) (line : Nat) : Option LineEntry :=
  u.entries.find? (fun e => e.frame == frame && e.slot == slot && e.line == line)

/-- A new entry, every segment EMPTY with fill mark 0, and its deadline (R58). -/
def State.newEntry (frame : FrameNumber) (slot : Fin 4) (line : Nat) (st : EntryState) (s : State) :
    LineEntry :=
  { id := s.stitch.nextEntry, frame, slot, line, state := st,
    deadline := some (s.link.count + BitVec.ofNat 32 s.tracker.stream.timeout),
    segments := s.tracker.stream.windows.map (fun _ => { state := .empty, mark := 0 }) }

/-- An entry joins the table. -/
def State.addEntry (e : LineEntry) (s : State) : State :=
  s.updStitch fun u => { entries := u.entries ++ [e], nextEntry := u.nextEntry + 1 }

/-- The entry with the same serial number is replaced. -/
def State.putEntry (e : LineEntry) (s : State) : State :=
  s.updStitch fun u => { u with entries := u.entries.map (fun x => if x.id = e.id then e else x) }

/-- The line at the head gets an OPEN entry if it has none (R58, R68). -/
def State.ensureHead (s : State) : State :=
  match s.tracker.head with
  | none => s
  | some f =>
    if f.cursor < s.tracker.stream.lines ∧ (s.stitch.find f.frame f.slot f.cursor).isNone then
      s.addEntry (s.newEntry f.frame f.slot f.cursor .openState)
    else s

/-! ### Settling (R62, R63, R64) -/

/-- Whether a segment is FULL. -/
def Segment.isFull (g : Segment) : Bool := decide (g.state = .full)

/-- Whether a segment has come to an end. -/
def Segment.ended (g : Segment) : Bool := decide (g.state = .full ∨ g.state = .damaged)

/-- The settled state that the segments give: WHOLE when all are FULL, TORN when some are, else ABSENT. -/
def settledState (gs : List Segment) : EntryState :=
  if gs.all Segment.isFull then .whole else if gs.any Segment.isFull then .torn else .absent

/-- The test of R63 for an unsettled entry. -/
def LineEntry.settle (e : LineEntry) : LineEntry :=
  if e.segments.all Segment.ended then { e with state := settledState e.segments, deadline := none } else e

/-- The settling at the deadline: TORN if a segment is FULL, ABSENT if none is (R64). -/
def LineEntry.expire (e : LineEntry) : LineEntry :=
  { e with state := if e.segments.any Segment.isFull then .torn else .absent, deadline := none }

/-- A settled entry re-judged on its segments after a damage (R62). -/
def LineEntry.rejudge (e : LineEntry) : LineEntry :=
  match e.state with
  | .whole | .torn => { e with state := if e.segments.any Segment.isFull then .torn else .absent }
  | .absent | .openState | .live => e

/-! ### Capture writes (R51, R52, R59 to R61) -/

/-- What a write did to a segment, for the counters (R60). -/
inductive SegmentEffect where
  | filled | damaged | rewrite | nothing
deriving DecidableEq, Repr

/-- A write of `n` bytes at offset `b` to a segment of length `len` (R60). -/
def Segment.write (g : Segment) (len b n : Nat) : Segment × SegmentEffect :=
  match g.state with
  | .full => (g, .rewrite)
  | .damaged => (g, .nothing)
  | .empty | .filling =>
    if b = g.mark ∧ b + n ≤ len then
      ({ state := if b + n = len then .full else .filling, mark := b + n }, .filled)
    else ({ g with state := .damaged }, .damaged)

/-- The count a segment effect makes for a position (R60). -/
def State.countEffect (k : Fin 6) (x : SegmentEffect) (s : State) : State :=
  match x with
  | .damaged => s.count (.damagedSegments k)
  | .rewrite => s.count (.rewrites k)
  | .filled | .nothing => s

/-- The segment record at a position of an entry. -/
def LineEntry.segment (e : LineEntry) (k : Fin 6) : Segment :=
  e.segments.getD k.val { state := .empty, mark := 0 }

/-- The segment length of a window of the map. -/
def State.segLen (s : State) (w : Fin 32) : Nat := (s.map.windows[w]).segLen

/-- A write applied to segment `k` of an unsettled entry: the segment, OPEN to LIVE, and the test for
settling (R60, R61, R63). -/
def State.applyWrite (e : LineEntry) (w : Fin 32) (k : Fin 6) (b n : Nat) (s : State) : State :=
  let g := (e.segment k).write (s.segLen w) b n
  let e' : LineEntry := { e with segments := e.segments.set k.val g.1, state := .live }
  (s.countEffect k g.2).putEntry e'.settle

/-- A write handed on by the capture tracker, placed by position (R59). -/
def State.handOn (frame : FrameNumber) (slot : Fin 4) (line : Nat) (w : Fin 32) (k : Fin 6) (b n : Nat)
    (s : State) : State × Option Applied :=
  match s.tracker.indexOf frame slot with
  | none => (s.count (.lateWrites k), none)
  | some i =>
    let d := s.tracker.position i line
    if d < 0 then (s.count (.lateWrites k), none)
    else if (Config.stitchWindow : Int) ≤ d then (s, none)
    else
      match s.stitch.find frame slot line with
      | some e =>
        if e.state.settled then (s.count (.lateWrites k), none)
        else (s.applyWrite e w k b n, some { entry := e.id, position := k })
      | none =>
        let e := s.newEntry frame slot line .live
        ((s.addEntry e).applyWrite e w k b n, some { entry := e.id, position := k })

/-- The capture entry of a forwarded write: mapped, sorted and handed on (R51, R52, R59); with the entry
it was applied to. -/
def State.capture (w : Fin 32) (k : Fin 6) (r : Request) (s : State) : State × Option Applied :=
  let t := s.tracker
  if !t.stream.isOpen then (s, none)
  else if t.stream.windows[k.val]? ≠ some w then (s, none)
  else
    match t.mapWrite s.map.windows[w] r.addr with
    | .stray => (s.count (.strayWrites k), none)
    | .unframed => (s.count .unframedWrites, none)
    | .line f slot line b => s.handOn f slot line w k b r.size

/-- A downstream ERROR on a capture write that was applied (R62). -/
def State.damage (a : Applied) (s : State) : State :=
  match s.stitch.entries.find? (fun e => e.id == a.entry) with
  | none => s
  | some e =>
    let g := e.segment a.position
    if g.state = .damaged then s
    else
      let e' : LineEntry :=
        { e with segments := e.segments.set a.position.val { g with state := .damaged } }
      (s.count (.damagedSegments a.position)).putEntry (if e.state.settled then e'.rejudge else e'.settle)

/-! ### Release (R66 to R70) -/

/-- The head frame's record is changed. -/
def State.updHead (f : FrameRecord → FrameRecord) (s : State) : State :=
  s.updTracker fun t =>
    match t.frames with
    | [] => t
    | h :: rest => { t with frames := f h :: rest }

/-- The entries of a frame's lines `first` to `first + n − 1` leave the table. -/
def State.removeLines (frame : FrameNumber) (slot : Fin 4) (first n : Nat) (s : State) : State :=
  s.updStitch fun u =>
    { u with
      entries := u.entries.filter (fun e =>
        !(e.frame == frame && e.slot == slot && decide (first ≤ e.line) && decide (e.line < first + n))) }

/-- The present set of an entry: the positions whose segments are FULL, ascending (R66). -/
def LineEntry.present (e : LineEntry) : List (Fin 6) :=
  (List.finRange 6).filter (fun k =>
    decide (k.val < e.segments.length) && (e.segment k).isFull)

/-- The number of further lines an absent run takes in from line `line`: it stops at a line with an
entry in a state other than OPEN, or after `fuel` lines, those left in the frame (R67). -/
def runLoop (u : StitchUnit) (frame : FrameNumber) (slot : Fin 4) : Nat → Nat → Nat
  | 0, _ => 0
  | fuel + 1, line =>
    match u.find frame slot line with
    | none => runLoop u frame slot fuel (line + 1) + 1
    | some e => if e.state = .openState then runLoop u frame slot fuel (line + 1) + 1 else 0

/-- The line count of the absent run that starts at the head line (R67). -/
def State.runLength (f : FrameRecord) (s : State) : Nat :=
  1 + runLoop s.stitch f.frame f.slot (s.tracker.stream.lines - f.cursor - 1) (f.cursor + 1)

/-- The cursor advances by `n`: the entries leave, the next head line gets its entry, and the cursor
advance is reported to the path unit (R68). -/
def State.advance (f : FrameRecord) (n : Nat) (upd : FrameRecord → FrameRecord) (s : State) : State :=
  (((s.removeLines f.frame f.slot f.cursor n).updHead (fun h => upd { h with cursor := h.cursor + n })).ensureHead).reclassify

/-- The release of a settled head entry (R66, R67). -/
def State.releaseHead (f : FrameRecord) (e : LineEntry) (s : State) : State :=
  let start := e.present.headD 0
  match e.state with
  | .whole =>
    ((s.count .linesWhole).appendJob f.frame f.slot (.line e.line .whole e.present start 0)).advance f 1
      (fun h => { h with whole := h.whole + 1 })
  | .torn =>
    ((s.count .linesTorn).appendJob f.frame f.slot (.line e.line .torn e.present start 0)).advance f 1
      (fun h => { h with torn := h.torn + 1 })
  | .absent =>
    let n := s.runLength f
    ((s.countBy .linesAbsent n).appendJob f.frame f.slot (.absentRun f.cursor n)).advance f n
      (fun h => { h with absent := h.absent + n })
  | .openState | .live => s

/-- The video queue has room (R66, R69). -/
def Scheduler.hasRoom (c : Scheduler) : Bool := decide (c.queue.length < Config.queueCapacity)

/-- RELEASE (R66): when the head line's entry is settled and the video queue has room. -/
def State.release (s : State) : State :=
  match s.tracker.head with
  | none => s
  | some f =>
    match s.stitch.find f.frame f.slot f.cursor with
    | none => s
    | some e =>
      if f.cursor < s.tracker.stream.lines ∧ e.state.settled ∧ s.sched.hasRoom then
        ((s.releaseHead f e).drainTest).takeWaiting
      else s

/-- The FRAME_END of the head frame is due: its cursor is at lines per frame and the video queue has room
(R69). -/
def State.frameEndDue (f : FrameRecord) (s : State) : Bool :=
  decide (f.cursor = s.tracker.stream.lines) && s.sched.hasRoom

/-- The head frame leaves the list by full release, with its FRAME_END job (R69). The cursor advance is reported
before the end of the drain is tested, so held leaders are classified against the stream still DRAINING (R9, R73;
log entry 45). -/
def State.endHead (f : FrameRecord) (s : State) : State :=
  let t := s.appendJob f.frame f.slot (.frameEnd f.whole f.torn f.absent)
  let t := t.updTracker fun k => { k with frames := k.frames.tail }
  t.ensureHead.reclassify.drainTest

/-- FRAME_END (R69): when the head frame's cursor is at lines per frame and the video queue has room. -/
def State.endFrame (s : State) : State :=
  match s.tracker.head with
  | none => s
  | some f => if s.frameEndDue f then (s.endHead f).takeWaiting else s

/-! ### Frame marks (R39 to R48) -/

/-- The drop report for the base (R48, R143). -/
def State.reportDrop (frame : FrameNumber) (s : State) : State :=
  s.updLink fun l => { l with lastDropped := frame, dropCount := l.dropCount + 1, dropRepeat := 4 }

/-- The frame of a pinned slot is dropped (R46, R47, R48, R72). -/
def State.dropFrame (frame : FrameNumber) (slot : Fin 4) (s : State) : State :=
  let lost := (s.tracker.slots[slot]).unfinished
  let t := s.updStitch fun u =>
    { u with entries := u.entries.filter (fun e => !(e.frame == frame && e.slot == slot)) }
  let t := t.dropJobs frame slot
  let t := t.updTracker fun k =>
    { k with
      frames := k.frames.filter (fun f => !(f.frame == frame && f.slot == slot))
      slots := k.slots.set slot { k.slots[slot] with unfinished := 0 } }
  let t := (t.count .framesDropped).countBy .linesDroppedByOverrun lost
  (((t.raise .frameDropped).reportDrop frame)).ensureHead

/-- A frame that has finished its last line leaves the list before a mark on its slot is accepted: a
FRAME_END that is due is taken first, since a slot is pinned for the whole time its frame is on the list
(R43, R45, R69; log entry 40). -/
def State.endFinished (slot : Fin 4) (s : State) : State :=
  match s.tracker.head with
  | none => s
  | some f =>
    if f.slot = slot ∧ (s.tracker.slots[slot]).frame = some f.frame ∧
        (s.tracker.slots[slot]).unfinished = 0 ∧ s.frameEndDue f then
      s.endHead f
    else s

/-- The frame that an accepted mark on the slot drops: the slot's current frame while the slot is pinned,
which it is while lines of the frame are unfinished and while the frame is on the list (R45; log entry 40). -/
def Tracker.pinned (t : Tracker) (slot : Fin 4) : Option FrameNumber :=
  let r := t.slots[slot]
  r.frame.filter (fun f => decide (0 < r.unfinished) || (t.indexOf f slot).isSome)

/-- A mark that passes R40 and R41 is accepted (R42), and a drop of a frame on the list reports a
cursor advance once the acceptance is complete (R47). -/
def State.acceptMark (frame : FrameNumber) (slot : Fin 4) (s : State) : State :=
  let s := s.endFinished slot
  let dropped := s.tracker.pinned slot
  let onList := match dropped with | none => false | some f => (s.tracker.indexOf f slot).isSome
  let t := match dropped with | none => s | some f => s.dropFrame f slot
  let t := t.updTracker fun k =>
    { k with
      slots := k.slots.set slot { frame := some frame, unfinished := k.stream.lines }
      frames := k.frames ++ [{ frame, slot, cursor := 0, whole := 0, torn := 0, absent := 0 }]
      newest := some frame }
  let t := t.ensureHead
  if onList then t.reclassify else t

/-- A whole write of the word at `addr`, judged as a frame mark (R39, R40, R41). -/
def State.frameMark (addr : Nat) (value : Word) (s : State) : State :=
  let stream := s.tracker.stream
  if stream.state = .closed then s
  else if addr ≠ stream.markWord then s
  else if stream.state = .draining then s.count .badMarks
  else
    let frame : FrameNumber := BitVec.ofNat 16 (bits value 15 0)
    let index := bits value 23 16
    if stream.slotCount ≤ index then s.count .badMarks
    else if (s.tracker.newest.map (fun n => aheadOf frame n)).getD true = false then s.count .staleMarks
    else if h : index < 4 then s.acceptMark frame ⟨index, h⟩
    else s.count .badMarks

/-! ### The commands -/

/-- CAPTURE_WRITE (R51, R52, R59 to R61). -/
def execCaptureWrite (w : Fin 32) (k : Fin 6) (r : Request) (s : State) : Result :=
  if r.wfWrite then change (fun t => (t.capture w k r).1) s else .fault .malformedRequest

/-- STITCH_DEADLINE (R64): the unsettled entry of a line settles when its deadline is reached. -/
def execStitchDeadline (slot : Fin 4) (line : Nat) (s : State) : Result :=
  match s.stitch.entries.find? (fun e => e.slot == slot && e.line == line) with
  | none => .next s
  | some e =>
    match e.deadline with
    | none => .next s
    | some d =>
      if e.state.settled = false ∧ reached s.link.count d then change (fun t => t.putEntry e.expire) s
      else .next s

/-- The job stands in the queue before the cursor moves (R66, R69); while the link is not UP the job of a
frame end changes no word, and the next head line's entry comes after the head frame (R69, R71). -/
def jobOrder : WordOrder := fun s _ => if s.link.state = .up then [5, 4] else []

/-- A release takes the head entry out of the table before the cursor moves (R66, R68). -/
def releaseOrder : WordOrder := fun _ _ => [5, 4]

/-- The words of a drop: its removals, its place on the list, FRAME_DROPPED and the drop report (R46, R47,
R48). The frame dropped off an empty list moves no head, and the new frame becomes head after all of them (R42
step 3). -/
def dropOrder : WordOrder := fun s t =>
  match s.tracker.frames with
  | [] => 5 :: raisedBy .frameDropped s t ++ [19, 4]
  | _ :: _ => [5, 4] ++ raisedBy .frameDropped s t ++ [19]

/-- An accepted mark orders its words by its drop, or by a FRAME_END that it takes first (R42, R69). -/
def markOrder : WordOrder := fun s t =>
  if t.link.dropCount ≠ s.link.dropCount then dropOrder s t
  else if t.sched.nextJob ≠ s.sched.nextJob then jobOrder s t else []

/-- FRAME_MARK (R39). -/
def execFrameMark (addr : Nat) (value : Word) (s : State) : Result :=
  changeIn markOrder (fun t => (t.frameMark addr value).takeWaiting) s

/-- RELEASE (R66). -/
def execRelease (s : State) : Result := changeIn releaseOrder State.release s

/-- FRAME_END (R69). -/
def execFrameEnd (s : State) : Result := changeIn jobOrder State.endFrame s

end Sys2Proof.Machine
end

