-- ==== Sys2Proof/Machine/Rings.lean ====
section
/-!
DEFINITION. The ring unit: outbound rings and reliable delivery, inbound rings and landing, the return
picture, and the commands that act on them (06_rings_and_landing.md; R158).
-/

namespace Sys2Proof.Machine

/-! ### Access -/

/-- The ring unit's change of one outbound ring. -/
def State.updOut (r : Fin 4) (f : OutRing → OutRing) (s : State) : State :=
  s.updRings fun u => { u with outbound := u.outbound.set r (f u.outbound[r]) }

/-- The ring unit's change of one inbound ring. -/
def State.updIn (r : Fin 2) (f : InRing → InRing) (s : State) : State :=
  s.updRings fun u => { u with inbound := u.inbound.set r (f u.inbound[r]) }

/-- The ring unit's change of the return binding. -/
def State.updRet (f : ReturnBinding → ReturnBinding) (s : State) : State :=
  s.updRings fun u => { u with ret := f u.ret }

/-- The next serial number of the ring unit is taken. -/
def State.bumpSerial (s : State) : State := s.updRings fun u => { u with nextSerial := u.nextSerial + 1 }

/-! ### Outbound rings: indices and fetching (R95, R98, R99) -/

/-- The record the ring has taken: READY, PLACED or IN_FLIGHT (R95). -/
def HeadRecord.taken : HeadRecord → Option SendRecord
  | .ready r => some r
  | .placed r => some r
  | .inFlight r => some r
  | .empty => none
  | .fetching _ => none

/-- 1 if a record is taken and 0 otherwise (R98). -/
def HeadRecord.takenCount (h : HeadRecord) : Nat := if h.taken.isSome then 1 else 0

/-- The pending count (R95). -/
def OutRing.pendingCount (o : OutRing) : Nat := (o.producerSeen - o.consumer).toNat

/-- The test of R98: (v − c) mod 65536 is at most the record count and at least the taken count. -/
def OutRing.indexOk (o : OutRing) (v : RingIndex) : Bool :=
  decide ((v - o.consumer).toNat ≤ o.count) && decide (o.head.takenCount ≤ (v - o.consumer).toNat)

/-- The address of the record at index consumer (R99). -/
def OutRing.recordAddr (o : OutRing) : Nat := o.base + (o.consumer.toNat % o.count) * 64

/-- An ACTIVE ring with an EMPTY head record and pending records issues its fetch (R99). -/
def State.tryFetch (r : Fin 4) (s : State) : State :=
  let o := s.rings.outbound[r]
  if o.state = .active ∧ o.head = .empty ∧ 0 < o.pendingCount then
    let k := s.rings.nextSerial
    ((s.updOut r fun o => { o with head := .fetching k }).bumpSerial).issueEgress (.recordFetch r k)
      o.recordAddr 64
  else s

/-- An outbound ring halts with a cause and raises RING_HALT; the producer written value is `written` for
an ACTIVE ring, and stands as it is for a HALTED one (R98, R105). -/
def State.haltOut (r : Fin 4) (cause : HaltCause) (written : RingIndex) (s : State) : State :=
  (s.updOut r fun o =>
    { o with
      state := .halted, cause,
      producerWritten := if o.state = .active then written else o.producerWritten }).raise .ringHalt

/-- A producer word write (R98). -/
def State.producerWrite (r : Fin 4) (value : Word) (s : State) : State :=
  let o := s.rings.outbound[r]
  let v : RingIndex := BitVec.ofNat 16 (bits value 15 0)
  match o.state with
  | .unbound => s
  | .halted => s.updOut r fun o => { o with producerWritten := v }
  | .active =>
    if o.indexOk v then (s.updOut r fun o => { o with producerSeen := v }).tryFetch r
    else s.haltOut r .index v

/-! ### Retire (R104) -/

/-- The status a retired record is given (R104, section 11.2). -/
inductive RecordStatus where
  | sent | delivered | failed | memoryError | tooLarge | badRecord
deriving DecidableEq, Repr

def RecordStatus.code : RecordStatus → Byte
  | .sent => 1
  | .delivered => 2
  | .failed => 3
  | .memoryError => 4
  | .tooLarge => 5
  | .badRecord => 6

/-- The attempts used by status, kind and send count (R104). -/
def RecordStatus.attempts (st : RecordStatus) (kind : RingKind) (sends : Nat) : Nat :=
  match st with
  | .sent => 1
  | .memoryError => match kind with | .plain => 1 | .reliable => sends
  | .delivered | .failed | .tooLarge => sends
  | .badRecord => 0

/-- The bytes sent by status (R104). -/
def RecordStatus.bytesSent (st : RecordStatus) (length : Nat) : Nat :=
  match st with
  | .sent | .delivered | .failed => length
  | .memoryError | .tooLarge | .badRecord => 0

/-- The toggle and sync-needed of a RELIABLE ring after a retire (R104). -/
def OutRing.settleToggle (o : OutRing) (st : RecordStatus) : OutRing :=
  match o.kind with
  | .plain => o
  | .reliable =>
    match st with
    | .delivered => { o with toggle := !o.toggle, syncNeeded := false }
    | .failed | .memoryError => { o with toggle := !o.toggle, syncNeeded := true }
    | .tooLarge => if 0 < o.sendCount then { o with toggle := !o.toggle, syncNeeded := true } else o
    | .badRecord | .sent => o

/-- The attempts used field of a send record; a count beyond 8 bits is a free value (log entry 36). -/
def State.attemptsByte (s : State) (n : Nat) : Byte :=
  if n < 256 then BitVec.ofNat 8 n else Config.attemptsField s.free

/-- A free value is taken for a count beyond 8 bits (log entry 36). -/
def State.takeAttempts (n : Nat) (s : State) : State := if n < 256 then s else { s with free := s.free + 1 }

/-- The own write of a retired record's status, attempts used and bytes sent (R104, section 11.2). -/
def State.issueRecordStatus (o : OutRing) (sr : SendRecord) (st : RecordStatus) (s : State) : State :=
  let n := st.attempts o.kind o.sendCount
  (s.issueWrite .recordStatus (o.recordAddr + 0x10)
    ([st.code, s.attemptsByte n] ++ leBytes 2 (st.bytesSent sr.length) ++ [0, 0, 0, 0])).takeAttempts n

/-- A record is retired: status write, consumer word write, consumer, head record, toggle, RING_ATTN and
*records too large* (R104). The fetch that follows is the caller's. -/
def State.retire (r : Fin 4) (sr : SendRecord) (st : RecordStatus) (s : State) : State :=
  let o := s.rings.outbound[r]
  let next := o.consumer + 1
  let t := s.issueRecordStatus o sr st
  let t := t.issueIndex .indexWord o.consumerWord next
  let t := t.updOut r fun o =>
    { o.settleToggle st with consumer := next, head := .empty, sendCount := 0 }
  let t := if sr.attention then t.raise .ringAttn else t
  match st with
  | .tooLarge => t.count .recordsTooLarge
  | .failed => t.count .recordsFailed
  | .sent | .delivered | .memoryError | .badRecord => t

/-- A retire and the fetch of R99 that follows it. -/
def State.retireNext (r : Fin 4) (sr : SendRecord) (st : RecordStatus) (s : State) : State :=
  (s.retire r sr st).tryFetch r

/-- A record fetch response to the fetch `serial` (R99, R107). A record that was withdrawn while it was
being fetched is not taken: the head record is EMPTY again (R95, R98; log entry 32). -/
def State.recordFetched (r : Fin 4) (serial : Nat) (error : Bool) (data : List Byte) (s : State) : State :=
  let o := s.rings.outbound[r]
  if o.head ≠ .fetching serial then s
  else if error then
    ((s.updOut r fun o => { o with head := .empty }).raise .memErr).haltOut r .memory o.producerSeen
  else if o.pendingCount = 0 then s.updOut r fun o => { o with head := .empty }
  else
    let sr := sendRecord serial data
    if sr.length = 0 ∨ Config.maxPayload < sr.length ∨ Config.addressSpace < sr.buffer + sr.length then
      s.retireNext r sr .badRecord
    else s.updOut r fun o => { o with head := .ready sr, sendCount := 0 }

/-! ### Acknowledgements and timeouts (R101, R102, R103) -/

/-- The record an ACK can retire: IN_FLIGHT, or READY with a send count above 0 (R101). -/
def OutRing.acknowledgeable (o : OutRing) : Option SendRecord :=
  match o.head with
  | .inFlight r => some r
  | .ready r => if 0 < o.sendCount then some r else none
  | .empty | .fetching _ | .placed _ => none

/-- The send of an IN_FLIGHT record ends by a NAK or the timeout (R102). -/
def State.endSend (r : Fin 4) (sr : SendRecord) (s : State) : State :=
  let o := s.rings.outbound[r]
  if o.sendCount < sr.retry + 1 then
    (s.updOut r fun o => { o with head := .ready sr }).count .reliableRetries
  else (s.retire r sr .failed).haltOut r .failed o.producerSeen

/-- The words of a send that fails: those of the retire come before the halt's (R102, R104). -/
def failOrder (r : Fin 4) : WordOrder := fun s _ =>
  match (s.rings.outbound[r]).head with
  | .inFlight sr => changedWords [] s (s.retire r sr .failed)
  | .empty | .fetching _ | .ready _ | .placed _ => []

/-- An acknowledgement field taken by its ring (R101, R102, R107). -/
def State.takeAnswer (r : Fin 4) (a : Answer) (s : State) : State :=
  let o := s.rings.outbound[r]
  match a with
  | .none => s
  | .ack t =>
    match o.acknowledgeable with
    | none => s
    | some sr => if t = o.toggle then s.retireNext r sr .delivered else s
  | .nak t =>
    match o.head with
    | .inFlight sr => if t = o.toggle then s.endSend r sr else s
    | .empty | .fetching _ | .ready _ | .placed _ => s

/-- The acknowledgement timeout of an IN_FLIGHT record, while the link is UP (R102, R103). -/
def State.ackTimeout (r : Fin 4) (s : State) : State :=
  let o := s.rings.outbound[r]
  match o.head with
  | .inFlight sr =>
    if s.link.state = .up ∧ reached s.link.count (o.sentFrame + BitVec.ofNat 32 Config.ackTimeout) then
      s.endSend r sr
    else s
  | .empty | .fetching _ | .ready _ | .placed _ => s

/-- The payload fetch outcome of a ring parcel reaches its record: PLACED, IN_FLIGHT, or READY as a
resend that is due; a parcel of another record changes none (R90, R91, R100, R107). -/
def State.parcelFetched (r : Fin 4) (record : Nat) (error : Bool) (s : State) : State :=
  let o := s.rings.outbound[r]
  match o.head with
  | .placed sr =>
    if sr.serial = record then s.retireNext r sr (if error then .memoryError else .sent) else s
  | .inFlight sr => if sr.serial = record ∧ error then s.retireNext r sr .memoryError else s
  | .ready sr =>
    if sr.serial = record ∧ 0 < o.sendCount ∧ error then s.retireNext r sr .memoryError else s
  | .empty | .fetching _ => s

/-! ### Inbound rings (R109 to R115) -/

/-- The occupied count (R109). -/
def InRing.occupied (q : InRing) : Nat := (q.producer - q.consumerSeen).toNat

/-- The hold requested flag and the release follow the free slots (R114). -/
def InRing.flow (q : InRing) : InRing :=
  let free := q.count - q.occupied
  if free ≤ 2 then { q with holdRequested := true }
  else if 4 ≤ free ∧ q.holdRequested then { q with holdRequested := false, releaseDue := true }
  else q

/-- The test of R110: (v − s) mod 65536 is at most (p − s) mod 65536. -/
def InRing.indexOk (q : InRing) (v : RingIndex) : Bool := decide ((v - q.consumerSeen).toNat ≤ q.occupied)

/-- A consumer word write (R110). -/
def State.consumerWrite (r : Fin 2) (value : Word) (s : State) : State :=
  let q := s.rings.inbound[r]
  let v : RingIndex := BitVec.ofNat 16 (bits value 15 0)
  match q.state with
  | .unbound => s
  | .halted => s.updIn r fun q => { q with consumerWritten := v }
  | .active =>
    if q.indexOk v then s.updIn r fun q => ({ q with consumerSeen := v }).flow
    else
      (s.updIn r fun q => { q with state := .halted, cause := .index, consumerWritten := v }).raise
        .ringHalt

/-- A CMSG parcel as its ring takes it (R111). -/
structure Cmsg where
  toggle : Bool
  sync : Bool
  poison : Bool
  tag : Byte
  payload : List Byte
deriving DecidableEq, Repr

/-- An answer that needs no landing: none is set while a landing is in progress (R113). -/
def InRing.answer (q : InRing) (a : Answer) : InRing :=
  match q.landing with
  | .inProgress _ _ _ => q
  | .idle => { q with toSend := a }

/-- A message is landed: slot header, payload, producer, producer word, last accepted, landing (R112). -/
def State.land (r : Fin 2) (m : Cmsg) (s : State) : State :=
  let q := s.rings.inbound[r]
  let k := s.rings.nextSerial
  let owner := Owner.landing r k
  let slot := q.base + (q.producer.toNat % q.count) * 1024
  let header := padTo 32 (leBytes 2 m.payload.length ++
    [m.tag, BitVec.ofNat 8 (flag m.toggle + 2 * flag m.sync)])
  let t := (s.issueWrite owner slot header).issueSplit owner (slot + 0x20) m.payload
  let t := (t.issueIndex owner q.producerWord (q.producer + 1)).bumpSerial
  let writes := 1 + splitCount (slot + 0x20) m.payload.length + 1
  t.updIn r fun q =>
    ({ q with
        producer := q.producer + 1, lastAccepted := some m.toggle,
        landing := .inProgress k writes (some m.toggle) }).flow

/-- A CMSG parcel: the first row of R111's table that applies. -/
def State.takeCmsg (r : Fin 2) (m : Cmsg) (s : State) : State :=
  let q := s.rings.inbound[r]
  let refuse (t : State) : State := (t.updIn r fun q => q.answer (.nak m.toggle)).count .cmsgNaks
  if q.state ≠ .active then refuse s
  else if m.poison then refuse s
  else if m.payload.length = 0 ∨ Config.maxPayload < m.payload.length then refuse s
  else if m.sync = false ∧ q.lastAccepted = some m.toggle then
    (s.updIn r fun q => q.answer (.ack m.toggle)).count .cmsgDuplicates
  else if q.landing ≠ .idle then refuse s
  else if q.occupied = q.count then
    (refuse s).updStatus fun u => { u with inboundFull := true }
  else (s.land r m).count .cmsgLanded

/-- A landing write is accepted; at the last one landing becomes IDLE and the ACK is set (R112, R115). -/
def State.landingAccepted (r : Fin 2) (serial : Nat) (s : State) : State :=
  s.updIn r fun q =>
    match q.landing with
    | .idle => q
    | .inProgress k left ack =>
      if k ≠ serial then q
      else if left ≤ 1 then
        { q with
          landing := .idle
          toSend := match ack with | some t => .ack t | none => q.toSend }
      else { q with landing := .inProgress k (left - 1) ack }

/-! ### The return picture (R116 to R119) -/

/-- A buffer of the return binding: bit 0 of the select (R176). -/
def ReturnBinding.buffer (b : ReturnBinding) (sel : Bool) : ReturnBuffer :=
  if sel then b.buffer1 else b.buffer0

/-- A buffer of the return binding is changed. -/
def ReturnBinding.updBuffer (sel : Bool) (f : ReturnBuffer → ReturnBuffer) (b : ReturnBinding) :
    ReturnBinding :=
  if sel then { b with buffer1 := f b.buffer1 } else { b with buffer0 := f b.buffer0 }

/-- The lines completed field of a done word; a count beyond 16 bits is a free value (log entry 14). -/
def State.linesField (s : State) (n : Nat) : Nat :=
  if n < 65536 then n else (Config.linesCompletedField s.free).toNat

/-- A due done word is written once the buffer has no landing write outstanding (R118). -/
def State.doneTest (sel : Bool) (s : State) : State :=
  let b := s.rings.ret.buffer sel
  match b.due, s.rings.ret.doneWord with
  | some (frame, lines), some a =>
    if b.left = 0 then
      let v := flag sel + atBit 16 frame.toNat + atBit 32 (s.linesField lines)
      let t := s.issueWrite .doneWord a (leBytes 8 v)
      let t := if lines < 65536 then t else { t with free := t.free + 1 }
      t.updRet (·.updBuffer sel fun b => { b with due := none })
    else s
  | _, _ => s

/-- A RETURN_PIECE parcel (R117). -/
structure Piece where
  buffer : Bool
  line : Nat
  offset : Nat
  last : Bool
  poison : Bool
  payload : List Byte
deriving DecidableEq, Repr

/-- Whether a piece is landed (R117). -/
def ReturnBinding.lands (b : ReturnBinding) (p : Piece) : Bool :=
  b.bound && !p.poison && decide (1 ≤ p.payload.length) && decide (p.line < b.lines) &&
    decide (p.offset + p.payload.length ≤ b.pitch) && decide ((b.buffer p.buffer).left < Config.returnLimit)

/-- A RETURN_PIECE parcel is landed or discarded (R117). -/
def State.takePiece (p : Piece) (s : State) : State :=
  let b := s.rings.ret
  if b.lands p then
    let at_ := b.base + flag p.buffer * b.stride + p.line * b.pitch + p.offset
    let t := s.issueSplit (.returnLanding p.buffer b.serial) at_ p.payload
    let t := t.updRet (·.updBuffer p.buffer fun q =>
      { q with
        left := q.left + splitCount at_ p.payload.length
        completed := q.completed + flag p.last })
    t.count .returnPiecesLanded
  else s.count .returnPiecesDiscarded

/-- A RETURN_END parcel (R118). -/
def State.takeReturnEnd (sel : Bool) (frame : BitVec 16) (poison : Bool) (s : State) : State :=
  if s.rings.ret.bound ∧ poison = false then
    (s.updRet (·.updBuffer sel fun b =>
      match b.due with
      | none => { b with due := some (frame, b.completed), completed := 0 }
      | some (_, n) => { b with due := some (frame, n) })).doneTest sel
  else s

/-- A return landing write is accepted (R117, R118). -/
def State.returnAccepted (sel : Bool) (serial : Nat) (s : State) : State :=
  if s.rings.ret.bound ∧ s.rings.ret.serial = serial then
    (s.updRet (·.updBuffer sel fun b => { b with left := b.left - 1 })).doneTest sel
  else s

/-! ### Binding and unbinding (R96, R97, R107, R109, R116, R119, R158) -/

/-- Whether a number is a power of two from 2 to 256 (R96). -/
def ringCountOk (n : Nat) : Bool := [2, 4, 8, 16, 32, 64, 128, 256].contains n

/-- The state of the ring with an id from 0 to 5; ids above are UNBOUND here. -/
def RingUnit.stateOf (u : RingUnit) (id : Nat) : RingState :=
  if h : id < 4 then (u.outbound[id]).state
  else if h : id - 4 < 2 then (u.inbound[id - 4]).state
  else .unbound

/-- BIND RING's own checks, in order (R96). -/
def checkBindRing (p : Params) (s : State) : Option ErrorCode :=
  let q := ringParams p
  let unit := if q.id < 4 then 64 else 1024
  if 5 < q.id then some .range
  else if s.rings.stateOf q.id ≠ .unbound then some .inUse
  else if ringCountOk q.count = false ∨ (q.id < 4 ∧ 1 < q.kind) then some .range
  else if q.base % unit ≠ 0 ∨ Config.addressSpace < q.base + q.count * unit then some .range
  else if s.badWord q.producerWord ∨ s.badWord q.consumerWord ∨ q.producerWord = q.consumerWord then
    some .range
  else if s.wordsInUse.contains q.producerWord ∨ s.wordsInUse.contains q.consumerWord then some .inUse
  else none

/-- BIND RING's effect and result data (R97, R109). -/
def doBindRing (p : Params) (s : State) : State × List Word :=
  let q := ringParams p
  let t :=
    if h : q.id < 4 then
      let reliable := decide (q.kind = 1)
      (s.updOut ⟨q.id, h⟩ fun _ =>
        { OutRing.unbound with
          state := .active, kind := if reliable then .reliable else .plain, count := q.count,
          base := q.base, producerWord := some q.producerWord, consumerWord := some q.consumerWord,
          syncNeeded := reliable }).issueWrite .indexWord q.consumerWord (leBytes 8 0)
    else if h : q.id - 4 < 2 then
      (s.updIn ⟨q.id - 4, h⟩ fun _ =>
        ({ InRing.unbound with
            state := .active, count := q.count, base := q.base, producerWord := some q.producerWord,
            consumerWord := some q.consumerWord }).flow).issueWrite .indexWord q.producerWord (leBytes 8 0)
    else s
  (t, [numberWord q.id])

/-- BIND RETURN's own checks, in order (R116). -/
def checkBindReturn (p : Params) (s : State) : Option ErrorCode :=
  let q := returnParams p
  if s.rings.ret.bound then some .inUse
  else if q.lines = 0 ∨ 4352 < q.lines ∨ q.pitch = 0 ∨ 65536 < q.pitch ∨ q.pitch % 16 ≠ 0 then some .range
  else if q.base % 256 ≠ 0 ∨ q.stride % 256 ≠ 0 ∨ q.stride < q.lines * q.pitch ∨
      Config.addressSpace < q.base + 2 * q.stride then some .range
  else if s.badWord q.doneWord then some .range
  else if s.wordsInUse.contains q.doneWord then some .inUse
  else none

/-- BIND RETURN's effect and result data, D0 the id 6 (R116, R157). -/
def doBindReturn (p : Params) (s : State) : State × List Word :=
  let q := returnParams p
  let k := s.rings.nextSerial
  ((s.updRet fun _ =>
    { ReturnBinding.unbound with
      bound := true, base := q.base, pitch := q.pitch, lines := q.lines, stride := q.stride,
      doneWord := some q.doneWord, serial := k, releaseDue := true }).bumpSerial,
    [numberWord 6])

/-- UNBIND's own checks, in order (R107). -/
def checkUnbind (p : Params) (s : State) : Option ErrorCode :=
  let id := indexParam p
  if 6 < id then some .range
  else if id = 6 then if s.rings.ret.bound then none else some .stateError
  else if s.rings.stateOf id = .unbound then some .stateError
  else none

/-- UNBIND's effect and result data (R107, R119, R158). -/
def doUnbind (p : Params) (s : State) : State × List Word :=
  let id := indexParam p
  let t :=
    if h : id < 4 then s.updOut ⟨id, h⟩ fun _ => OutRing.unbound
    else if h : id - 4 < 2 then s.updIn ⟨id - 4, h⟩ fun _ => InRing.unbound
    else s.updRet fun _ => ReturnBinding.unbound
  (t, [numberWord id])

/-- RESUME RING's own checks, in order: RANGE, STATE, then the written index (R106, R110). -/
def checkResumeRing (p : Params) (s : State) : Option ErrorCode :=
  let id := indexParam p
  if 5 < id then some .range
  else if s.rings.stateOf id ≠ .halted then some .stateError
  else if h : id < 4 then
    let o := s.rings.outbound[id]
    if o.indexOk o.producerWritten then none else some .range
  else if h : id - 4 < 2 then
    let q := s.rings.inbound[id - 4]
    if q.indexOk q.consumerWritten then none else some .range
  else none

/-- A failed test of RESUME RING leaves the cause of an outbound HALTED ring INDEX (R106; log entry 21). -/
def failResumeRing (p : Params) (s : State) : State :=
  let id := indexParam p
  if h : id < 4 then
    if (s.rings.outbound[id]).state = .halted then s.updOut ⟨id, h⟩ fun o => { o with cause := .index }
    else s
  else s

/-- RESUME RING's effect and result data (R106, R110). -/
def doResumeRing (p : Params) (s : State) : State × List Word :=
  let id := indexParam p
  let t :=
    if h : id < 4 then
      (s.updOut ⟨id, h⟩ fun o =>
        { o with
          producerSeen := o.producerWritten, state := .active, cause := .none,
          syncNeeded := decide (o.kind = .reliable) || o.syncNeeded }).tryFetch ⟨id, h⟩
    else if h : id - 4 < 2 then
      s.updIn ⟨id - 4, h⟩ fun q =>
        ({ q with consumerSeen := q.consumerWritten, state := .active, cause := .none }).flow
    else s
  (t, [numberWord id])

/-! ### The link leaving UP (R108, R115) -/

/-- A bound outbound ring at the moment the link leaves UP (R108). -/
def OutRing.leaveUp (o : OutRing) : OutRing :=
  let head :=
    match o.head with
    | .placed r => HeadRecord.ready r
    | .inFlight r => .ready r
    | .empty => .empty
    | .fetching k => .fetching k
    | .ready r => .ready r
  match o.state, o.kind with
  | .unbound, _ => o
  | _, .plain => { o with head }
  | _, .reliable => { o with head, toggle := false, syncNeeded := true }

/-- An inbound ring at the moment the link leaves UP (R115, R133; log entry 22). -/
def InRing.leaveUp (q : InRing) : InRing :=
  { q with
    lastAccepted := none, toSend := .none, releaseDue := false,
    landing := match q.landing with
      | .idle => .idle
      | .inProgress k left _ => .inProgress k left none }

/-- Every ring at the moment the link leaves UP. -/
def State.ringsLeaveUp (s : State) : State :=
  s.updRings fun u =>
    { u with outbound := u.outbound.map OutRing.leaveUp, inbound := u.inbound.map InRing.leaveUp }

/-! ### The commands -/

/-- ACK_TIMEOUT (R102, R103). -/
def execAckTimeout (r : Fin 4) (s : State) : Result := changeIn (failOrder r) (State.ackTimeout r) s

/-- Whether an own request is a record fetch. -/
def OwnRequest.isRecordFetch (q : OwnRequest) : Bool :=
  match q.owner with
  | .recordFetch _ _ => true
  | _ => false

/-- RECORD_FETCH_RESPONSE (R99, R107): the response to the outstanding record fetch at a place. -/
def execRecordFetchResponse (place : Nat) (error : Bool) (data : List Byte) (s : State) : Result :=
  match takeNth OwnRequest.isRecordFetch place s.path.ownOut with
  | none => .next s
  | some (q, rest) =>
    change
      (fun t =>
        let t := t.updPath fun p => { p with ownOut := rest }
        match q.owner with
        | .recordFetch r k => if q.live then t.recordFetched r k error data else t
        | _ => t) s

/-- PRODUCER_INDEX_WRITE (R98). -/
def execProducerIndexWrite (r : Fin 4) (value : Word) (s : State) : Result :=
  change (State.producerWrite r value) s

/-- CONSUMER_INDEX_WRITE (R110). -/
def execConsumerIndexWrite (r : Fin 2) (value : Word) (s : State) : Result :=
  change (State.consumerWrite r value) s

end Sys2Proof.Machine
end

