-- ==== Sys2Proof/Machine/LinkFormats.lean ====
section
/-!
DEFINITION. The check over link headers and parcels, the headers and parcels the part transmits, and
the reading of a return window (07_the_triax_link.md R124, R125, R132, R134, R135, R142;
11_memory_and_link_formats.md section 11.4, R176).
-/

namespace Sys2Proof.Machine

/-! ### The check (R135) -/

/-- One bit of the reflected remainder; 0xEDB88320 is the generator 0x04C11DB7 reflected. -/
def checkBit (c : BitVec 32) : BitVec 32 :=
  if c.getLsbD 0 then (c >>> 1) ^^^ 0xEDB88320#32 else c >>> 1

/-- One byte, least significant bit first. -/
def checkByte (c : BitVec 32) (b : Byte) : BitVec 32 :=
  checkBit (checkBit (checkBit (checkBit (checkBit (checkBit (checkBit (checkBit
    (c ^^^ b.setWidth 32))))))))

/-- The 32-bit check over bytes in transmission order: initial remainder 0xFFFF_FFFF, inverted at the
end. -/
def linkCheck (bs : List Byte) : BitVec 32 := ~~~ (bs.foldl checkByte 0xFFFFFFFF#32)

/-- Bytes followed by their check, least significant byte first. -/
def withCheck (bs : List Byte) : List Byte := bs ++ leBytes 4 (linkCheck bs).toNat

/-! ### Headers the part transmits (section 11.4) -/

/-- The six bytes that announce a change: kind, effective frame number, F or rate code, Rt. -/
def changeBytes (c : Change) (frame : Byte) : List Byte :=
  match c with
  | .rate r => [1, frame] ++ leBytes 2 r.code ++ leBytes 2 0
  | .split f rt => [2, frame] ++ leBytes 2 f ++ leBytes 2 rt

/-- A HOLD request byte: the count, or 0xFF for none. -/
def holdByte (request : Option Byte) : Byte := request.getD 0xFF

/-- What a forward header carries (R142). -/
structure ForwardHeader where
  frame : Byte
  rate : Rate
  stream : StreamState
  change : Option PendingChange
  ack0 : Answer
  ack1 : Answer
  hold0 : Option Byte
  hold1 : Option Byte
  holdReturn : Option Byte
  drop : Option (FrameNumber × BitVec 8)
  parcels : Nat
deriving DecidableEq, Repr

/-- The cell of a forward header, kind 0x01. -/
def ForwardHeader.bytes (h : ForwardHeader) : List Byte :=
  let announced :=
    match h.change with
    | none => [0, 0, 0, 0, 0, 0]
    | some c => changeBytes c.change (linkFrameNumber c.effective)
  let drop :=
    match h.drop with
    | none => [0, 0, 0, 0]
    | some d => [1] ++ leBytes 2 d.1.toNat ++ [d.2]
  withCheck <| padTo 28 <|
    [0x01, h.frame, BitVec.ofNat 8 h.rate.code, BitVec.ofNat 8 h.stream.code] ++ announced ++
    [h.ack0.byte, h.ack1.byte, holdByte h.hold0, holdByte h.hold1, holdByte h.holdReturn] ++ drop ++
    leBytes 2 h.parcels

/-- The cell of a probe header, kind 0x02 (R124). -/
def probeHeader (frame : Byte) (ceiling : Rate) : List Byte :=
  withCheck (padTo 28 [0x02, frame, BitVec.ofNat 8 ceiling.code])

/-- The cell of a training header, kind 0x03 (R125). -/
def trainingHeader (frame : Byte) (rate : Rate) (trialFrame : Nat) : List Byte :=
  withCheck (padTo 28 [0x03, frame, BitVec.ofNat 8 rate.code, BitVec.ofNat 8 trialFrame])

/-! ### Parcels the part transmits (section 11.4) -/

/-- The flags byte of a parcel header. -/
def parcelFlags (first last poison sync toggle : Bool) : Byte :=
  BitVec.ofNat 8 (flag first + 2 * flag last + 4 * flag poison + 8 * flag sync + 16 * flag toggle)

/-- The header fields of a placed parcel, 28 bytes. -/
def ParcelBody.header (b : ParcelBody) (poison : Bool) : List Byte :=
  padTo 28 <|
    match b with
    | .piece _ frame _ line kind present position offset length first last =>
      [0x10, parcelFlags first last poison false false] ++ leBytes 2 length ++ leBytes 2 frame.toNat ++
        leBytes 2 line ++ [BitVec.ofNat 8 kind.code, BitVec.ofNat 8 (presentBits present),
          BitVec.ofNat 8 position.val, 0] ++ leBytes 2 offset
    | .absentRun _ frame _ first count =>
      [0x11, parcelFlags false false poison false false] ++ leBytes 2 0 ++ leBytes 2 frame.toNat ++
        leBytes 2 first ++ leBytes 2 count
    | .frameEnd _ frame _ whole torn absent =>
      [0x12, parcelFlags false false poison false false] ++ leBytes 2 0 ++ leBytes 2 frame.toNat ++
        leBytes 2 whole ++ leBytes 2 torn ++ leBytes 2 absent
    | .ring index _ tag length _ toggle sync =>
      [0x13, parcelFlags false false poison sync toggle] ++ leBytes 2 length ++
        [BitVec.ofNat 8 index.val, tag]

/-- The payload length of a placed parcel. -/
def ParcelBody.length (b : ParcelBody) : Nat :=
  match b with
  | .piece _ _ _ _ _ _ _ _ n _ _ => n
  | .ring _ _ _ n _ _ _ => n
  | .absentRun _ _ _ _ _ => 0
  | .frameEnd _ _ _ _ _ _ => 0

/-- The bytes of a transmitted parcel: header, payload and check. -/
def ParcelBody.bytes (b : ParcelBody) (poison : Bool) (payload : List Byte) : List Byte :=
  withCheck (b.header poison ++ padTo b.length payload)

/-- The payload of a TRAIN_PATTERN parcel: byte i is (i + the link frame number) mod 256 (R125). -/
def trainPattern (frame : Byte) : List Byte :=
  (List.range 992).map (fun i => BitVec.ofNat 8 (i + frame.toNat))

/-- The bytes of a TRAIN_PATTERN parcel, kind 0x14. -/
def trainParcel (frame : Byte) : List Byte :=
  withCheck (padTo 28 ([0x14, 0] ++ leBytes 2 992) ++ trainPattern frame)

/-! ### Return windows (R132, R134, R176) -/

/-- Whether a header cell is good: it passes its check, its kind is 0x04, and it echoes the present
link frame number (R132, R176). -/
def headerGood (count : FrameCount) (h : List Byte) : Bool :=
  decide (fieldAt h 28 4 = (linkCheck (padTo 28 h)).toNat) && decide (byteAt h 0 = 0x04) &&
    decide (byteAt h 1 = linkFrameNumber count)

/-- A parcel found in a return window: one that passed its check, or one discarded with an error. -/
inductive Found where
  | parcel (header payload : List Byte)
  | bad
deriving DecidableEq, Repr

/-- The kinds that the return window can carry (section 11.4, R176). -/
def returnKind (k : Byte) : Bool := k == 0x14 || k == 0x20 || k == 0x21 || k == 0x22

/-- The parcels of a return window, one after another from a byte offset, `n` of them, with `cells`
left (R134). The kind is tested before the check: a parcel of no return kind makes its header unusable,
whether its check holds or not (R134, R176; log entry 43). -/
def findParcels (body : List Byte) : Nat → Nat → Nat → List Found
  | 0, _, _ => []
  | n + 1, off, cells =>
    let length := fieldAt body (off + 2) 2
    let used := 1 + ceilDiv length 32
    if cells = 0 ∨ returnKind (byteAt body off) = false ∨ Config.maxPayload < length ∨ cells < used then
      List.replicate (n + 1) .bad
    else
      let covered := bytesAt body off (28 + length)
      let one :=
        if fieldAt body (off + 28 + length) 4 = (linkCheck covered).toNat then
          Found.parcel (covered.take 28) (covered.drop 28)
        else .bad
      one :: findParcels body n (off + 32 * used) (cells - used)

/-- The parcels after a good header: its parcel count, in the effective return cells less the header's. -/
def returnParcels (header body : List Byte) (cells : Nat) : List Found :=
  findParcels body (fieldAt header 0x11 2) 0 (cells - 1)

/-- A CMSG parcel with a ring field above 1 is discarded as an error (R176). -/
def Found.isError : Found → Bool
  | .bad => true
  | .parcel h _ => byteAt h 0 == 0x20 && decide (1 < (byteAt h 4).toNat)

/-- The change echo of a return header, NONE for another kind (R138, R176). -/
def echoOf (h : List Byte) : Option (Change × Byte) :=
  match (byteAt h 0x0B).toNat with
  | 1 => (Rate.ofCode (fieldAt h 0x0D 2)).map (fun r => (.rate r, byteAt h 0x0C))
  | 2 => some (.split (fieldAt h 0x0D 2) (fieldAt h 0x0F 2), byteAt h 0x0C)
  | _ => none

/-- The tally word, the base error count and READY of a return header. -/
def tallyOf (h : List Byte) : Byte := byteAt h 3
def baseErrorsOf (h : List Byte) : Nat := (byteAt h 0x0A).toNat
def readyOf (h : List Byte) : Bool := (byteAt h 2).getLsbD 0

/-- The lanes a HOLD names, VIDEO then O0 to O3 (section 11.4). -/
def holdLanes (h : List Byte) : List (Fin 5) :=
  (List.finRange 5).filter (fun i => (byteAt h 8).getLsbD i.val)

end Sys2Proof.Machine
end

