-- ==== Sys2Proof/Machine/Scheduler.lean ====
section
/-!
DEFINITION. The forward scheduler: lane schedules, building the forward window, payload fetches, sending
and forward holds, and the commands that act on them (05_forward_scheduling.md).
-/

namespace Sys2Proof.Machine

/-! ### LOAD SCHEDULE (R83) -/

/-- LOAD SCHEDULE's own check: the address is aligned to 256 and its 256 bytes lie below 2^40 (R83). -/
def checkLoadSchedule (p : Params) : Option ErrorCode :=
  let a := p[0].toNat
  if a % 256 ≠ 0 ∨ Config.addressSpace < a + 256 then some .range else none

/-- LOAD SCHEDULE issues the own read of the image in the OTHER class (R83). -/
def doLoadSchedule (p : Params) (s : State) : State := s.issueRead .scheduleImage p[0].toNat 256

/-- What the validation of a slot's entries gives: its service entries, or the first failing entry and
its error (R81, R83). R83 does not say which code an entry gets that has a quota above 63 and also names
an UNBOUND ring: the model tests the quota first and gives RANGE (log entry 20). -/
def validateSlot (u : RingUnit) (image : List Byte) (slot : Nat) :
    Nat → Nat → Except (ErrorCode × Nat) (List ServiceEntry)
  | 0, _ => .ok []
  | fuel + 1, e =>
    let (code, quota) := imageEntry image slot e
    match sourceOfCode code with
    | none => .error (.range, e)
    | some none => if 63 < quota then .error (.range, e) else .ok []
    | some (some src) =>
      if 63 < quota then .error (.range, e)
      else
        let isUnbound : Bool :=
          match src with
          | .video => false
          | .ring r => decide ((u.outbound[r]).state = .unbound)
        if isUnbound then .error (.unboundError, e)
        else
          match validateSlot u image slot fuel (e + 1) with
          | .ok rest => .ok ({ source := src, quota } :: rest)
          | .error x => .error x

/-- The validation of an image slot by slot: its slots, or the first failing slot, entry and error. -/
def validateImage (u : RingUnit) (image : List Byte) :
    Nat → Nat → Except (ErrorCode × Nat × Nat) (List (List ServiceEntry))
  | 0, _ => .ok []
  | fuel + 1, slot =>
    match validateSlot u image slot 8 0 with
    | .error (c, e) => .error (c, slot, e)
    | .ok entries =>
      match validateImage u image fuel (slot + 1) with
      | .ok rest => .ok (entries :: rest)
      | .error x => .error x

/-- The schedule of 16 slots that a list of slots gives. -/
def scheduleOf (slots : List (List ServiceEntry)) : Schedule := Vector.ofFn fun i => slots.getD i.val []

/-- The count at which a staged schedule is due (R83). -/
def dueCount (count : FrameCount) (d : Due) : FrameCount :=
  match d with
  | .nextFrame => count + 1
  | .nextCycle => BitVec.ofNat 32 ((count.toNat / 16 + 1) * 16)

/-- The schedule image response for a LOAD SCHEDULE (R83). -/
def State.imageArrived (error : Bool) (image : List Byte) (s : State) : State :=
  if error then s.finishIf .loadSchedule .memory []
  else
    match validateImage s.rings image 16 0 with
    | .error (c, slot, e) => s.finishIf .loadSchedule c [numberWord (slot + atBit 8 e)]
    | .ok slots =>
      let due := if s.sched.state = .active then Due.nextCycle else .nextFrame
      (s.updSched fun c => { c with staged := some (scheduleOf slots, due) }).finishIf .loadSchedule .noError
        [numberWord (dueCount s.link.count due).toNat]

/-- Promotion at a link frame start of a staged schedule that is due (R82). -/
def Scheduler.promote (count : FrameCount) (c : Scheduler) : Scheduler :=
  match c.staged with
  | none => c
  | some (sch, due) =>
    let isDue := match due with
      | .nextFrame => true
      | .nextCycle => decide (count.toNat % 16 = 0)
    if isDue then { c with active := some sch, staged := none, state := .active } else c

/-! ### Placing parcels (R84 to R88) -/

/-- A parcel is placed at the end of the window, its fetch pending if it carries payload. -/
def State.place (body : ParcelBody) (s : State) : State :=
  s.updSched fun c =>
    { c with
      window := c.window ++
        [{ id := c.nextParcel, body, fetch := if body.length = 0 then .notNeeded else .pending,
           poison := false }]
      nextParcel := c.nextParcel + 1 }

/-- The job with a serial number is replaced. -/
def State.putJob (j : Job) (s : State) : State :=
  s.updSched fun c => { c with queue := c.queue.map (fun x => if x.id = j.id then j else x) }

/-- The segment length of a position of the stream (R66). -/
def State.positionLength (s : State) (k : Fin 6) : Nat :=
  match s.tracker.stream.windows[k.val]? with
  | none => 0
  | some w => s.segLen w

/-- The next piece of a LINE job within the budget, with the job after it, or none if it does not fit
(R87). The piece carries FIRST while the job is WAITING, and LAST when no position is left. -/
def State.cutPiece (j : Job) (line : Nat) (kind : LineKind) (present : List (Fin 6)) (k : Fin 6)
    (offset budget : Nat) (s : State) : Option (State × Nat) :=
  if budget < 2 then none
  else
    let left := s.positionLength k - offset
    let p := min left (min Config.maxPiece ((budget - 1) * 32))
    let next := present.filter (fun q => decide (k.val < q.val))
    let ends := decide (p = left)
    let last := ends && next.isEmpty
    let first := decide (j.placing = .waiting)
    let body :=
      if ends then
        match next with
        | [] => JobBody.line line kind present k (offset + p)
        | q :: _ => .line line kind present q 0
      else .line line kind present k (offset + p)
    let j' : Job := { j with body, placing := if last then .placed else .placing }
    some
      (((s.place (.piece j.id j.frame j.slot line kind present k offset p first last)).putJob j'),
        budget - (1 + ceilDiv p 32))

/-- The next video parcel within the budget, from the oldest job that is not PLACED (R86). -/
def State.nextVideo (budget : Nat) (s : State) : Option (State × Nat) :=
  match s.sched.queue.find? (fun j => decide (j.placing ≠ .placed)) with
  | none => none
  | some j =>
    match j.body with
    | .line line kind present k offset => s.cutPiece j line kind present k offset budget
    | .absentRun first n =>
      if budget = 0 then none
      else some ((s.place (.absentRun j.id j.frame j.slot first n)).putJob { j with placing := .placed },
        budget - 1)
    | .frameEnd w t a =>
      if budget = 0 then none
      else some ((s.place (.frameEnd j.id j.frame j.slot w t a)).putJob { j with placing := .placed },
        budget - 1)

/-- A VIDEO entry places parcels, `fuel` of them at most (R85, R86). -/
def serveVideo : Nat → Nat → State → State × Nat
  | 0, budget, s => (s, budget)
  | fuel + 1, budget, s =>
    match s.nextVideo budget with
    | none => (s, budget)
    | some (t, b) => serveVideo fuel b t

/-- A ring entry of an ACTIVE ring: the offered record is TOO_LARGE, does not fit, or is placed (R88,
R100). `cells` are the effective forward cells of the frame. -/
def State.serveRing (r : Fin 4) (cells budget : Nat) (s : State) : State × Nat :=
  let o := s.rings.outbound[r]
  match o.head with
  | .ready sr =>
    let payload := ceilDiv sr.length 32
    if budget = 0 then (s, budget)
    else if cells < payload + 2 then (s.retireNext r sr .tooLarge, budget)
    else if budget < payload + 1 then (s, budget)
    else
      let reliable := decide (o.kind = .reliable)
      let t := s.place (.ring r sr.serial sr.tag sr.length sr.buffer (reliable && o.toggle) (reliable && o.syncNeeded))
      let t := t.updOut r fun o =>
        match o.kind with
        | .plain => { o with head := .placed sr }
        | .reliable =>
          { o with head := .inFlight sr, sendCount := o.sendCount + 1, sentFrame := s.link.count }
      (t, budget - (payload + 1))
  | .empty | .fetching _ | .placed _ | .inFlight _ => (s, budget)

/-- The index of a source's hold timer: VIDEO, O0 to O3 (R92). -/
def Source.lane : Source → Fin 5
  | .video => 0
  | .ring r => ⟨r.val + 1, by omega⟩

/-- The schedule halts on an unbound ring (R85). -/
def State.haltSchedule (s : State) : State :=
  (s.updSched fun c =>
    { c with state := .halted, staged := c.staged.map (fun x => (x.1, Due.nextFrame)) }).raise .schedHalt

/-- The walk of a slot's entries against the budget (R85). -/
def walkEntries (cells : Nat) : List ServiceEntry → Nat → State → State × Nat
  | [], budget, s => (s, budget)
  | e :: rest, budget, s =>
    if s.sched.hold[e.source.lane] ≠ 0 then walkEntries cells rest budget s
    else
      match e.source with
      | .video =>
        let r := serveVideo (if e.quota = 0 then budget else e.quota) budget s
        walkEntries cells rest r.2 r.1
      | .ring r =>
        match (s.rings.outbound[r]).state with
        | .unbound => (s.haltSchedule, budget)
        | .halted => walkEntries cells rest budget s
        | .active =>
          let x := s.serveRing r cells budget
          walkEntries cells rest x.2 x.1

/-- The address of a parcel's payload in memory (R87, R88). -/
def State.payloadAddr (b : ParcelBody) (s : State) : Nat :=
  match b with
  | .piece _ _ slot line _ _ k offset _ _ _ =>
    match s.tracker.stream.windows[k.val]? with
    | none => offset
    | some w =>
      let v := s.map.windows[w]
      v.base + slot.val * v.stride + line * v.pitch + offset
  | .ring _ _ _ _ buffer _ _ => buffer
  | .absentRun _ _ _ _ _ => 0
  | .frameEnd _ _ _ _ _ _ => 0

/-- The own reads of a parcel's payload, in the EGRESS class, split at 256-byte boundaries (R89). -/
def State.issueFetch (p : Parcel) (s : State) : State :=
  let a := s.payloadAddr p.body
  (chunks p.body.length a p.body.length).foldl (fun t c => t.issueEgress (.payload p.id) c.1 c.2) s

/-- The window of a frame: the slot walked, the parcels placed, and their fetches; with the number of
parcels placed and the cells left (R81, R84, R89). -/
def State.buildWindow (s : State) : State × Nat × Nat :=
  let cells := s.link.cells.1
  let before := s.sched.window.length
  let walked :=
    match s.sched.state, s.sched.active with
    | .active, some sch =>
      walkEntries cells (sch[s.link.count.toNat % 16]'(Nat.mod_lt _ (by decide))) (cells - 1) s
    | _, _ => (s, cells - 1)
  let new := walked.1.sched.window.drop before
  (new.foldl (fun t p => t.issueFetch p) walked.1, new.length, walked.2)

/-- The hold timers above 0 go down by 1 (R93). -/
def Scheduler.countDown (c : Scheduler) : Scheduler :=
  { c with hold := c.hold.map (fun t => if t = 0 then 0 else t - 1) }

/-- A HOLD sets the timers of the lanes it names (R92); an empty lane set is not taken (R176). -/
def State.takeHold (lanes : List (Fin 5)) (count : Byte) (s : State) : State :=
  s.updSched fun c => { c with hold := lanes.foldl (fun v i => v.set i.val count i.isLt) c.hold }

/-- The scheduler at the moment the link leaves UP: the queue is sunk, the parcels not yet transmitted
are not transmitted, and the hold timers become 0 (R79, R93). -/
def State.schedLeaveUp (s : State) : State :=
  (s.sinkAll.updSched fun c => { c with window := [], hold := Vector.replicate 5 0 }).drainTest

/-! ### Fetches and sending (R89, R90, R91) -/

/-- The fetch outcome of a parcel reaches its owner (R90): an error abandons the LINE job, or retires the
record. -/
def State.fetchOutcome (b : ParcelBody) (error : Bool) (s : State) : State :=
  let t := if error then s.raise .memErr else s
  match b with
  | .piece j _ _ _ _ _ _ _ _ _ _ => if error then t.abandonJob j else t
  | .ring r record _ _ _ _ _ => t.parcelFetched r record error
  | .absentRun _ _ _ _ _ | .frameEnd _ _ _ _ _ _ => t

/-- Whether an own request is a read of a parcel's payload. -/
def OwnRequest.isPayloadOf (parcel : Nat) (q : OwnRequest) : Bool :=
  match q.owner with
  | .payload n => n == parcel
  | _ => false

/-- The payload fetch of a parcel completes with the data returned; a parcel that is no longer in the
window has its response discarded (R79, R89, R90, R91). -/
def State.payloadArrived (parcel : Nat) (error : Bool) (data : List Byte) (s : State) : State :=
  match s.sched.window.find? (fun p => p.id == parcel && decide (p.fetch = .pending)) with
  | none => s
  | some p =>
    let done : Parcel :=
      { p with fetch := .complete (padTo p.body.length data), poison := p.poison || error }
    (s.updSched fun c =>
      { c with window := c.window.map (fun x => if x.id = parcel then done else x) }).fetchOutcome p.body error

/-- What a sent parcel counts (R89, R91). -/
def State.countSent (b : ParcelBody) (poison : Bool) (s : State) : State :=
  let t :=
    match b with
    | .piece _ _ _ _ _ _ _ _ n _ _ => (s.count .videoPiecesSent).countBy .videoBytesSent n
    | .ring _ _ _ _ _ _ _ => s.count .ringParcelsSent
    | .absentRun _ _ _ _ _ | .frameEnd _ _ _ _ _ _ => s
  if poison then t.count .poisonedParcelsSent else t

/-- The idle fill that stands for `n` bytes of payload, from the free value `k` on (R91). -/
def fillBytes : Nat → Nat → List Byte
  | _, 0 => []
  | k, n + 1 => Config.idleFill k :: fillBytes (k + 1) n

/-- The parcel at the front of the window is transmitted, with its data, or as a late fetch (R89, R91). -/
def State.transmit (p : Parcel) (s : State) : State :=
  let t := s.updSched fun c => { c with window := c.window.tail }
  match p.fetch with
  | .notNeeded => (t.emit (.parcel (p.body.bytes p.poison []))).countSent p.body p.poison
  | .complete data => (t.emit (.parcel (p.body.bytes p.poison data))).countSent p.body p.poison
  | .pending =>
    let n := p.body.length
    let t := { t with free := t.free + n }
    ((t.emit (.parcel (p.body.bytes true (fillBytes s.free n)))).countSent p.body true).fetchOutcome
      p.body true

/-- The job of a parcel that has been transmitted leaves the queue with its last placed parcel (R78). -/
def State.finishParcel (p : Parcel) (s : State) : State :=
  match p.body.job with
  | none => s
  | some j => s.jobSent j

/-- The next placed parcel is sent: its transmission, and then the leaving of its job, whose depth comes
before the end of a drain (R78, R89, R91, R73). -/
def State.sendNext (s : State) : State :=
  match s.sched.window with
  | [] => s
  | p :: _ => mirroredIn releaseOrder (State.finishParcel p) (mirrored (State.transmit p) s)

/-! ### The commands -/

/-- PAYLOAD_FETCH_COMPLETE (R89, R90), once every read of the fetch has been granted. -/
def execPayloadFetchComplete (parcel : Nat) (error : Bool) (data : List Byte) (s : State) : Result :=
  if s.path.egress.any (OwnRequest.isPayloadOf parcel) = false ∧
      s.path.ownOut.any (OwnRequest.isPayloadOf parcel) then
    change
      (fun t =>
        (t.updPath fun p =>
          { p with ownOut := p.ownOut.filter (fun q => !q.isPayloadOf parcel) }).payloadArrived parcel
          error data) s
  else .next s

/-- PARCEL_SENT (R89). -/
def execParcelSent (s : State) : Result := .next s.sendNext

/-- Whether an own request is a schedule image read. -/
def OwnRequest.isImageRead (q : OwnRequest) : Bool := decide (q.owner = .scheduleImage)

/-- SCHEDULE_IMAGE_RESPONSE (R83), to the outstanding image read at a place. -/
def execScheduleImageResponse (place : Nat) (error : Bool) (data : List Byte) (s : State) : Result :=
  match takeNth OwnRequest.isImageRead place s.path.ownOut with
  | none => .next s
  | some (q, rest) =>
    change
      (fun t =>
        let t := t.updPath fun p => { p with ownOut := rest }
        if q.live then t.imageArrived error data else t) s

end Sys2Proof.Machine
end

