-- ==== Sys2Proof/Machine/Link.lean ====
section
/-!
DEFINITION. The link unit: link frames, link states, training, loss, return windows, the error monitor,
the pending change and the forward header, and the commands that act on them (07_the_triax_link.md).
-/

namespace Sys2Proof.Machine

/-! ### Link state changes (R122 to R131, R133) -/

/-- A change of the link state raises LINK_CHANGE; a command that leaves it as it was does not (R122). -/
def State.setLink (st : LinkState) (s : State) : State :=
  if s.link.state = st then s else (s.updLink fun l => { l with state := st }).raise .linkChange

/-- The result data of SET SPLIT: the configured split and the count (R157). -/
def State.splitData (s : State) : List Word :=
  [numberWord (s.link.splitF + atBit 16 s.link.splitRt), s.countWord]

/-- The running SET SPLIT ends (R140, R139, R133). -/
def State.endSetSplit (e : ErrorCode) (s : State) : State := s.finishIf .setSplit e s.splitData

/-- The pending change is cancelled when the link leaves UP (R133). -/
def State.cancelChange (s : State) : State :=
  match s.link.change with
  | none => s
  | some c =>
    let t := s.updLink fun l => { l with change := none }
    match c.change with
    | .split _ _ => t.endSetSplit .noAgreement
    | .rate _ => t

/-- The effects of the link's leaving UP, from whichever command or loss (R133). -/
def State.leaveUp (s : State) : State :=
  if s.link.state = .up then
    (((s.cancelChange.updLink fun l => { l with monitorFrames := 0, monitorErrors := 0 }).schedLeaveUp).ringsLeaveUp)
  else s

/-- The trial fields at none, and nothing left for the next link frame start (R124, R127; log entry 29). -/
def LinkUnit.noTrial (l : LinkUnit) : LinkUnit :=
  { l with trialRate := none, trialFrame := 0, trialBaseErrors := 0, trialOwnErrors := 0, move := none }

/-- The link enters PROBING (R124), leaving UP with every effect of R133. -/
def State.enterProbing (s : State) : State :=
  (s.leaveUp.setLink .probing).updLink fun l =>
    { l.noTrial with probeFrames := 0, probeCycles := 0, lossRun := 0 }

/-- The link enters DOWN (R129). -/
def State.enterDown (s : State) : State := (s.leaveUp.setLink .down).updLink LinkUnit.noTrial

/-- The link is lost (R131). -/
def State.lose (s : State) : State := (s.count .linkLosses).enterProbing

/-- A trial begins at a rate (R125). -/
def LinkUnit.startTrial (r : Rate) (l : LinkUnit) : LinkUnit :=
  { l.noTrial with trialRate := some r }

/-- The trial passes if both trial errors are at most 1 (R126). -/
def LinkUnit.trialPasses (l : LinkUnit) : Bool :=
  decide (l.trialBaseErrors ≤ Config.trialLimit) && decide (l.trialOwnErrors ≤ Config.trialLimit)

/-- The trial is judged: UP, the next lower rate, or a training failure and PROBING, at the next link
frame start (R126). -/
def State.judgeTrial (s : State) : State :=
  let l := s.link
  let moveTo (m : LinkMove) (t : State) : State := t.updLink fun l => { l with move := some m }
  if l.trialPasses then moveTo .up s
  else
    match (l.trialRate.getD .quarter).lower with
    | some r => moveTo (.trial r) s
    | none => moveTo .probing (s.count .trainingFailures)

/-- The link becomes UP (R127). -/
def State.becomeUp (s : State) : State :=
  (s.setLink .up).updLink fun l =>
    { l.noTrial with
      rate := l.trialRate.getD .quarter, lossRun := 0, monitorFrames := 0, monitorErrors := 0,
      dropRepeat := if 0 < l.dropRepeat then 4 else 0 }

/-! ### The pending change (R137 to R140) -/

/-- A pending change is created (R137). -/
def State.createChange (c : Change) (s : State) : State :=
  s.updLink fun l =>
    { l with
      change := some { change := c, effective := l.count + BitVec.ofNat 32 Config.changeDelay, echoed := false } }

/-- A rate step-down (R139). -/
def State.stepDown (r : Rate) (s : State) : State :=
  match s.link.change with
  | none => s.createChange (.rate r)
  | some c =>
    match c.change with
    | .split _ _ =>
      ((s.updLink fun l => { l with change := none }).endSetSplit .superseded).createChange (.rate r)
    | .rate _ => s

/-- The judgement of a block of the monitor (R136). -/
def State.judgeBlock (s : State) : State :=
  let l := s.link
  let t :=
    match l.rate.lower with
    | some r => if Config.monitorLimit ≤ l.monitorErrors then s.stepDown r else s
    | none => s
  t.updLink fun l => { l with monitorFrames := 0, monitorErrors := 0 }

/-- A RATE change takes effect at its effective count, in force for the frame that starts (R139, R121). -/
def State.rateEffect (s : State) : State :=
  match s.link.change with
  | some ⟨.rate r, d, _⟩ =>
    if s.link.state = .up ∧ d = s.link.count then
      ((s.updLink fun l => LinkUnit.enforce { l with rate := r, change := none }).count .rateStepDowns).raise
        .linkChange
    else s
  | _ => s

/-- A SPLIT change takes effect at its effective count if echoed, in force for the frame that starts, or is
dropped (R140, R121). -/
def State.splitEffect (s : State) : State :=
  match s.link.change with
  | some ⟨.split f rt, d, echoed⟩ =>
    if s.link.state = .up ∧ d = s.link.count then
      if echoed then
        ((s.updLink fun l => LinkUnit.enforce { l with splitF := f, splitRt := rt, change := none }).raise
          .linkChange).endSetSplit .noError
      else (s.updLink fun l => { l with change := none }).endSetSplit .noAgreement
    else s
  | _ => s

/-- A change echo taken at a good UP arrival (R138). -/
def State.takeEcho (e : Option (Change × Byte)) (s : State) : State :=
  match e, s.link.change with
  | some (c, n), some p =>
    if c = p.change ∧ n = linkFrameNumber p.effective then
      s.updLink fun l => { l with change := some { p with echoed := true } }
    else s
  | _, _ => s

/-! ### Forward windows (R121, R124, R125, R142, R143) -/

/-- The HOLD request of an inbound ring's lane (R114). -/
def InRing.request (q : InRing) : Option Byte :=
  if q.holdRequested then some 16 else if q.releaseDue then some 0 else none

/-- The HOLD request of the RETURN lane (R119). -/
def ReturnBinding.request (b : ReturnBinding) : Option Byte :=
  if !b.bound then some 16 else if b.releaseDue then some 0 else none

/-- The forward header of the frame (R142). -/
def State.forwardHeader (parcels : Nat) (s : State) : ForwardHeader :=
  let l := s.link
  { frame := linkFrameNumber l.count, rate := l.rate, stream := s.tracker.stream.state,
    change := l.change, ack0 := s.rings.inbound[0].toSend, ack1 := s.rings.inbound[1].toSend,
    hold0 := s.rings.inbound[0].request, hold1 := s.rings.inbound[1].request,
    holdReturn := s.rings.ret.request,
    drop := if 0 < l.dropRepeat then some (l.lastDropped, l.dropCount) else none, parcels }

/-- What the building of an UP header takes: the answers to send, the releases due, and one of the drop
repeats (R113, R114, R119, R143). -/
def State.headerBuilt (s : State) : State :=
  (s.updRings fun u =>
    { u with
      inbound := u.inbound.map (fun q => { q with toSend := .none, releaseDue := false })
      ret := { u.ret with releaseDue := false } }).updLink fun l => { l with dropRepeat := l.dropRepeat - 1 }

/-- The forward window of an UP frame (R84, R142). Its header carries the number of parcels placed, also
where the schedule halted in this frame's walk after it had placed some (log entry 41). -/
def State.upWindow (s : State) : State :=
  let w := s.buildWindow
  (w.1.emit (.header (w.1.forwardHeader w.2.1).bytes w.2.2)).headerBuilt

/-- The forward window of a TRAINING frame: header, as many TRAIN_PATTERN parcels as fit, idle fill (R125). -/
def State.trainingWindow (s : State) : State :=
  let n := linkFrameNumber s.link.count
  let cells := s.link.cells.1
  let k := (cells - 1) / 32
  let t := s.emit (.header (trainingHeader n (s.link.trialRate.getD .quarter) s.link.trialFrame) (cells - 1 - 32 * k))
  (List.replicate k (trainParcel n)).foldl (fun t b => t.emit (.parcel b)) t

/-- The forward window of a PROBING frame (R124). -/
def State.probingWindow (s : State) : State :=
  s.emit (.header (probeHeader (linkFrameNumber s.link.count) s.link.ceiling) (s.link.cells.1 - 1))

/-- The forward window of the frame, by link state (R121, R123). -/
def State.frameWindow (s : State) : State :=
  match s.link.state with
  | .down => s
  | .probing => s.probingWindow
  | .training => s.trainingWindow
  | .up => s.upWindow

/-! ### The link frame start (R121) -/

/-- The count goes up by 1, and a new frame has no return window yet. -/
def State.tick (s : State) : State :=
  s.updLink fun l => { l with count := l.count + 1, returnTaken := false }

/-- The order of a change of the link state: the state, LINK_CHANGE, the counts of probing, and then what
R133 tells the other blocks: the pending change, the video queue, the end of a drain, the hold timers
(R122, R124, R133, R79, R73, R93). -/
def linkOrder : WordOrder := fun s t => [0, 1] ++ raisedBy .linkChange s t ++ [3, 2, 5, 4, 15, 13]

/-- What the link frame start does to the link state (R123, R124, R126). A trial whose frame 15 has had no
return window stays at frame 15 (log entry 42). -/
def State.changeLink (s : State) : State :=
  match s.link.state, s.link.move with
  | .probing, some .training => (s.setLink .training).updLink fun l => l.startTrial l.ceiling
  | .training, some .up => s.becomeUp
  | .training, some (.trial r) => s.updLink (LinkUnit.startTrial r)
  | .training, some .probing => s.enterProbing
  | .training, _ =>
    s.updLink fun l => { l with trialFrame := min (l.trialFrame + 1) Config.lastTrialFrame }
  | .down, _ => if s.link.enabled then s.enterProbing else s
  | .probing, _ => s
  | .up, _ => s

/-- The link state at the link frame start, and the cells in force for the frame it opens (R121). -/
def State.moveLink (s : State) : State := s.changeLink.updLink LinkUnit.enforce

/-- The build of a window retires its TOO_LARGE records before the schedule halts (R85, R88, R104): a
RING_ATTN raised comes before the schedule state. -/
def windowOrder : WordOrder := fun s t => raisedBy .ringAttn s t ++ [5]

/-- LINK_FRAME_START (R121): the count, due changes, promotion, the link state, the window and the hold
timers, in that order. -/
def State.frameStart (s : State) : State :=
  let s := mirrored State.tick s
  let s := mirrored State.rateEffect s
  let s := mirrored State.splitEffect s
  let s := mirrored (fun t => t.updSched (Scheduler.promote t.link.count)) s
  let s := mirroredIn linkOrder State.moveLink s
  let s := mirroredIn windowOrder State.frameWindow s
  mirrored (fun t => t.updSched Scheduler.countDown) s

/-! ### Return windows (R124, R125, R131 to R136) -/

/-- The tally word of a good header (R144). -/
def State.takeTally (t : Byte) (s : State) : State :=
  if t = s.link.tally then s else (s.updLink fun l => { l with tally := t }).raise .tally

/-- The end of a probe cycle (R124). -/
def State.endProbeCycle (s : State) : State :=
  if s.link.state = .probing ∧ Config.probeCycleLength ≤ s.link.probeFrames then
    s.updLink fun l => { l with probeFrames := 0, probeCycles := saturate16 (l.probeCycles + 1) }
  else s

/-- A return window arrival while PROBING (R124, R134). -/
def State.arriveProbing (header : Option (List Byte)) (s : State) : State :=
  let more (t : State) : State :=
    mirrored (fun u => (u.updLink fun l => { l with probeFrames := l.probeFrames + 1 }).endProbeCycle) t
  match header with
  | none => more s
  | some h =>
    if headerGood s.link.count h then
      let ready := readyOf h
      let t := if ready then s.updLink fun l => { l with move := some .training } else s
      let t := mirrored (State.takeTally (tallyOf h)) t
      if ready then t else more t
    else more s

/-- Trial errors grow, saturating (R122, R125). -/
def State.trialErrors (base own : Nat) (s : State) : State :=
  s.updLink fun l =>
    { l with
      trialBaseErrors := saturate16 (l.trialBaseErrors + base)
      trialOwnErrors := saturate16 (l.trialOwnErrors + own) }

/-- Link errors enter the monitor (R136). -/
def State.monitorErrors (n : Nat) (s : State) : State :=
  s.updLink fun l => { l with monitorErrors := saturate16 (l.monitorErrors + n) }

/-- A loss run of 8 is a loss (R131). -/
def State.testLoss (s : State) : State :=
  if (s.link.state = .training ∨ s.link.state = .up) ∧ Config.lossLimit ≤ s.link.lossRun then s.lose else s

/-- The end of trial frame 15, once its return window has arrived (R126). -/
def State.testTrial (s : State) : State :=
  if s.link.state = .training ∧ s.link.trialFrame = Config.lastTrialFrame ∧ s.link.returnTaken ∧
      s.link.move = none then s.judgeTrial
  else s

/-- A block of 256 windows is judged (R136). -/
def State.testBlock (s : State) : State :=
  if s.link.state = .up ∧ Config.monitorBlock ≤ s.link.monitorFrames then s.judgeBlock else s

/-- An arrival while UP adds 1 to monitor frames, and the block may end (R136). -/
def State.monitorArrival (s : State) : State :=
  if s.link.state = .up then
    (s.updLink fun l => { l with monitorFrames := l.monitorFrames + 1 }).testBlock
  else s

/-- A bad window: counted, and one more in the loss run (R131, R132). -/
def State.badWindow (s : State) : State :=
  (s.count .returnHeaderErrors).updLink fun l => { l with lossRun := l.lossRun + 1 }

/-- A CMSG parcel of a return window, by its header fields (R111, section 11.4). -/
def cmsgOf (h payload : List Byte) : Cmsg :=
  { toggle := (byteAt h 1).getLsbD 4, sync := (byteAt h 1).getLsbD 3, poison := (byteAt h 1).getLsbD 2,
    tag := byteAt h 5, payload }

/-- A RETURN_PIECE parcel of a return window (R117, section 11.4, R176); flag bit 1 is read as the LAST that
R117 counts (log entry 38). -/
def pieceOf (h payload : List Byte) : Piece :=
  { buffer := (byteAt h 4).getLsbD 0, line := fieldAt h 6 2, offset := fieldAt h 8 2,
    last := (byteAt h 1).getLsbD 1, poison := (byteAt h 1).getLsbD 2, payload }

/-- One parcel of an UP return window, handed on by kind (R134, R176). -/
def State.takeFound (f : Found) (s : State) : State :=
  if f.isError then (s.count .returnParcelCheckErrors).monitorErrors 1
  else
    match f with
    | .bad => s
    | .parcel h payload =>
      match (byteAt h 0).toNat with
      | 0x20 => s.takeCmsg (if byteAt h 4 = 1 then 1 else 0) (cmsgOf h payload)
      | 0x21 => s.takePiece (pieceOf h payload)
      | 0x22 => s.takeReturnEnd ((byteAt h 4).getLsbD 0) (BitVec.ofNat 16 (fieldAt h 6 2))
          ((byteAt h 1).getLsbD 2)
      | _ => s

/-- The fields and parcels of a good UP header with READY set, in the order of R134's table. -/
def State.handOut (h body : List Byte) (s : State) : State :=
  let cells := s.link.cells.2
  let s := mirrored (State.takeTally (tallyOf h)) s
  let s := mirrored (fun t => (t.countBy .baseReportedErrors (baseErrorsOf h)).monitorErrors (baseErrorsOf h)) s
  let s := (List.finRange 4).foldl
    (fun t r => mirroredIn (failOrder r) (State.takeAnswer r (Answer.ofByte (byteAt h (4 + r.val)))) t) s
  let s := mirrored (State.takeHold (holdLanes h) (byteAt h 9)) s
  let s := mirrored (State.takeEcho (echoOf h)) s
  (returnParcels h body cells).foldl (fun t f => mirrored (State.takeFound f) t) s

/-- A return window arrival while UP (R131, R132, R134, R136). Of a header with READY clear nothing is handed
on after the READY row, so its tally is not taken (R134; log entry 37). -/
def State.arriveUp (header : Option (List Byte)) (body : List Byte) (s : State) : State :=
  let bad (t : State) : State :=
    let t := mirrored (fun u => u.badWindow.monitorErrors 1) t
    let t := mirroredIn linkOrder State.testLoss t
    mirrored State.monitorArrival t
  match header with
  | none => bad s
  | some h =>
    if headerGood s.link.count h then
      let t := mirrored (fun u => (u.count .returnWindowsGood).updLink fun l => { l with lossRun := 0 }) s
      if readyOf h then mirrored State.monitorArrival (t.handOut h body) else mirroredIn linkOrder State.lose t
    else bad s

/-- A return window arrival while TRAINING (R125, R126, R131, R134). Of a header with READY clear nothing is
handed on after the READY row, so its tally is not taken (R134; log entry 37). -/
def State.arriveTraining (header : Option (List Byte)) (body : List Byte) (s : State) : State :=
  let bad (t : State) : State :=
    let t := mirrored (fun u => (u.badWindow).trialErrors 0 1) t
    let t := mirroredIn linkOrder State.testLoss t
    mirrored State.testTrial t
  match header with
  | none => bad s
  | some h =>
    if headerGood s.link.count h then
      let t := s.updLink fun l => { l with lossRun := 0 }
      if readyOf h then
        let t := mirrored (State.takeTally (tallyOf h)) t
        let errors := ((returnParcels h body s.link.cells.2).filter Found.isError).length
        let t := mirrored
          (fun u => ((u.countBy .baseReportedErrors (baseErrorsOf h)).countBy .returnParcelCheckErrors
            errors).trialErrors (baseErrorsOf h) errors) t
        mirrored State.testTrial t
      else mirroredIn linkOrder State.lose t
    else bad s

/-- A return window arrival, by link state (R132). An arrival is taken as it comes, also a second one in a
frame, or one in a frame that started DOWN (log entry 42). -/
def State.arrive (header : Option (List Byte)) (body : List Byte) (s : State) : State :=
  let t := s.updLink fun l => { l with returnTaken := true }
  match s.link.state with
  | .down => s
  | .probing => t.arriveProbing header
  | .training => t.arriveTraining header body
  | .up => t.arriveUp header body

/-! ### LINK CONTROL and SET SPLIT (R128 to R130, R140) -/

/-- LINK CONTROL's own checks (section 7.3, R130). -/
def checkLinkControl (p : Params) (s : State) : Option ErrorCode :=
  match linkOperation p with
  | none => some .range
  | some .enable => if (linkCeiling p).isNone then some .range else none
  | some .disable => none
  | some .retrain => if s.link.enabled then none else some .stateError

/-- The result data of LINK CONTROL (R157, section 11.1). -/
def State.linkData (s : State) : List Word :=
  [numberWord (s.link.state.code + atBit 8 (flag s.link.enabled) + atBit 16 s.link.ceiling.code)]

/-- LINK CONTROL's effect (R128, R129, R130). -/
def doLinkControl (p : Params) (s : State) : State × List Word :=
  let t :=
    match linkOperation p with
    | some .enable =>
      let t := s.updLink fun l => { l with enabled := true, ceiling := (linkCeiling p).getD .full }
      if s.link.state = .down then t.enterProbing else t
    | some .disable => (s.updLink fun l => { l with enabled := false }).enterDown
    | some .retrain => s.enterProbing
    | none => s
  (t, t.linkData)

/-- SET SPLIT's own checks, in order (R140). -/
def checkSetSplit (p : Params) (s : State) : Option ErrorCode :=
  let (f, rt) := splitParams p
  if f < 32 ∨ 1280 < f ∨ rt < 16 ∨ 512 < rt ∨ 1536 < f + rt then some .range
  else
    match s.link.state, s.link.change with
    | .up, some ⟨.rate _, _, _⟩ => some .linkBusy
    | _, _ => none

/-- SET SPLIT's effect: stored at once while the link is not UP, else a SPLIT change is created and the
command runs (R140). -/
def doSetSplit (p : Params) (s : State) : State × Option (List Word) :=
  let (f, rt) := splitParams p
  if s.link.state = .up then (s.createChange (.split f rt), none)
  else
    let t := s.updLink fun l => { l with splitF := f, splitRt := rt }
    (t, some t.splitData)

/-! ### The commands -/

/-- LINK_FRAME_START (R121). While INITIALIZING each one given is taken, a second one too (R17; log entry 44). -/
def execLinkFrameStart (s : State) : Result := .next s.frameStart

/-- RATE_CHANGE_EFFECT (R139), when a RATE change stands at its effective count. -/
def execRateChangeEffect (s : State) : Result := change State.rateEffect s

/-- SPLIT_CHANGE_EFFECT (R140), when a SPLIT change stands at its effective count. -/
def execSplitChangeEffect (s : State) : Result := change State.splitEffect s

/-- RETURN_WINDOW_ARRIVAL (R132). -/
def execReturnWindowArrival (header : Option (List Byte)) (body : List Byte) (s : State) : Result :=
  .next (s.arrive header body)

/-- PROBE_CYCLE (R124), when probe frames stand at 64. -/
def execProbeCycle (s : State) : Result := change State.endProbeCycle s

/-- TRIAL_END (R126), when trial frame 15's return window has arrived and the trial is not judged. -/
def execTrialEnd (s : State) : Result := change State.testTrial s

/-- MONITOR_BLOCK_JUDGEMENT (R136), when monitor frames stand at 256. -/
def execMonitorBlockJudgement (s : State) : Result := change State.testBlock s

/-- LINK_LOSS (R131), when the loss run stands at 8. -/
def execLinkLoss (s : State) : Result := changeIn linkOrder State.testLoss s

end Sys2Proof.Machine
end

