-- ==== Sys2Proof/Machine/Mailbox.lean ====
section
/-!
DEFINITION. The mailbox unit and the status unit: parameter capture, launches, the commands and their
results, restart, initialization, acknowledgement, snapshots and status writes, and power-on reset
(08_command_mailbox_and_command_reference.md; 09; 10; R17, R18, R19).
-/

namespace Sys2Proof.Machine

/-! ### Parameter slots (R146, R147) and acknowledgement (R154, R164) -/

/-- A parameter word covered whole is captured FRESH; a torn one makes its slot STALE (R146, R147). -/
def State.paramWrite (i : Fin 8) (value : Option Word) (s : State) : State :=
  match value with
  | some v => s.updMbox fun m => { m with slots := m.slots.set i { value := v, fresh := true } }
  | none =>
    ((s.updMbox fun m => { m with slots := m.slots.set i { m.slots[i] with fresh := false } }).count
      .mailboxTornWords).updStatus fun u => { u with paramTorn := true }

/-- An acknowledge word: its events and flags are cleared, and the guard fault record with GUARD (R164). -/
def State.acknowledge (value : Word) (s : State) : State :=
  let named : BitVec 10 := BitVec.ofNat 10 (bits value 9 0)
  let t := s.updStatus fun u =>
    { u with
      events := u.events &&& ~~~named
      launchLost := u.launchLost && !value.getLsbD 16
      paramTorn := u.paramTorn && !value.getLsbD 17
      inboundFull := u.inboundFull && !value.getLsbD 18 }
  if named &&& Event.guard.mask ≠ 0 then t.updPath fun p => { p with guard := none } else t

/-- The order of an acknowledgement's words: the pending set, the sticky flags, and then the guard fault
record (R164). -/
def acknowledgeOrder : WordOrder := fun _ _ => [15, 14]

/-! ### Snapshots (R159, R171 to R173) -/

/-- What the option leaves in a counter after its capture (R172). -/
def SnapshotOption.after (o : SnapshotOption) (c : BitVec 32) : BitVec 32 :=
  match o with
  | .keep => c
  | .clear => 0
  | .preset => 0xFFFFFFF0

/-- A step of the snapshot walk: capture, option, write, and the counts (R171). -/
def State.snapshotStep (s : State) : State :=
  match s.status.snapshot with
  | none => s
  | some n =>
    if h : n.next < 59 then
      let c := s.status.counters[n.next]
      (s.updStatus fun u =>
        { u with
          counters := u.counters.set n.next (n.option.after c)
          snapshot := some { n with next := n.next + 1, left := n.left + 1 } }).issueWrite .snapshot
        (s.straps.mailboxPage + 0x200 + 4 * n.next) (leBytes 4 c.toNat)
    else s

/-- SNAPSHOT COUNTERS' effect: the walk starts with the step for index 0, and its count is staged (R159,
R171). -/
def doSnapshot (p : Params) (s : State) : State :=
  ((s.updStatus fun u =>
    { u with snapshot := some { option := (snapshotOption p).getD .keep, next := 0, left := 0 } }).snapshotStep).updMbox
    fun m => { m with staging := m.staging.set 0 s.countWord }

/-- A snapshot write is accepted; the snapshot is complete with the last one (R171). -/
def State.snapshotAccepted (s : State) : State :=
  match s.status.snapshot with
  | none => s
  | some n =>
    let left := n.left - 1
    if n.next = 59 ∧ left = 0 then
      (s.updStatus fun u => { u with snapshot := none }).finishIf .snapshotCounters .noError
        s.mbox.staging.toList
    else s.updStatus fun u => { u with snapshot := some { n with left } }

/-! ### SET EVENTS (R160) -/

/-- SET EVENTS' own check: no bit outside the ten events (R160). -/
def checkSetEvents (p : Params) : Option ErrorCode := if 1024 ≤ p[0].toNat then some .range else none

/-- SET EVENTS' effect and result data: the enable set before it (R160, R157). -/
def doSetEvents (p : Params) (s : State) : State × List Word :=
  (s.updStatus fun u => { u with enable := BitVec.ofNat 10 (bits p[0] 9 0) },
    [numberWord s.status.enable.toNat])

/-! ### The commands' own checks and effects (section 8.7) -/

/-- A command's own checks, in the order of its owning block's rule (R150 check 4). -/
def Command.check (c : Command) (p : Params) (s : State) : Option ErrorCode :=
  match c with
  | .makeWindow => checkMakeWindow p s
  | .clearWindow => checkClearWindow p s
  | .lockWindow => checkLockWindow p s
  | .readWindowFirst => none
  | .readWindowNext => none
  | .openStream => checkOpenStream p s
  | .closeStream => checkCloseStream s
  | .bindRing => checkBindRing p s
  | .bindReturn => checkBindReturn p s
  | .unbind => checkUnbind p s
  | .resumeRing => checkResumeRing p s
  | .loadSchedule => checkLoadSchedule p
  | .setSplit => checkSetSplit p s
  | .linkControl => checkLinkControl p s
  | .snapshotCounters => if (snapshotOption p).isNone then some .range else none
  | .setEvents => checkSetEvents p
  | .restart => none

/-- What a failing own check leaves behind: nothing but for RESUME RING (R150, R106; log entry 21). -/
def Command.failed (c : Command) (p : Params) (s : State) : State :=
  match c with
  | .resumeRing => failResumeRing p s
  | .makeWindow | .clearWindow | .lockWindow | .readWindowFirst | .readWindowNext | .openStream
  | .closeStream | .bindRing | .bindReturn | .unbind | .loadSchedule | .setSplit | .linkControl
  | .snapshotCounters | .setEvents | .restart => s

/-- A pair of a state and data of a command that completes at once. -/
def completes (x : State × List Word) : State × Option (List Word) := (x.1, some x.2)

/-- An accepted command's effect, with its result data if it completes at once (R151). RESTART's is in
`launchRestart`. -/
def Command.effect (c : Command) (p : Params) (s : State) : State × Option (List Word) :=
  match c with
  | .makeWindow => completes (doMakeWindow p s)
  | .clearWindow => completes (doClearWindow p s)
  | .lockWindow => completes (doLockWindow p s)
  | .readWindowFirst => completes (doReadFirst s)
  | .readWindowNext => completes (doReadNext s)
  | .openStream => completes (doOpenStream p s)
  | .closeStream =>
    ((s.updTracker fun t => { t with stream := { t.stream with state := .draining } }).drainTest, none)
  | .bindRing => completes (doBindRing p s)
  | .bindReturn => completes (doBindReturn p s)
  | .unbind => completes (doUnbind p s)
  | .resumeRing => completes (doResumeRing p s)
  | .loadSchedule => (doLoadSchedule p s, none)
  | .setSplit => doSetSplit p s
  | .linkControl => completes (doLinkControl p s)
  | .snapshotCounters => (doSnapshot p s, none)
  | .setEvents => completes (doSetEvents p s)
  | .restart => (s, none)

/-! ### Restart (R19, R33, R54, R76, R94, R120, R122, R145, R155, R156, R168) -/

/-- One held request at a restart: a leader goes untapped, a follower is checked against protection alone
(R19 step 1). -/
def State.flushOne (h : Held) (s : State) : State :=
  match h.role, s.protection h.request with
  | .follower, some o => s.block h.request o
  | _, _ => (s.joinPass h.request []).count .holdExpiries

/-- The hold queue is emptied oldest first (R19 step 1). -/
def State.flushHold (s : State) : State :=
  s.path.hold.foldl (fun t h => t.flushOne h) (s.updPath fun p => { p with hold := [] })

/-- The path unit's steps 2 to 6 of R19, with the guard fault record cleared (R168). -/
def PathUnit.restarted (p : PathUnit) : PathUnit :=
  { p with
    mode := .initializing
    pass := p.pass.map (fun x => { x with taps := [] })
    egress := (p.egress.filter (fun q => !q.isRead)).map OwnRequest.retired
    other := (p.other.filter (fun q => !q.isRead)).map OwnRequest.retired
    lastSide := .own
    guard := none
    ownOut := p.ownOut.map OwnRequest.retired }

/-- The mailbox unit at a restart: a RUNNING RESTART and its abort note are kept (R145). -/
def Mailbox.restarted (m : Mailbox) : Mailbox :=
  match m.running with
  | some c =>
    if c.code = Command.restart.code then
      { Mailbox.empty with running := some c, abortNote := m.abortNote }
    else Mailbox.empty
  | none => Mailbox.empty

/-- The link unit at a restart: the count keeps running, and the cells in force stay those of the present
frame, fixed at its start (R121, R122; log entry 25). -/
def LinkUnit.restarted (l : LinkUnit) (autolink : Bool) : LinkUnit :=
  { LinkUnit.cleared (if autolink then .probing else .down) autolink l.count with cells := l.cells }

/-- A restart of every block, and the write of word 0 on entering INITIALIZING (R19, R162, R168). -/
def State.takeRestart (s : State) : State :=
  let s := s.flushHold
  let t : State :=
    { s with
      path := s.path.restarted
      map := s.map.restarted
      tracker := Tracker.empty
      stitch := { s.stitch with entries := [] }
      sched := Scheduler.empty s.sched.nextJob s.sched.nextParcel
      rings := RingUnit.empty s.rings.nextSerial
      link := s.link.restarted s.straps.autolink
      mbox := s.mbox.restarted
      status := { StatusUnit.empty with counters := s.status.counters } }
  (t.issueStatus 0).takeWaiting

/-- The ABORTED result of a running command: FAILED, with no result data and no CMD_DONE (R155 step 1). -/
def State.abort (c : CommandTag) (s : State) : State := s.issueResult .failed c .aborted false

/-- A RESTART launch is taken (R155). -/
def State.launchRestart (tag : BitVec 8) (s : State) : State :=
  let c : CommandTag := { code := Command.restart.code, tag }
  let t := match s.mbox.running with
    | some r => s.abort r
    | none => s
  let t := t.updMbox fun m => { m with running := some c, abortNote := m.running }
  (t.issueResult .running c .noError false).takeRestart

/-- The RESTART_N pin's restart (R156). -/
def State.pinRestart (s : State) : State :=
  match s.mbox.running with
  | some c => if c.code = Command.restart.code then s.takeRestart else (s.abort c).takeRestart
  | none => s.takeRestart

/-- Init completion: READY, the results of a RESTART that is running, and the whole status block (R17,
R155, R162). -/
def State.initDone (s : State) : State :=
  match s.path.mode with
  | .ready => s
  | .initializing =>
    let t := s.updPath fun p => { p with mode := .ready }
    let note := match s.mbox.abortNote with
      | some c => numberWord (c.code.toNat + atBit 8 c.tag.toNat)
      | none => 0
    let t := if t.isRunning .restart then
        (t.finish .noError [note]).updMbox fun m => { m with abortNote := none }
      else t
    (t.issueWrite .status (t.straps.mailboxPage + 0x100) t.statusBlock).updStatus fun u => { u with due := [] }

/-! ### Launches (R148 to R151) -/

/-- The values of the parameter slots. -/
def Mailbox.params (m : Mailbox) : Params := m.slots.map ParamSlot.value

/-- Whether one of the slots P0 to P(n − 1) is STALE (R150). -/
def Mailbox.anyStale (m : Mailbox) (n : Nat) : Bool := (m.slots.toList.take n).any (fun x => !x.fresh)

/-- Every slot becomes STALE (R150, R151). -/
def State.staleAll (s : State) : State :=
  s.updMbox fun m => { m with slots := m.slots.map (fun x => { x with fresh := false }) }

/-- A launch fails: every slot STALE, and one result word write (R150). -/
def State.failLaunch (c : CommandTag) (e : ErrorCode) (s : State) : State :=
  s.staleAll.issueResult .failed c e true

/-- A launch is accepted: slots, command state, RUNNING, the command's effect and, if it completes at
once, its results (R151, R152). -/
def State.accept (cmd : Command) (tag : BitVec 8) (s : State) : State :=
  let c : CommandTag := { code := cmd.code, tag }
  let t := (s.staleAll.updMbox fun m => { m with running := some c }).issueResult .running c .noError false
  match cmd.effect s.mbox.params t with
  | (u, some data) => u.finish .noError data
  | (u, none) => u

/-- A launch judged in the command state IDLE (R150). -/
def State.judge (code : BitVec 8) (count : BitVec 4) (tag : BitVec 8) (s : State) : State :=
  let c : CommandTag := { code, tag }
  match Command.ofCode code with
  | none => s.failLaunch c .unknownOp
  | some cmd =>
    if count.toNat ≠ cmd.paramCount then s.failLaunch c .shape
    else if s.mbox.anyStale cmd.paramCount then s.failLaunch c .stale
    else
      match cmd.check s.mbox.params s with
      | some e => (cmd.failed s.mbox.params s).failLaunch c e
      | none =>
        match cmd with
        | .restart => s.staleAll.launchRestart tag
        | .makeWindow | .clearWindow | .lockWindow | .readWindowFirst | .readWindowNext | .openStream
        | .closeStream | .bindRing | .bindReturn | .unbind | .resumeRing | .loadSchedule | .setSplit
        | .linkControl | .snapshotCounters | .setEvents => s.accept cmd tag

/-- A launch that the mailbox unit receives (R148, R149, R155). -/
def State.launch (code : BitVec 8) (count : BitVec 4) (tag : BitVec 8) (s : State) : State :=
  if s.path.mode = .initializing ∨ code = 0 then s
  else
    match s.mbox.running with
    | some _ =>
      if code = Command.restart.code ∧ count = 0 then s.launchRestart tag
      else s.updStatus fun u => { u with launchLost := true }
    | none => s.judge code count tag

/-- The order of a launch's words: LINK CONTROL's moves of the link, and else ascending, which is the order
of the rule of each other command (R37, R73, R98). -/
def launchOrder (code : BitVec 8) : WordOrder :=
  if code = Command.linkControl.code then linkOrder else ascending

/-- One launch as a step of the part. -/
def launchStep (c : Command) (count : BitVec 4) (tag : BitVec 8) (s : State) : Result :=
  changeIn (launchOrder c.code) (State.launch c.code count tag) s

/-- A launch of LINK CONTROL as the row of one operation: a launch that would be judged with P0 naming
another operation is another row's, and is not taken here (log entry 24). -/
def launchLink (op : LinkOperation) (count : BitVec 4) (tag : BitVec 8) (s : State) : Result :=
  let judged := s.path.mode = .ready ∧ s.mbox.running = none ∧ count = 1 ∧ s.mbox.anyStale 1 = false
  match linkOperation s.mbox.params with
  | some other => if judged ∧ other ≠ op then .next s else launchStep .linkControl count tag s
  | none => launchStep .linkControl count tag s

/-! ### Responses (R12, R15) -/

/-- What the acceptance of an own write does to the block that issued it (R15). -/
def State.writeAccepted (o : Owner) (s : State) : State :=
  match o with
  | .landing r k => s.landingAccepted r k
  | .returnLanding sel k => s.returnAccepted sel k
  | .resultWord raises => if raises then s.raise .cmdDone else s
  | .snapshot => s.snapshotAccepted
  | .recordFetch _ _ | .payload _ | .scheduleImage | .doneWord | .recordStatus | .indexWord
  | .resultData | .status => s

/-- The response to an own write issued since the last reset (R15, R168). -/
def State.ownAnswered (q : OwnRequest) (error : Bool) (s : State) : State :=
  if q.live then (if error then s.raise .memErr else s).writeAccepted q.owner else s

/-- The response to a forwarded request (R12). -/
def State.answered (f : Forwarded) (error : Bool) (data : List Byte) (s : State) : State :=
  if f.discard then s
  else
    let t := s.emit (.answer f.request.initiator error (if f.request.isWrite || error then [] else data))
    match f.applied with
    | some a => if error then t.damage a else t
    | none => t

/-! ### The commands -/

/-- POWER_ON_RESET with the strap levels (R18): what is outside the part, the serial numbers and the
free value counter go on (log entries 8, 27, 30). -/
def execPowerOnReset (mbsel ctlid : BitVec 4) (autolink : Bool) (s : State) : Result :=
  let t := State.initial { mbsel, ctlid, autolink }
  .next
    (State.takeWaiting
      { t with
        path :=
          { t.path with
            waiting := s.path.waiting
            forwarded := s.path.forwarded.map (fun f => { f with discard := true })
            ownOut := s.path.ownOut.map OwnRequest.retired }
        stitch := { t.stitch with nextEntry := s.stitch.nextEntry }
        sched := Scheduler.empty s.sched.nextJob s.sched.nextParcel
        rings := RingUnit.empty s.rings.nextSerial
        free := s.free
        out := s.out
        pending := s.pending })

/-- RESTART_N (R156). -/
def execRestartN (s : State) : Result := change State.pinRestart s

/-- INIT_COMPLETION (R17). -/
def execInitCompletion (s : State) : Result := .next s.initDone

/-- DOWNSTREAM_RESPONSE (R12) to the outstanding forwarded request at a place. -/
def execDownstreamResponse (place : Nat) (error : Bool) (data : List Byte) (s : State) : Result :=
  match takeNth (fun _ => true) place s.path.forwarded with
  | none => .next s
  | some (f, rest) =>
    change (fun t => (t.updPath fun p => { p with forwarded := rest }).answered f error data) s

/-- OWN_WRITE_ACCEPTED (R15): the response to the outstanding own write at a place. -/
def execOwnWriteAccepted (place : Nat) (error : Bool) (s : State) : Result :=
  match takeNth (fun q => !q.isRead) place s.path.ownOut with
  | none => .next s
  | some (q, rest) =>
    change (fun t => (t.updPath fun p => { p with ownOut := rest }).ownAnswered q error) s

/-- PARAMETER_WORD_WRITE (R146, R147); not tapped while INITIALIZING (R17). -/
def execParameterWordWrite (i : Fin 8) (value : Option Word) (s : State) : Result :=
  match s.path.mode with
  | .initializing => .next s
  | .ready => change (State.paramWrite i value) s

/-- ACKNOWLEDGE (R154, R164); not tapped while INITIALIZING (R17). -/
def execAcknowledge (value : Word) (s : State) : Result :=
  match s.path.mode with
  | .initializing => .next s
  | .ready => changeIn acknowledgeOrder (State.acknowledge value) s

/-- UNKNOWN_OP (R148, R150): a launch with a code that is none of the seventeen. -/
def execUnknownOp (code : BitVec 8) (count : BitVec 4) (tag : BitVec 8) (s : State) : Result :=
  match Command.ofCode code with
  | some _ => .next s
  | none => change (State.launch code count tag) s

/-- MAKE_WINDOW (R24, R25). -/
def execMakeWindow (count : BitVec 4) (tag : BitVec 8) (s : State) : Result :=
  launchStep .makeWindow count tag s

/-- CLEAR_WINDOW (R26). -/
def execClearWindow (count : BitVec 4) (tag : BitVec 8) (s : State) : Result :=
  launchStep .clearWindow count tag s

/-- LOCK_WINDOW (R27). -/
def execLockWindow (count : BitVec 4) (tag : BitVec 8) (s : State) : Result :=
  launchStep .lockWindow count tag s

/-- READ_WINDOW_FIRST (R31). -/
def execReadWindowFirst (count : BitVec 4) (tag : BitVec 8) (s : State) : Result :=
  launchStep .readWindowFirst count tag s

/-- READ_WINDOW_NEXT (R32). -/
def execReadWindowNext (count : BitVec 4) (tag : BitVec 8) (s : State) : Result :=
  launchStep .readWindowNext count tag s

/-- OPEN_STREAM (R36, R37). -/
def execOpenStream (count : BitVec 4) (tag : BitVec 8) (s : State) : Result :=
  launchStep .openStream count tag s

/-- CLOSE_STREAM (R38, R73). -/
def execCloseStream (count : BitVec 4) (tag : BitVec 8) (s : State) : Result :=
  launchStep .closeStream count tag s

/-- BIND_RING (R96, R97, R109). -/
def execBindRing (count : BitVec 4) (tag : BitVec 8) (s : State) : Result :=
  launchStep .bindRing count tag s

/-- BIND_RETURN (R116). -/
def execBindReturn (count : BitVec 4) (tag : BitVec 8) (s : State) : Result :=
  launchStep .bindReturn count tag s

/-- UNBIND (R107, R119, R158). -/
def execUnbind (count : BitVec 4) (tag : BitVec 8) (s : State) : Result :=
  launchStep .unbind count tag s

/-- RESUME_RING (R106, R110). -/
def execResumeRing (count : BitVec 4) (tag : BitVec 8) (s : State) : Result :=
  launchStep .resumeRing count tag s

/-- LOAD_SCHEDULE (R83). -/
def execLoadSchedule (count : BitVec 4) (tag : BitVec 8) (s : State) : Result :=
  launchStep .loadSchedule count tag s

/-- SET_SPLIT (R140). -/
def execSetSplit (count : BitVec 4) (tag : BitVec 8) (s : State) : Result :=
  launchStep .setSplit count tag s

/-- LINK_CONTROL_ENABLE (R128). -/
def execLinkControlEnable (count : BitVec 4) (tag : BitVec 8) (s : State) : Result :=
  launchLink .enable count tag s

/-- LINK_CONTROL_DISABLE (R129). -/
def execLinkControlDisable (count : BitVec 4) (tag : BitVec 8) (s : State) : Result :=
  launchLink .disable count tag s

/-- LINK_CONTROL_RETRAIN (R130). -/
def execLinkControlRetrain (count : BitVec 4) (tag : BitVec 8) (s : State) : Result :=
  launchLink .retrain count tag s

/-- SNAPSHOT_COUNTERS (R159). -/
def execSnapshotCounters (count : BitVec 4) (tag : BitVec 8) (s : State) : Result :=
  launchStep .snapshotCounters count tag s

/-- SET_EVENTS (R160). -/
def execSetEvents (count : BitVec 4) (tag : BitVec 8) (s : State) : Result :=
  launchStep .setEvents count tag s

/-- RESTART (R155). -/
def execRestart (count : BitVec 4) (tag : BitVec 8) (s : State) : Result :=
  launchStep .restart count tag s

/-- SNAPSHOT_STEP (R171): when no snapshot write waits ungranted in the OTHER class. -/
def execSnapshotStep (s : State) : Result :=
  if s.path.other.any (fun q => decide (q.owner = .snapshot)) then .next s else change State.snapshotStep s

/-- STATUS_WRITE_ISSUE (R162): when a word is due and no status write waits ungranted. -/
def execStatusWriteIssue (s : State) : Result :=
  match s.status.due with
  | [] => .next s
  | w :: rest =>
    if s.path.other.any (fun q => decide (q.owner = .status)) then .next s
    else change (fun t => (t.issueStatus w).updStatus fun u => { u with due := rest }) s

end Sys2Proof.Machine
end

