-- ==== Sys2Proof/Machine/Forward.lean ====
section
/-!
DEFINITION. Forwarding: the grant of the pass queue, and the carrying out of a tap set
(01_the_memory_path.md section 1.4; R4, R6, R11).
-/

namespace Sys2Proof.Machine

/-- The outbound ring that holds an address as its watch word at this moment (R11). -/
def RingUnit.producerAt (u : RingUnit) (a : Nat) : Option (Fin 4) :=
  (List.finRange 4).find? fun r =>
    decide ((u.outbound[r]).state ≠ .unbound) && decide ((u.outbound[r]).producerWord = some a)

/-- The inbound ring that holds an address as its watch word at this moment (R11). -/
def RingUnit.consumerAt (u : RingUnit) (a : Nat) : Option (Fin 2) :=
  (List.finRange 2).find? fun r =>
    decide ((u.inbound[r]).state ≠ .unbound) && decide ((u.inbound[r]).consumerWord = some a)

/-- A watch entry is handed to the block for which its address is a watch word at this moment (R11). -/
def State.watchWrite (a : Nat) (v : Word) (s : State) : State :=
  if s.tracker.stream.isOpen ∧ a = s.tracker.stream.markWord then s.frameMark a v
  else
    match s.rings.producerAt a with
    | some r => s.producerWrite r v
    | none =>
      match s.rings.consumerAt a with
      | some r => s.consumerWrite r v
      | none => s

/-- What the request forwarded last was applied to is noted for its response (R12, R62). -/
def noteApplied (a : Option Applied) : List Forwarded → List Forwarded
  | [] => []
  | [f] => [{ f with applied := a }]
  | f :: g :: rest => f :: noteApplied a (g :: rest)

/-- One entry of the tap set of the request `r` is carried out (R4, R11). -/
def State.runTap (r : Request) (tap : Tap) (s : State) : State :=
  match tap with
  | .control (.param i) v => s.paramWrite i v
  | .control .launch (some v) => s.launch (launchCode v) (launchCount v) (launchTag v)
  | .control .launch none => s.count .mailboxTornWords
  | .control .acknowledge (some v) => s.acknowledge v
  | .control .acknowledge none => s.count .mailboxTornWords
  | .capture w k =>
    let x := s.capture w k r
    x.1.updPath fun p => { p with forwarded := noteApplied x.2 p.forwarded }
  | .watch a v => s.watchWrite a v

/-- The order of the words of one entry of a tap set, by what it is handed to. -/
def tapOrder (tap : Tap) : WordOrder :=
  match tap with
  | .control .launch (some v) => launchOrder (launchCode v)
  | .control .acknowledge _ => acknowledgeOrder
  | .watch _ _ => markOrder
  | .control (.param _) _ | .control .launch none | .capture _ _ => ascending

/-- The entries of a tap set in order; a restart among them drops those that stand after it (R11, R155). -/
def runTaps (r : Request) : List Tap → State → State
  | [], s => s
  | t :: rest, s =>
    let u := mirroredIn (tapOrder t) (State.runTap r t) s
    match u.path.mode with
    | .initializing => u
    | .ready => runTaps r rest u

/-- The head of the pass queue is forwarded downstream (R11). -/
def State.forwardHead (s : State) : State :=
  match s.path.pass with
  | [] => s
  | x :: rest =>
    let t := (s.updPath fun p =>
      { p with
        pass := rest, lastSide := .pass
        forwarded := p.forwarded ++ [{ request := x.request, applied := none, discard := false }] }).emit
      (.forward x.request)
    (runTaps x.request x.taps t).takeWaiting

/-- FORWARDING (R11, R14), when the arbiter grants the pass queue. -/
def execForwarding (s : State) : Result :=
  if s.path.nextSide = some .pass then change State.forwardHead s else .next s

end Sys2Proof.Machine
end

