-- ==== Sys2Proof/Machine/Dispatch.lean ====
section
/-!
DEFINITION. The meaning of each command: one arm for each row of the table, in its order.
-/

namespace Sys2Proof.Machine

/-- What a command does to everything but the queue. -/
def exec (i : Instr) (s : State) : Host.Outcome State Fault Refusal :=
  match i with
  | .powerOnReset mbsel ctlid autolink => Sys2Proof.Machine.execPowerOnReset mbsel ctlid autolink s
  | .restartN => Sys2Proof.Machine.execRestartN s
  | .initCompletion => Sys2Proof.Machine.execInitCompletion s
  | .upstreamRequest r => Sys2Proof.Machine.execUpstreamRequest r s
  | .holdExpiry initiator => Sys2Proof.Machine.execHoldExpiry initiator s
  | .forwarding => Sys2Proof.Machine.execForwarding s
  | .ownRequestGrant => Sys2Proof.Machine.execOwnRequestGrant s
  | .downstreamResponse place error data => Sys2Proof.Machine.execDownstreamResponse place error data s
  | .ownWriteAccepted place error => Sys2Proof.Machine.execOwnWriteAccepted place error s
  | .captureWrite window position r => Sys2Proof.Machine.execCaptureWrite window position r s
  | .stitchDeadline slot line => Sys2Proof.Machine.execStitchDeadline slot line s
  | .frameMark addr value => Sys2Proof.Machine.execFrameMark addr value s
  | .release => Sys2Proof.Machine.execRelease s
  | .frameEnd => Sys2Proof.Machine.execFrameEnd s
  | .linkFrameStart => Sys2Proof.Machine.execLinkFrameStart s
  | .rateChangeEffect => Sys2Proof.Machine.execRateChangeEffect s
  | .splitChangeEffect => Sys2Proof.Machine.execSplitChangeEffect s
  | .payloadFetchComplete parcel error data => Sys2Proof.Machine.execPayloadFetchComplete parcel error data s
  | .parcelSent => Sys2Proof.Machine.execParcelSent s
  | .returnWindowArrival header body => Sys2Proof.Machine.execReturnWindowArrival header body s
  | .probeCycle => Sys2Proof.Machine.execProbeCycle s
  | .trialEnd => Sys2Proof.Machine.execTrialEnd s
  | .monitorBlockJudgement => Sys2Proof.Machine.execMonitorBlockJudgement s
  | .linkLoss => Sys2Proof.Machine.execLinkLoss s
  | .ackTimeout ring => Sys2Proof.Machine.execAckTimeout ring s
  | .recordFetchResponse place error data => Sys2Proof.Machine.execRecordFetchResponse place error data s
  | .producerIndexWrite ring value => Sys2Proof.Machine.execProducerIndexWrite ring value s
  | .consumerIndexWrite ring value => Sys2Proof.Machine.execConsumerIndexWrite ring value s
  | .parameterWordWrite slot value => Sys2Proof.Machine.execParameterWordWrite slot value s
  | .acknowledge value => Sys2Proof.Machine.execAcknowledge value s
  | .unknownOp code count tag => Sys2Proof.Machine.execUnknownOp code count tag s
  | .makeWindow count tag => Sys2Proof.Machine.execMakeWindow count tag s
  | .clearWindow count tag => Sys2Proof.Machine.execClearWindow count tag s
  | .lockWindow count tag => Sys2Proof.Machine.execLockWindow count tag s
  | .readWindowFirst count tag => Sys2Proof.Machine.execReadWindowFirst count tag s
  | .readWindowNext count tag => Sys2Proof.Machine.execReadWindowNext count tag s
  | .openStream count tag => Sys2Proof.Machine.execOpenStream count tag s
  | .closeStream count tag => Sys2Proof.Machine.execCloseStream count tag s
  | .bindRing count tag => Sys2Proof.Machine.execBindRing count tag s
  | .bindReturn count tag => Sys2Proof.Machine.execBindReturn count tag s
  | .unbind count tag => Sys2Proof.Machine.execUnbind count tag s
  | .resumeRing count tag => Sys2Proof.Machine.execResumeRing count tag s
  | .loadSchedule count tag => Sys2Proof.Machine.execLoadSchedule count tag s
  | .scheduleImageResponse place error data => Sys2Proof.Machine.execScheduleImageResponse place error data s
  | .setSplit count tag => Sys2Proof.Machine.execSetSplit count tag s
  | .linkControlEnable count tag => Sys2Proof.Machine.execLinkControlEnable count tag s
  | .linkControlDisable count tag => Sys2Proof.Machine.execLinkControlDisable count tag s
  | .linkControlRetrain count tag => Sys2Proof.Machine.execLinkControlRetrain count tag s
  | .snapshotCounters count tag => Sys2Proof.Machine.execSnapshotCounters count tag s
  | .snapshotStep => Sys2Proof.Machine.execSnapshotStep s
  | .setEvents count tag => Sys2Proof.Machine.execSetEvents count tag s
  | .restart count tag => Sys2Proof.Machine.execRestart count tag s
  | .statusWriteIssue => Sys2Proof.Machine.execStatusWriteIssue s

end Sys2Proof.Machine
end

