-- ==== Sys2Proof/Safety.lean ====
section
/-!
DEFINITION. What every step of the part keeps: the bounds and laws the spec states of its queues, its
tables, its ranges and its running command.
-/

namespace Sys2Proof.Machine

/-- The hold queue holds at most 8 requests and the pass queue at most 12 (R1, section 1.3); counted
together they never pass 12, since a freed request moves from one to the other. -/
def State.PathBounded (s : State) : Prop :=
  s.path.hold.length ≤ Config.holdCapacity ∧ s.path.pass.length + s.path.hold.length ≤ 12

/-- Of each initiator that has requests in the hold queue, the oldest is a leader and the others are
followers (R7). -/
def State.ChainsLed (s : State) : Prop :=
  ∀ i : BitVec 4,
    match s.path.hold.filter (fun h => h.request.initiator == i) with
    | [] => True
    | first :: rest => first.role = .leader ∧ ∀ h ∈ rest, h.role = .follower

/-- The video queue never holds more than 16 jobs (R77). -/
def State.QueueBounded (s : State) : Prop := s.sched.queue.length ≤ Config.queueCapacity

/-- The due list holds no word twice (R162). -/
def State.DueDistinct (s : State) : Prop := s.status.due.Nodup

/-- The walk cursor is a number from 0 to 32 (R30). -/
def State.CursorInRange (s : State) : Prop := s.map.cursor ≤ 32

/-- What separates two entries of the stitch table: their lines (R57). -/
def LineEntry.key (e : LineEntry) : FrameNumber × Fin 4 × Nat := (e.frame, e.slot, e.line)

/-- The stitch table never holds two entries for one line (R57); the serial numbers of the entries are
distinct and have been given out (log entry 27). -/
def State.EntriesDistinct (s : State) : Prop :=
  (s.stitch.entries.map LineEntry.key).Nodup ∧ (s.stitch.entries.map LineEntry.id).Nodup ∧
    ∀ e ∈ s.stitch.entries, e.id < s.stitch.nextEntry

/-- The frame list never holds more frames than the slot count, and never two frames of one slot; a frame on
it is its slot's current frame (R43). That each number is ahead of the one before it is not part of this
law: a drop inside the list can set two numbers side by side that lie too far apart (log entry 40). -/
def State.FramesOnSlots (s : State) : Prop :=
  s.tracker.frames.length ≤ s.tracker.stream.slotCount ∧
    (s.tracker.frames.map FrameRecord.slot).Nodup ∧
    ∀ f ∈ s.tracker.frames,
      f.slot.val < s.tracker.stream.slotCount ∧ (s.tracker.slots[f.slot]).frame = some f.frame

/-- While INITIALIZING nothing is held and nothing is tapped, no event is enabled, no word is due, and the
stream is CLOSED (R17, R19, R54, R162, R166). -/
def State.InitializingQuiet (s : State) : Prop :=
  s.path.mode = .initializing →
    s.path.hold = [] ∧ (∀ x ∈ s.path.pass, x.taps = []) ∧ s.status.enable = 0 ∧ s.status.due = [] ∧
      s.tracker.stream.state = .closed

/-- The counts of the link unit stay in the ranges of R122's table. -/
def State.LinkInRange (s : State) : Prop :=
  s.link.lossRun ≤ 7 ∧ s.link.probeFrames ≤ 63 ∧ s.link.probeCycles ≤ 65535 ∧ s.link.trialFrame ≤ 15 ∧
    s.link.trialBaseErrors ≤ 65535 ∧ s.link.trialOwnErrors ≤ 65535 ∧ s.link.monitorFrames ≤ 255 ∧
    s.link.monitorErrors ≤ 65535 ∧ s.link.dropRepeat ≤ 4

/-- The ranges of a split (R140 check 1). -/
def splitInRange (f rt : Nat) : Prop :=
  32 ≤ f ∧ f ≤ 1280 ∧ 16 ≤ rt ∧ rt ≤ 512 ∧ f + rt ≤ 1536

/-- The configured split and the split of a pending change are in R140's ranges. -/
def State.SplitInRange (s : State) : Prop :=
  splitInRange s.link.splitF s.link.splitRt ∧
    ∀ c, s.link.change = some c → ∀ f rt, c.change = .split f rt → splitInRange f rt

/-- Whether a SPLIT change is pending. -/
def LinkUnit.splitPending (l : LinkUnit) : Bool :=
  match l.change with
  | none => false
  | some c =>
    match c.change with
    | .split _ _ => true
    | .rate _ => false

/-- A link change is pending only while the link is UP (R133), and the running command is the one whose
end its block still owes: SET SPLIT while a SPLIT change is pending (R140), CLOSE STREAM while the stream
is DRAINING (R38), SNAPSHOT COUNTERS while a walk is in progress (R159). -/
def State.RunningMatches (s : State) : Prop :=
  (s.link.change ≠ none → s.link.state = .up) ∧
    s.link.splitPending = s.isRunning .setSplit ∧
    decide (s.tracker.stream.state = .draining) = s.isRunning .closeStream ∧
    s.status.snapshot.isSome = s.isRunning .snapshotCounters

/-- An inbound ring never has more slots occupied than it has (R111). -/
def State.InboundBounded (s : State) : Prop :=
  ∀ r : Fin 2, (s.rings.inbound[r]).count ≤ 256 ∧ (s.rings.inbound[r]).occupied ≤ (s.rings.inbound[r]).count

/-- A record is PLACED on a PLAIN ring alone, and IN_FLIGHT on a RELIABLE ring alone (R95). -/
def OutRing.headFits (o : OutRing) : Prop :=
  match o.head with
  | .placed _ => o.kind = .plain
  | .inFlight _ => o.kind = .reliable
  | .empty | .fetching _ | .ready _ => True

/-- Every outbound ring's head record fits its kind. -/
def State.HeadsFit (s : State) : Prop := ∀ r : Fin 4, (s.rings.outbound[r]).headFits

/-- A taken record lies among the pending records, and no more are pending than the ring has places for; so
the consumer index never passes the producer seen (R95, R98). -/
def OutRing.indexed (o : OutRing) : Prop := o.head.takenCount ≤ o.pendingCount ∧ o.pendingCount ≤ o.count

/-- Every outbound ring's indices stand so. -/
def State.OutboundIndexed (s : State) : Prop := ∀ r : Fin 4, (s.rings.outbound[r]).indexed

/-- The cells a placed parcel takes (R87, R88). -/
def ParcelBody.cells (b : ParcelBody) : Nat := 1 + ceilDiv b.length 32

/-! ### The parts of a state that a command leaves as they were, by name -/

/-- The capture side: region map, tracker and stitch table. -/
@[simp] abbrev SameCapture (s t : State) : Prop := t.map = s.map ∧ t.tracker = s.tracker ∧ t.stitch = s.stitch

/-- The link side: scheduler, rings and link unit. -/
@[simp] abbrev SameLink (s t : State) : Prop := t.sched = s.sched ∧ t.rings = s.rings ∧ t.link = s.link

/-- The straps, the outputs, the free value counter and the queue of commands. -/
@[simp] abbrev SameOutside (s t : State) : Prop :=
  t.straps = s.straps ∧ t.out = s.out ∧ t.free = s.free ∧ t.pending = s.pending

/-- The status unit but for its due list, which R162 alone moves. -/
def SameStatus (s t : State) : Prop := t.status = { s.status with due := t.status.due }

/-- The status unit but for its due list and its counters, which count as `u` does. -/
def StatusCounts (u s t : State) : Prop :=
  t.status = { s.status with due := t.status.due, counters := u.status.counters }

/-- The state with another due list, which R162 alone moves. -/
def State.withDue (s : State) (due : List (Fin 32)) : State := { s with status := { s.status with due } }

/-! ### Launches -/

/-- A launch of `c` is accepted: the part is READY, the command state IDLE, the declared count is the
fixed one, the slots it takes are FRESH, and its own checks pass (R148, R150, R151). -/
def State.Accepts (s : State) (c : Command) (count : BitVec 4) : Prop :=
  s.path.mode = .ready ∧ s.mbox.running = none ∧ count.toNat = c.paramCount ∧
    s.mbox.anyStale c.paramCount = false ∧ c.check s.mbox.params s = none

/-- A word in use by the rings: an index word of a bound ring, or the done word of a bound return picture (R36
check 9, R96 check 6). -/
abbrev RingUnit.usesWord (u : RingUnit) (a : Nat) : Prop :=
  (∃ r : Fin 4, (u.outbound[r]).state ≠ .unbound ∧
    ((u.outbound[r]).producerWord = some a ∨ (u.outbound[r]).consumerWord = some a)) ∨
  (∃ r : Fin 2, (u.inbound[r]).state ≠ .unbound ∧
    ((u.inbound[r]).producerWord = some a ∨ (u.inbound[r]).consumerWord = some a)) ∨
  (u.ret.bound = true ∧ u.ret.doneWord = some a)

/-- A word in use: one of the rings, or the mark word of a stream that is not CLOSED (R96 check 6, R116
check 5). -/
abbrev State.usesWord (s : State) (a : Nat) : Prop :=
  (s.tracker.stream.state ≠ .closed ∧ a = s.tracker.stream.markWord) ∨ s.rings.usesWord a

/-- A word that may not be a mark, index or done word: not aligned to 8, or with a byte in the mailbox page
(R36 check 8, R96 check 5, R116 check 4). -/
abbrev State.misplaced (s : State) (a : Nat) : Prop :=
  a % 8 ≠ 0 ∨ (a < s.straps.mailboxPage + 0x1000 ∧ s.straps.mailboxPage < a + 8)

/-- The geometry of a CAPTURE window is outside the values of R20 (R24 check 6). -/
abbrev badGeometry (segLen pitch stride size : Nat) : Prop :=
  segLen < 16 ∨ 8192 < segLen ∨ segLen % 16 ≠ 0 ∨ pitch % 16 ≠ 0 ∨ pitch < segLen ∨ 65536 < pitch ∨
    stride % 16 ≠ 0 ∨ stride < pitch ∨ size < stride

/-- A ring with an id from 0 to 5, O0 to O3 and then I0 and I1, is in a state (R96, R106, R107). -/
abbrev RingUnit.isIn (u : RingUnit) (id : Nat) (state : RingState) : Prop :=
  (∃ r : Fin 4, id = r.val ∧ (u.outbound[r]).state = state) ∨
    ∃ r : Fin 2, id = r.val + 4 ∧ (u.inbound[r]).state = state

/-- The written index of a HALTED ring does not pass the test that RESUME RING puts to it (R98, R106, R110). -/
abbrev RingUnit.badWritten (u : RingUnit) (id : Nat) : Prop :=
  (∃ r : Fin 4, id = r.val ∧
    let o := u.outbound[r]
    o.count < (o.producerWritten - o.consumer).toNat ∨
      (o.producerWritten - o.consumer).toNat < o.head.takenCount) ∨
    ∃ r : Fin 2, id = r.val + 4 ∧
      let q := u.inbound[r]
      (q.producer - q.consumerSeen).toNat < (q.consumerWritten - q.consumerSeen).toNat

/-- Whether a RATE change is pending (R140 check 2). -/
def LinkUnit.ratePending (l : LinkUnit) : Bool :=
  match l.change with
  | none => false
  | some c =>
    match c.change with
    | .rate _ => true
    | .split _ _ => false

/-- The own checks of each command, in the order of its owning block's rule: when each fails, and its error code
(R24, R26, R27, R36, R38, R83, R96, R106, R107, R110, R116, R128, R130, R140, R159, R160). -/
def State.ownChecks (s : State) (c : Command) : List (Bool × ErrorCode) :=
  let p := s.mbox.params
  let stream := s.tracker.stream
  let index := bits p[0] 7 0
  let isLocked := decide (∃ i : Fin 32, i.val = index ∧ (s.map.windows[i]).locked = true)
  let isNamed := decide (∃ i : Fin 32, i.val = index ∧ stream.state ≠ .closed ∧ i ∈ stream.windows)
  match c with
  | .readWindowFirst | .readWindowNext | .restart => []
  | .makeWindow =>
    let kind := bits p[0] 9 8
    let base := p[1].toNat
    let size := p[2].toNat
    [(decide (32 ≤ index ∨ (kind ≠ 1 ∧ kind ≠ 2)), .range), (isLocked, .locked), (isNamed, .inUse),
      (decide (base % 256 ≠ 0 ∨ size = 0 ∨ size % 256 ≠ 0 ∨ 2 ^ 40 < base + size), .range),
      (p[3].getLsbD 15 || p[3].getLsbD 31, .range),
      (decide (kind = 1 ∧ badGeometry (bits p[4] 15 0) (bits p[4] 48 32) p[5].toNat size), .range),
      (decide (base < s.straps.mailboxPage + 0x1000 ∧ s.straps.mailboxPage < base + size), .range)]
  | .clearWindow => [(decide (32 ≤ index), .range), (isLocked, .locked), (isNamed, .inUse)]
  | .lockWindow =>
    [(decide (32 ≤ index), .range),
      (decide (∃ i : Fin 32, i.val = index ∧ (s.map.windows[i]).kind = .free), .stateError)]
  | .openStream =>
    let listed := (List.range index).map (fun k => bits p[0] (8 * k + 15) (8 * k + 8))
    let ws := listed.map (fun i => if h : i < 32 then s.map.windows[i] else Window.free)
    let lines := bits p[1] 15 0
    let slots := bits p[1] 23 16
    [(decide (stream.state ≠ .closed), .stateError),
      (decide (index = 0 ∨ 6 < index ∨ ∃ i ∈ listed, 32 ≤ i), .range),
      (decide (lines = 0 ∨ 4352 < lines ∨ slots = 0 ∨ 4 < slots ∨ bits p[2] 7 0 = 0 ∨
        255 < bits p[2] 7 0 ∨ 15 < bits p[2] 15 8), .range),
      (decide (∃ w ∈ ws, w.kind ≠ .capture), .stateError),
      (decide (¬ listed.Nodup), .range),
      (decide (∃ w ∈ ws, w.size < slots * w.stride ∨ w.stride < lines * w.pitch), .range),
      (decide (16384 < (ws.map Window.segLen).sum), .range),
      (decide (s.misplaced p[3].toNat), .range),
      (decide (s.rings.usesWord p[3].toNat), .inUse)]
  | .closeStream => [(decide (stream.state ≠ .openState), .stateError)]
  | .bindRing =>
    let count := bits p[0] 31 16
    let unit := if index < 4 then 64 else 1024
    let base := p[1].toNat
    [(decide (5 < index), .range),
      (decide (¬ s.rings.isIn index .unbound), .inUse),
      (decide ((∀ k : Fin 8, count ≠ 2 ^ (k.val + 1)) ∨ (index < 4 ∧ 1 < bits p[0] 15 8)), .range),
      (decide (base % unit ≠ 0 ∨ 2 ^ 40 < base + count * unit), .range),
      (decide (s.misplaced p[2].toNat ∨ s.misplaced p[3].toNat ∨ p[2] = p[3]), .range),
      (decide (s.usesWord p[2].toNat ∨ s.usesWord p[3].toNat), .inUse)]
  | .bindReturn =>
    let lines := bits p[0] 15 0
    let pitch := bits p[0] 48 32
    let base := p[1].toNat
    let stride := p[2].toNat
    [(s.rings.ret.bound, .inUse),
      (decide (lines = 0 ∨ 4352 < lines ∨ pitch = 0 ∨ 65536 < pitch ∨ pitch % 16 ≠ 0), .range),
      (decide (base % 256 ≠ 0 ∨ stride % 256 ≠ 0 ∨ stride < lines * pitch ∨ 2 ^ 40 < base + 2 * stride),
        .range),
      (decide (s.misplaced p[3].toNat), .range),
      (decide (s.usesWord p[3].toNat), .inUse)]
  | .unbind =>
    [(decide (6 < index), .range),
      (decide (s.rings.isIn index .unbound ∨ (index = 6 ∧ s.rings.ret.bound = false)), .stateError)]
  | .resumeRing =>
    [(decide (5 < index), .range),
      (decide (¬ s.rings.isIn index .halted), .stateError),
      (decide (s.rings.badWritten index), .range)]
  | .loadSchedule => [(decide (p[0].toNat % 256 ≠ 0 ∨ 2 ^ 40 < p[0].toNat + 256), .range)]
  | .setSplit =>
    let f := bits p[0] 15 0
    let rt := bits p[0] 31 16
    [(decide (f < 32 ∨ 1280 < f ∨ rt < 16 ∨ 512 < rt ∨ 1536 < f + rt), .range),
      (decide (s.link.state = .up ∧ s.link.ratePending = true), .linkBusy)]
  | .linkControl =>
    [(decide (index = 0 ∨ 3 < index ∨ (index = 1 ∧ 3 < bits p[0] 15 8)), .range),
      (decide (index = 3 ∧ s.link.enabled = false), .stateError)]
  | .snapshotCounters => [(decide (2 < p[0].toNat), .range)]
  | .setEvents => [(decide (1024 ≤ p[0].toNat), .range)]

/-! ### What a command issues, queues and answers, in the statements' words -/

/-- The watch entries of a write: for each 8-byte word that it covers whole and that is a watch word, in
ascending order, the word and its value (R6). -/
def State.watchEntries (s : State) (a : Nat) (data : List Byte) : List Tap :=
  ((touchedWords a data.length).filter (fun w => s.watchWords.contains w)).filterMap
    (fun w => (coveredWord a data w).map (Tap.watch w))

/-- Whether an entry of a tap set is a launch word covered whole (R4). -/
def Tap.isLaunch : Tap → Bool
  | .control .launch (some _) => true
  | .control _ _ | .capture _ _ | .watch _ _ => false

/-- The word of the status block that mirrors an outbound ring (R161). -/
def ringWord (r : Fin 4) : Fin 32 := ⟨6 + r.val, by omega⟩

/-- The number of watch words that a write covers in part (R6). -/
def State.watchTorn (s : State) (a : Nat) (data : List Byte) : Nat :=
  (((touchedWords a data.length).filter (fun w => s.watchWords.contains w)).filter
    (fun w => (coveredWord a data w).isNone)).length

/-- Own writes of data split at 256-byte boundaries, in ascending order (R112, R117). -/
def splitWrites (owner : Owner) (addr : Nat) (data : List Byte) : List OwnRequest :=
  (chunks data.length addr data.length).map fun c =>
    { owner, addr := c.1, access := .write (bytesAt data (c.1 - addr) c.2), live := true }

/-- The own write of an index word, none for a ring that has no such word (R112, R104). -/
def indexWrites (owner : Owner) (word : Option Nat) (index : RingIndex) : List OwnRequest :=
  match word with
  | none => []
  | some a => [{ owner, addr := a, access := .write (leBytes 8 index.toNat), live := true }]

/-- The writes of a retire: status, attempts used and bytes sent, then the consumer word (R104). -/
def retireWrites (o : OutRing) (status attempts : Byte) (bytes : Nat) : List OwnRequest :=
  { owner := .recordStatus, addr := o.recordAddr + 0x10,
    access := .write ([status, attempts] ++ leBytes 2 bytes ++ [0, 0, 0, 0]), live := true } ::
    indexWrites .indexWord o.consumerWord (o.consumer + 1)

/-- The own write of a done word: buffer select, return frame number, lines completed (R118). -/
def State.doneWrite (s : State) (sel : Bool) (frame : BitVec 16) (lines addr : Nat) : OwnRequest :=
  { owner := .doneWord, addr,
    access := .write (leBytes 8 (flag sel + 65536 * frame.toNat + 4294967296 * s.linesField lines)),
    live := true }

/-- The fetch that follows a retire of an outbound ring's record between two states: that of the next record at
once where the ring is ACTIVE and records are pending, none else (R99, R104). -/
def FetchFollows (r : Fin 4) (s t : State) : Prop :=
  let o := s.rings.outbound[r]
  if o.state = .active ∧ o.producerSeen ≠ o.consumer + 1 then
    (t.rings.outbound[r]).head = .fetching s.rings.nextSerial ∧
      t.rings.nextSerial = s.rings.nextSerial + 1 ∧
      t.path.egress =
        s.path.egress ++
          [{ owner := .recordFetch r s.rings.nextSerial
             addr := o.base + ((o.consumer + 1).toNat % o.count) * 64, access := .read 64, live := true }]
  else
    (t.rings.outbound[r]).head = .empty ∧ t.rings.nextSerial = s.rings.nextSerial ∧
      t.path.egress = s.path.egress

/-- What the outcome of a payload fetch of a ring parcel does between two states: it reaches its own record
alone. A PLAIN record is retired SENT or MEMORY_ERROR; a RELIABLE one is retired MEMORY_ERROR at an ERROR, also
while it is due to be sent again, and goes on at data; a parcel of an earlier record changes no ring. The next
record's fetch follows a retire (R90, R91, R99, R100, R104; log entries 28 and 36). -/
def RingFetchOutcome (s t : State) (r : Fin 4) (record : Nat) (error : Bool) : Prop :=
  let o := s.rings.outbound[r]
  t.sched.queue = s.sched.queue ∧ (∀ q : Fin 4, q ≠ r → t.rings.outbound[q] = s.rings.outbound[q]) ∧
    t.rings.inbound = s.rings.inbound ∧ t.rings.ret = s.rings.ret ∧
    (∀ sr, o.head = .placed sr → o.kind = .plain → sr.serial = record →
      (t.rings.outbound[r]).consumer = o.consumer + 1 ∧
        t.path.other =
          s.path.other ++ (if error then retireWrites o 4 1 0 else retireWrites o 1 1 sr.length) ∧
        FetchFollows r s t ∧
        (sr.attention = true → t.eventPending .ringAttn = true)) ∧
    (∀ sr, (o.head = .inFlight sr ∨ (o.head = .ready sr ∧ 0 < o.sendCount)) → o.kind = .reliable →
      sr.serial = record →
      if error = true then
        (t.rings.outbound[r]).consumer = o.consumer + 1 ∧ (t.rings.outbound[r]).toggle = !o.toggle ∧
          (t.rings.outbound[r]).syncNeeded = true ∧ (t.rings.outbound[r]).sendCount = 0 ∧
          t.path.other = s.path.other ++ retireWrites o 4 (s.attemptsByte o.sendCount) 0 ∧ FetchFollows r s t ∧
          (sr.attention = true → t.eventPending .ringAttn = true)
      else t.rings = s.rings ∧ t.path.other = s.path.other) ∧
    ((∀ sr, o.head.taken = some sr → sr.serial = record → o.head = .ready sr ∧ o.sendCount = 0) →
      t.rings = s.rings ∧ t.path.other = s.path.other)

/-- The send of a RELIABLE record in flight ends between two states without an ACK: a resend is due while the
send count is below the budget + 1; else the record is retired FAILED and the ring halts (R102, R104, R105; also
past that number, log entry 31). -/
def SendEnded (r : Fin 4) (sr : SendRecord) (s t : State) : Prop :=
  let o := s.rings.outbound[r]
  SameCapture s t ∧ t.sched = s.sched ∧ t.link = s.link ∧ t.mbox = s.mbox ∧ t.straps = s.straps ∧
    t.out = s.out ∧ t.pending = s.pending ∧
    t.free = (if sr.retry + 1 ≤ o.sendCount ∧ 256 ≤ o.sendCount then s.free + 1 else s.free) ∧
    (∀ q : Fin 4, q ≠ r → t.rings.outbound[q] = s.rings.outbound[q]) ∧
    t.rings.inbound = s.rings.inbound ∧ t.rings.ret = s.rings.ret ∧
    (o.sendCount < sr.retry + 1 →
      t.rings.outbound[r] = { o with head := .ready sr } ∧ t.path = s.path ∧
        StatusCounts (s.count .reliableRetries) s t) ∧
    (sr.retry + 1 ≤ o.sendCount →
      (t.rings.outbound[r]).state = .halted ∧ (t.rings.outbound[r]).cause = .failed ∧
        (t.rings.outbound[r]).head = .empty ∧ (t.rings.outbound[r]).consumer = o.consumer + 1 ∧
        (t.rings.outbound[r]).toggle = !o.toggle ∧ (t.rings.outbound[r]).syncNeeded = true ∧
        (t.rings.outbound[r]).sendCount = 0 ∧
        t.path =
          { s.path with
            other := s.path.other ++ retireWrites o 3 (s.attemptsByte o.sendCount) sr.length } ∧
        t.counter .recordsFailed = saturate (s.counter .recordsFailed) 1 ∧
        t.eventPending .ringHalt = true ∧ (sr.attention = true → t.eventPending .ringAttn = true))

/-- The own reads that fetch a parcel's payload, split at 256-byte boundaries in ascending order (R89). -/
def State.fetchReads (s : State) (p : Parcel) : List OwnRequest :=
  (chunks p.body.length (s.payloadAddr p.body) p.body.length).map fun c =>
    { owner := .payload p.id, addr := c.1, access := .read c.2, live := true }

/-- The state after a parcel is placed: it stands at the end of the window, its fetch pending if it carries
payload (R86 to R89). -/
def State.placed (s : State) (body : ParcelBody) : State :=
  { s with
    sched :=
      { s.sched with
        window := s.sched.window ++
          [{ id := s.sched.nextParcel, body
             fetch := if body.length = 0 then .notNeeded else .pending, poison := false }]
        nextParcel := s.sched.nextParcel + 1 } }

/-- The state with a job of the video queue replaced. -/
def State.withJob (s : State) (j : Job) : State :=
  { s with
    sched := { s.sched with queue := s.sched.queue.map (fun x => if x.id = j.id then j else x) } }

/-- The stitch table `entries` once the head line of a frame list has its entry: the one that stands, or else a
new one at the end, OPEN, with every segment EMPTY and the deadline of this moment (R58, R68). -/
def State.headOpened (s : State) (entries : List LineEntry) (frames : List FrameRecord) : List LineEntry :=
  match frames with
  | [] => entries
  | f :: _ =>
    if f.cursor < s.tracker.stream.lines ∧
        ∀ e ∈ entries, ¬ (e.frame = f.frame ∧ e.slot = f.slot ∧ e.line = f.cursor) then
      entries ++
        [{ id := s.stitch.nextEntry, frame := f.frame, slot := f.slot, line := f.cursor, state := .openState
           deadline := some (s.link.count + BitVec.ofNat 32 s.tracker.stream.timeout)
           segments := s.tracker.stream.windows.map (fun _ => { state := .empty, mark := 0 }) }]
    else entries

/-! ### Schedule images (R81, R83, section 11.2) -/

/-- An entry of a slot is validated when no entry before it in the slot is an end entry (R83). -/
def imageListed (image : List Byte) (slot e : Nat) : Prop :=
  ∀ d, d < e → byteAt image (16 * slot + 2 * d) ≠ 0

/-- What an image entry fails with: RANGE for a source code that is none of the six or a quota above 63, and
else UNBOUND for an UNBOUND ring (R83; of both, and of an end entry's quota, log entry 20). -/
def imageFault (u : RingUnit) (image : List Byte) (slot e : Nat) : Option ErrorCode :=
  let code := (byteAt image (16 * slot + 2 * e)).toNat
  let quota := (byteAt image (16 * slot + 2 * e + 1)).toNat
  if 5 < code ∨ 63 < quota then some .range
  else
    match code with
    | 2 => if (u.outbound[0]).state = .unbound then some .unboundError else none
    | 3 => if (u.outbound[1]).state = .unbound then some .unboundError else none
    | 4 => if (u.outbound[2]).state = .unbound then some .unboundError else none
    | 5 => if (u.outbound[3]).state = .unbound then some .unboundError else none
    | _ => none

/-! ### The link frame and the return window -/

/-- The link unit at a link frame start that does nothing else to it: the count is up by 1, no return window
has come yet, and the cells of the frame are in force (R121). -/
def LinkUnit.opened (l : LinkUnit) (cells : Nat × Nat) : LinkUnit :=
  { l with count := l.count + 1, returnTaken := false, cells }

/-- The forward window of a training frame, of 32 × k cells at a rate of factor k: the training header, k − 1
TRAIN_PATTERN parcels of 32 cells, and 31 cells of idle fill (R125). -/
def trainingOutputs (n : Byte) (r : Rate) (frame : Nat) : List Output :=
  .header (trainingHeader n r frame) 31 :: List.replicate (r.factor - 1) (.parcel (trainParcel n))

/-- The pending change after an echo is taken: its echoed flag is yes where kind, value and effective frame
number are those of the record, and nothing changes else (R138). -/
def LinkUnit.echoed (l : LinkUnit) (echo : Option (Change × Byte)) : LinkUnit :=
  { l with
    change := l.change.map fun c =>
      if echo = some (c.change, linkFrameNumber c.effective) then { c with echoed := true } else c }

/-- The header of a return window is missing, fails its check or echoes another frame (R132). -/
def badHeader (s : State) (header : Option (List Byte)) : Prop :=
  ∀ h, header = some h → headerGood s.link.count h = false

/-- The errors among the parcels of a return window: each that fails its check, does not fit, has an
unusable header or is a CMSG of no ring (R134, R176). -/
def State.parcelErrors (s : State) (h body : List Byte) : Nat :=
  ((returnParcels h body s.link.cells.2).filter Found.isError).length

/-- What a trial's end leads to: UP, the next lower rate, or PROBING (R126). -/
def trialVerdict (base own : Nat) (rate : Option Rate) : LinkMove :=
  if base ≤ 1 ∧ own ≤ 1 then .up
  else
    match (rate.getD .quarter).lower with
    | some r => .trial r
    | none => .probing

/-- The RATE change that a block judged with these errors creates, none below 8 errors or at QUARTER
(R136, R139). -/
def stepDownChange (rate : Rate) (errors : Nat) (count : FrameCount) : Option PendingChange :=
  match rate.lower with
  | some r =>
    if 8 ≤ errors then some { change := .rate r, effective := count + 8, echoed := false } else none
  | none => none

/-- The pending change after a block judged with these errors: a step-down takes the place of a SPLIT change,
and a RATE change stays (R136, R139). -/
def blockChange (l : LinkUnit) (errors : Nat) : Option PendingChange :=
  match l.change with
  | none => stepDownChange l.rate errors l.count
  | some c =>
    match c.change, stepDownChange l.rate errors l.count with
    | .split _ _, some d => some d
    | _, _ => some c

/-- The link unit after an arrival while UP that leaves a loss run and adds link errors: one more window of
the block, or the judgement of the block with its 256th (R131, R136). -/
def LinkUnit.monitored (l : LinkUnit) (lossRun errors : Nat) : LinkUnit :=
  let total := saturate16 (l.monitorErrors + errors)
  if l.monitorFrames < 255 then
    { l with lossRun, monitorFrames := l.monitorFrames + 1, monitorErrors := total, returnTaken := true }
  else
    { l with
      lossRun, monitorFrames := 0, monitorErrors := 0, change := blockChange l total, returnTaken := true }

/-- An arrival while UP that adds link errors replaces a SPLIT change by a step-down (R136, R139). -/
def LinkUnit.supersedes (l : LinkUnit) (errors : Nat) : Prop :=
  255 ≤ l.monitorFrames ∧ l.splitPending = true ∧
    (stepDownChange l.rate (saturate16 (l.monitorErrors + errors)) l.count).isSome = true

/-- The link unit after an arrival while TRAINING that adds trial errors: the trial is judged at its frame 15
(R125, R126). -/
def LinkUnit.tried (l : LinkUnit) (lossRun base own : Nat) : LinkUnit :=
  { l with
    lossRun, returnTaken := true
    trialBaseErrors := saturate16 (l.trialBaseErrors + base)
    trialOwnErrors := saturate16 (l.trialOwnErrors + own)
    move :=
      if l.trialFrame = 15 ∧ l.move = none then
        some
          (trialVerdict (saturate16 (l.trialBaseErrors + base)) (saturate16 (l.trialOwnErrors + own))
            l.trialRate)
      else l.move }

/-- The training failures that such an arrival counts: 1 where it sends the link back to PROBING (R126). -/
def LinkUnit.trialFails (l : LinkUnit) (base own : Nat) : Nat :=
  if l.trialFrame = 15 ∧ l.move = none ∧
      trialVerdict (saturate16 (l.trialBaseErrors + base)) (saturate16 (l.trialOwnErrors + own))
        l.trialRate = .probing then 1
  else 0

/-- The link unit after a return window while PROBING that does not set READY: one more probe frame, and a
probe cycle with the 64th (R124). -/
def LinkUnit.probed (l : LinkUnit) (tally : BitVec 8) : LinkUnit :=
  { l with
    tally, returnTaken := true
    probeFrames := if l.probeFrames < 63 then l.probeFrames + 1 else 0
    probeCycles := if l.probeFrames < 63 then l.probeCycles else saturate16 (l.probeCycles + 1) }

/-- The own write of a result word (section 11.1). -/
def resultWordWrite (s : State) (st : ResultStatus) (code tag : BitVec 8) (e : ErrorCode) (raises : Bool) :
    OwnRequest :=
  { owner := .resultWord raises, addr := s.straps.mailboxPage + 0x080,
    access := .write [st.code, code, tag, e.code, 0, 0, 0, 0], live := true }

/-- The own write of the eight result data words (R152). -/
def resultDataWrite (s : State) (data : List Word) : OwnRequest :=
  { owner := .resultData, addr := s.straps.mailboxPage + 0x088,
    access := .write ((List.range 8).flatMap (fun k => wordBytes (data.getD k 0))), live := true }

/-- The write an accepted launch begins with: RUNNING (R151). -/
def runningWrite (s : State) (c : Command) (tag : BitVec 8) : OwnRequest :=
  resultWordWrite s .running c.code tag .noError false

/-- The writes a command ends with: its result data, then DONE or FAILED (R152). -/
def finalWrites (s : State) (code tag : BitVec 8) (e : ErrorCode) (data : List Word) : List OwnRequest :=
  [resultDataWrite s data,
    resultWordWrite s (if e = .noError then .done else .failed) code tag e true]

/-- The running command ends between two states with an error code and result data, and its writes join the own
requests (R152). -/
def CommandEnds (c : Command) (tag : BitVec 8) (e : ErrorCode) (data : List Word) (s t : State) : Prop :=
  t.mbox = { s.mbox with running := none } ∧
    t.path = { s.path with other := s.path.other ++ finalWrites s c.code tag e data }

/-! ### The link leaving UP (R79, R93, R108, R115, R133) -/

/-- The lines of a slot's frame that the jobs in the video queue carry, which finish when the queue is sunk
(R44, R79). -/
def State.queuedLines (s : State) (i : Fin 4) : Nat :=
  ((s.sched.queue.filter (fun j => decide (j.slot = i ∧ (s.tracker.slots[i]).frame = some j.frame))).map
    (fun j => j.body.lines)).sum

/-- A head record at the moment the link leaves UP: one that was sent and not retired is READY again (R108). -/
def HeadRecord.unsent (h : HeadRecord) : HeadRecord :=
  match h with
  | .placed r | .inFlight r => .ready r
  | .empty | .fetching _ | .ready _ => h

/-- A landing at the moment the link leaves UP: it goes on, and its ACK is dropped (R115). -/
def Landing.unanswered (l : Landing) : Landing :=
  match l with
  | .idle => .idle
  | .inProgress k left _ => .inProgress k left none

/-- The drain ends once the video queue holds no job: the stream is DRAINING and the frame list is empty
(R73). -/
def State.drainsWithQueue (s : State) : Prop := s.tracker.stream.state = .draining ∧ s.tracker.frames = []

/-- What the link's leaving UP does between two states outside the link unit: the video queue is sunk, its lines
finish, and with them a drain; the parcels not transmitted and the hold timers go, and the schedule stays; a
record not retired is READY again, and RELIABLE rings start fresh under SYNC; inbound rings forget what they
accepted and would answer (R79, R93, R73, R108, R115, R119; an UNBOUND inbound ring too, log entry 22). -/
def LeftUp (s t : State) : Prop :=
  t.sched = { s.sched with queue := [], window := [], hold := Vector.replicate 5 0 } ∧
    t.counter .jobsSunk = saturate (s.counter .jobsSunk) s.sched.queue.length ∧
    t.tracker.frames = s.tracker.frames ∧ t.tracker.newest = s.tracker.newest ∧
    (∀ i : Fin 4, (t.tracker.slots[i]).frame = (s.tracker.slots[i]).frame) ∧
    (¬ s.drainsWithQueue → t.tracker.stream = s.tracker.stream ∧
      ∀ i : Fin 4,
        (t.tracker.slots[i]).unfinished = (s.tracker.slots[i]).unfinished - s.queuedLines i) ∧
    (s.drainsWithQueue → t.tracker.stream = Stream.closed ∧ t.eventPending .streamClosed = true ∧
      ∀ i : Fin 4, (t.tracker.slots[i]).unfinished = 0) ∧
    (∀ r : Fin 4,
      let o := s.rings.outbound[r]
      (o.state = .unbound → t.rings.outbound[r] = o) ∧
        (o.state ≠ .unbound → o.kind = .plain → t.rings.outbound[r] = { o with head := o.head.unsent }) ∧
        (o.state ≠ .unbound → o.kind = .reliable →
          t.rings.outbound[r] = { o with head := o.head.unsent, toggle := false, syncNeeded := true })) ∧
    (∀ r : Fin 2,
      t.rings.inbound[r] =
        { s.rings.inbound[r] with
          lastAccepted := none, toSend := .none, releaseDue := false
          landing := (s.rings.inbound[r]).landing.unanswered }) ∧
    t.rings.ret = s.rings.ret ∧ t.map = s.map ∧ t.stitch = s.stitch ∧ t.free = s.free

/-- The link is lost between two states: PROBING afresh, one loss counted, LINK_CHANGE raised, and the tally, the
configured split and the drop repeat as they were (R124, R131, R133; the cells in force too, log entry 25). A loss
from UP also cancels the pending change, ends a running SET SPLIT with NO_AGREEMENT, and leaves UP; a loss from
TRAINING touches nothing else. -/
def LinkLost (s t : State) : Prop :=
  t.link.state = .probing ∧ t.link.lossRun = 0 ∧ t.link.probeFrames = 0 ∧ t.link.probeCycles = 0 ∧
    t.link.trialRate = none ∧ t.link.move = none ∧ t.link.tally = s.link.tally ∧
    t.link.cells = s.link.cells ∧ t.link.rate = s.link.rate ∧ t.link.splitF = s.link.splitF ∧
    t.link.splitRt = s.link.splitRt ∧ t.link.dropRepeat = s.link.dropRepeat ∧
    t.counter .linkLosses = saturate (s.counter .linkLosses) 1 ∧
    t.counter .trainingFailures = s.counter .trainingFailures ∧ t.eventPending .linkChange = true ∧
    (s.link.state = .up →
      t.link.change = none ∧ t.link.monitorFrames = 0 ∧ t.link.monitorErrors = 0 ∧ LeftUp s t ∧
        (∀ tag, s.link.splitPending = true →
          s.mbox.running = some { code := Command.setSplit.code, tag } →
          CommandEnds .setSplit tag .noAgreement
            [numberWord (s.link.splitF + atBit 16 s.link.splitRt), BitVec.ofNat 64 s.link.count.toNat] s t) ∧
        (∀ tag, s.drainsWithQueue → s.mbox.running = some { code := Command.closeStream.code, tag } →
          CommandEnds .closeStream tag .noError [BitVec.ofNat 64 s.link.count.toNat] s t) ∧
        (s.link.splitPending = false → ¬ s.drainsWithQueue → t.mbox = s.mbox ∧ t.path = s.path)) ∧
    (s.link.state = .training →
      SameCapture s t ∧ t.sched = s.sched ∧ t.rings = s.rings ∧ t.mbox = s.mbox ∧ t.path = s.path) ∧
    SameOutside s t

/-- The mailbox unit with every slot STALE, its values kept, and a command state (R150, R151). -/
def Mailbox.staled (m : Mailbox) (running : Option CommandTag) : Mailbox :=
  { m with slots := m.slots.map (fun x => { x with fresh := false }), running }

/-- The code, count and tag of the rows that are launches, none for the others (section 8.7). -/
def launchOf : Instr → Option (BitVec 8 × BitVec 4 × BitVec 8)
  | .unknownOp code n tag => some (code, n, tag)
  | .makeWindow n tag => some (Command.makeWindow.code, n, tag)
  | .clearWindow n tag => some (Command.clearWindow.code, n, tag)
  | .lockWindow n tag => some (Command.lockWindow.code, n, tag)
  | .readWindowFirst n tag => some (Command.readWindowFirst.code, n, tag)
  | .readWindowNext n tag => some (Command.readWindowNext.code, n, tag)
  | .openStream n tag => some (Command.openStream.code, n, tag)
  | .closeStream n tag => some (Command.closeStream.code, n, tag)
  | .bindRing n tag => some (Command.bindRing.code, n, tag)
  | .bindReturn n tag => some (Command.bindReturn.code, n, tag)
  | .unbind n tag => some (Command.unbind.code, n, tag)
  | .resumeRing n tag => some (Command.resumeRing.code, n, tag)
  | .loadSchedule n tag => some (Command.loadSchedule.code, n, tag)
  | .setSplit n tag => some (Command.setSplit.code, n, tag)
  | .linkControlEnable n tag => some (Command.linkControl.code, n, tag)
  | .linkControlDisable n tag => some (Command.linkControl.code, n, tag)
  | .linkControlRetrain n tag => some (Command.linkControl.code, n, tag)
  | .snapshotCounters n tag => some (Command.snapshotCounters.code, n, tag)
  | .setEvents n tag => some (Command.setEvents.code, n, tag)
  | .restart n tag => some (Command.restart.code, n, tag)
  | _ => none

/-- The operation of the rows of LINK CONTROL (log entry 24). -/
def rowOperation : Instr → Option LinkOperation
  | .linkControlEnable _ _ => some .enable
  | .linkControlDisable _ _ => some .disable
  | .linkControlRetrain _ _ => some .retrain
  | _ => none

/-- The rows that can carry out a launch: those that are launches, and FORWARDING, whose tap set can hold
one (R4, R148). -/
def mayLaunch (c : Instr) : Bool := (launchOf c).isSome || decide (c = .forwarding)

/-- The rows that can take a reset of the part or hold one (R18, R155, R156). -/
def mayReset : Instr → Bool
  | .powerOnReset _ _ _ | .restartN | .restart _ _ | .forwarding => true
  | _ => false

/-- The held requests that go on at a restart: the leaders, and the followers that protection would pass
(R19 step 1). -/
def State.flushed (s : State) : List Held :=
  s.path.hold.filter (fun h => decide (h.role = .leader) || (s.protection h.request).isNone)

/-- The held requests that are blocked at a restart: the followers that protection would block (R19 step 1). -/
def State.flushBlocked (s : State) : List Held :=
  s.path.hold.filter (fun h => decide (h.role = .follower) && (s.protection h.request).isSome)

/-- What a restart forwards from the pass and hold queues, untapped and in this order (R19 steps 1 and 2). -/
def State.flushedPass (s : State) : List Passing :=
  s.path.pass.map (fun x => { x with taps := [] }) ++
    s.flushed.map (fun h => { request := h.request, taps := [] })

/-- The state `t` is `s` after a restart that issued the writes `results` before it and left the mailbox
unit as `mbox` (R19, R33, R54, R76, R94, R120, R122, R145, R155, R156, R162, R168). -/
def RestartedFrom (s t : State) (results : List OwnRequest) (mbox : Mailbox) : Prop :=
  t.path.mode = .initializing ∧ t.path.hold = [] ∧ (∀ x ∈ t.path.pass, x.taps = []) ∧
    (∃ more, t.path.pass = s.flushedPass ++ more) ∧
    (∃ more, t.out = s.out ++ s.flushBlocked.map (fun h => .answer h.request.initiator true []) ++ more) ∧
    t.path.lastSide = .own ∧ (∀ q ∈ t.path.egress, q.isRead = false) ∧
    (∀ q ∈ t.path.ownOut, q.live = false) ∧
    t.path.other =
      ((s.path.other ++ results).filter (fun q => !q.isRead)).map OwnRequest.retired ++
        [initWrite s.straps (if s.straps.autolink then 1 else 0) s.straps.autolink] ∧
    (∀ i : Fin 32,
      t.map.windows[i] = if (s.map.windows[i]).locked then s.map.windows[i] else Window.free) ∧
    t.map.cursor = 0 ∧ t.tracker = Tracker.empty ∧ t.stitch.entries = [] ∧
    t.sched = Scheduler.empty s.sched.nextJob s.sched.nextParcel ∧
    t.rings = RingUnit.empty s.rings.nextSerial ∧
    t.link =
      { LinkUnit.cleared (if s.straps.autolink then .probing else .down) s.straps.autolink s.link.count with
        cells := s.link.cells } ∧
    t.mbox = mbox ∧ t.status.enable = 0 ∧ t.status.launchLost = false ∧ t.status.paramTorn = false ∧
    t.status.inboundFull = false ∧ t.status.due = [] ∧ t.status.snapshot = none ∧
    (s.path.waiting = [] → t.status.events = 0 ∧ t.path.guard = none ∧
      t.path.pass = s.flushedPass ∧
      t.out = s.out ++ s.flushBlocked.map (fun h => .answer h.request.initiator true []) ∧
      t.status.counters =
        (((s.countBy .holdExpiries s.flushed.length).countBy .blockedWrites
            (s.flushBlocked.filter (fun h => h.request.isWrite)).length).countBy .blockedReads
            (s.flushBlocked.filter (fun h => !h.request.isWrite)).length).status.counters)

/-- What an accepted command that completes at once does outside its own block: every slot STALE, the
command state IDLE again, and in the OTHER class RUNNING, the writes `own` of the command itself, the
result data and DONE, in that order; nothing of the status unit but the due list (R151, R152). -/
def CompletesAtOnce (c : Command) (tag : BitVec 8) (own : List OwnRequest) (data : List Word)
    (s t : State) : Prop :=
  t.mbox = s.mbox.staled none ∧
    t.path =
      { s.path with
        other := s.path.other ++ [runningWrite s c tag] ++ own ++ finalWrites s c.code tag .noError data }

end Sys2Proof.Machine
end

