-- ==== Sys2Proof/Certificates/Slice0/Obligations.lean ====
section
/-!
DEFINITION. The statements about the part, for the provers.
-/

open Sys2Proof Sys2Proof.Machine

/-! ### The machine -/

/-- A step of a state with a command at the front of its queue is that command on the state with the
queue's rest. -/
def Obligations.StepRunsFrontCommand : Prop :=
  ∀ (c : Instr) (s : State), step { s with pending := c :: s.pending } = exec c s

/-- Every command that the outside can present completes in every state; a request of a shape that section 1.1
rules out faults (the model's choice, log entry 9). A request has 1 to 256 bytes within one 256-byte block, and
UNKNOWN_OP carries a code above 0x11. -/
def Obligations.WellFormedCommandsComplete : Prop :=
  (∀ (c : Instr) (s : State), c.wf = true → ∃ t, exec c s = .next t) ∧
  (∀ (r : Request) (s : State), r.wf = false → exec (.upstreamRequest r) s = .fault .malformedRequest) ∧
  (∀ (w : Fin 32) (k : Fin 6) (r : Request) (s : State),
    r.wfWrite = false → exec (.captureWrite w k r) s = .fault .malformedRequest) ∧
  ((∀ r : Request, r.wf = true ↔ 1 ≤ r.size ∧ r.addr.toNat % 256 + r.size ≤ 256) ∧
   (∀ r : Request,
     r.size =
       match r.access with
       | .read n => n
       | .write data => data.length) ∧
   (∀ r : Request, r.wfWrite = true ↔ r.wf = true ∧ ∃ data, r.access = .write data) ∧
   (∀ c : Instr, c.wf = false ↔
     (∃ r, c = .upstreamRequest r ∧ r.wf = false) ∨ (∃ w k r, c = .captureWrite w k r ∧ r.wfWrite = false) ∨
       ∃ code n tag, c = .unknownOp code n tag ∧ code.toNat ≤ 17))

/-- No command touches the queue of commands, the straps change at power-on reset alone, and what has
left the part stays as it left (log entry 7). -/
def Obligations.QueueStrapsAndOutputsKept : Prop :=
  ∀ (c : Instr) (s t : State), exec c s = .next t →
    t.pending = s.pending ∧ ((∀ m k a, c ≠ .powerOnReset m k a) → t.straps = s.straps) ∧
      ∃ more, t.out = s.out ++ more

/-! ### Resets -/

/-- The state after reset meets every law that the invariant statements keep. -/
def Obligations.ResetMeetsEveryLaw : Prop :=
  State.reset.PathBounded ∧ State.reset.ChainsLed ∧ State.reset.QueueBounded ∧ State.reset.DueDistinct ∧
    State.reset.CursorInRange ∧ State.reset.EntriesDistinct ∧ State.reset.InitializingQuiet ∧
    State.reset.LinkInRange ∧ State.reset.SplitInRange ∧ State.reset.RunningMatches ∧
    State.reset.InboundBounded ∧ State.reset.HeadsFit ∧ State.reset.FramesOnSlots ∧
    State.reset.OutboundIndexed

/-- Power-on reset sets every block as its own reset rule says, from any state; the values of those rules are
written out. (That no cells are in force
before the first link frame start is the model's reading, log entry 25.) -/
def Obligations.PowerOnResetSetsEveryBlock : Prop :=
  (∀ (m k : BitVec 4) (a : Bool) (s : State), ∃ t, exec (.powerOnReset m k a) s = .next t ∧
     t.straps = { mbsel := m, ctlid := k, autolink := a } ∧
     t.path.mode = .initializing ∧ t.path.hold = [] ∧ t.path.egress = [] ∧
     t.path.other = [initWrite { mbsel := m, ctlid := k, autolink := a } 0 a] ∧ t.path.lastSide = .own ∧
     (∀ f ∈ t.path.forwarded, f.discard = true) ∧ (∀ q ∈ t.path.ownOut, q.live = false) ∧
     t.map = RegionMap.empty ∧ t.tracker = Tracker.empty ∧ t.stitch.entries = [] ∧
     t.sched = Scheduler.empty s.sched.nextJob s.sched.nextParcel ∧
     t.rings = RingUnit.empty s.rings.nextSerial ∧ t.link = LinkUnit.cleared .down a 0 ∧
     t.mbox = Mailbox.empty ∧ t.status.enable = 0 ∧ t.status.launchLost = false ∧
     t.status.paramTorn = false ∧ t.status.inboundFull = false ∧ t.status.due = [] ∧
     t.status.snapshot = none ∧
     (s.path.waiting = [] →
       t.path.pass = [] ∧ t.path.guard = none ∧ t.status.events = 0 ∧
         t.status.counters = Vector.replicate 59 0)) ∧
  ((∀ i : Fin 32, RegionMap.empty.windows[i] = Window.free) ∧ RegionMap.empty.cursor = 0 ∧
   Window.free =
     { kind := .free, base := 0, size := 0, writers := 0, readers := 0, locked := false, segLen := 0
       pitch := 0, stride := 0 } ∧
   Stream.closed =
     { state := .closed, windows := [], lines := 0, slotCount := 0, timeout := 0, holdLimit := 0
       markWord := 0, linePayload := 0 } ∧
   Tracker.empty.stream = Stream.closed ∧ Tracker.empty.frames = [] ∧ Tracker.empty.newest = none ∧
   (∀ i : Fin 4, Tracker.empty.slots[i] = { frame := none, unfinished := 0 })) ∧
  (∀ n m : Nat,
   let c := Scheduler.empty n m
   c.queue = [] ∧ c.active = none ∧ c.staged = none ∧ c.state = .none ∧ c.window = [] ∧
     ∀ i : Fin 5, c.hold[i] = 0) ∧
  ((∀ n : Nat, (∀ r : Fin 4, (RingUnit.empty n).outbound[r] = OutRing.unbound) ∧
     (∀ r : Fin 2, (RingUnit.empty n).inbound[r] = InRing.unbound) ∧
     (RingUnit.empty n).ret = ReturnBinding.unbound) ∧
   OutRing.unbound =
     { state := .unbound, cause := .none, kind := .plain, count := 0, base := 0, producerWord := none
       consumerWord := none, producerSeen := 0, producerWritten := 0, consumer := 0, head := .empty
       toggle := false, syncNeeded := false, sendCount := 0, sentFrame := 0 } ∧
   InRing.unbound =
     { state := .unbound, cause := .none, count := 0, base := 0, producerWord := none
       consumerWord := none, producer := 0, consumerSeen := 0, consumerWritten := 0
       lastAccepted := none, landing := .idle, toSend := .none, holdRequested := false
       releaseDue := false } ∧
   ReturnBinding.unbound =
     { bound := false, base := 0, pitch := 0, lines := 0, stride := 0, doneWord := none, serial := 0
       buffer0 := { completed := 0, left := 0, due := none }
       buffer1 := { completed := 0, left := 0, due := none }, releaseDue := false }) ∧
  (∀ (state : LinkState) (enabled : Bool) (count : FrameCount),
   LinkUnit.cleared state enabled count =
     { state, enabled, ceiling := .full, rate := .quarter, splitF := 1024, splitRt := 256, count
       lossRun := 0, probeFrames := 0, probeCycles := 0, trialRate := none, trialFrame := 0
       trialBaseErrors := 0, trialOwnErrors := 0, monitorFrames := 0, monitorErrors := 0
       change := none, lastDropped := 0, dropCount := 0, dropRepeat := 0, tally := 0, move := none
       returnTaken := false, cells := (0, 0) }) ∧
  (Mailbox.empty.running = none ∧ Mailbox.empty.abortNote = none ∧
   ∀ i : Fin 8, Mailbox.empty.slots[i] = { value := 0, fresh := false } ∧ Mailbox.empty.staging[i] = 0) ∧
  ((∀ p : Straps, p.mailboxPage = 0xFFFFF00000 + 0x1000 * p.mbsel.toNat) ∧
   (∀ (p : Straps) (state : BitVec 8) (enabled : Bool),
     initWrite p state enabled =
       { owner := .status, addr := p.mailboxPage + 0x100
         access := .write [0, state, if enabled then 1 else 0, 3, 0, 0, 0, 0], live := true }))

/-- A restart, by the pin or by a RESTART launch that is taken, empties the hold queue oldest first, drops
every tap set, and sets every block as its own reset rule says; own writes stay queued, and the results of
section 8.5 go out before the write of word 0. (That the cells in force stay those of the present frame is
the model's reading, log entry 25.) -/
def Obligations.RestartSetsEveryBlock : Prop :=
  (∀ s : State, ∃ t, exec .restartN s = .next t ∧
    RestartedFrom s t
      (match s.mbox.running with
       | none => []
       | some c =>
         if c.code = Command.restart.code then []
         else [resultWordWrite s .failed c.code c.tag .aborted false])
      (match s.mbox.running with
       | none => Mailbox.empty
       | some c =>
         if c.code = Command.restart.code then
           { Mailbox.empty with running := some c, abortNote := s.mbox.abortNote }
         else Mailbox.empty)) ∧
  (∀ (tag : BitVec 8) (s : State), s.path.mode = .ready →
    ∃ t, exec (.restart 0 tag) s = .next t ∧
      RestartedFrom s t
        ((match s.mbox.running with
          | none => []
          | some c => [resultWordWrite s .failed c.code c.tag .aborted false]) ++
          [runningWrite s .restart tag])
        { Mailbox.empty with
          running := some { code := Command.restart.code, tag }, abortNote := s.mbox.running }) ∧
  (∀ q : OwnRequest, q.retired = { q with live := false })

/-- Init completion makes the part READY; a RESTART that is running gets its result data and DONE, then
the whole status block is written and the due list is empty. -/
def Obligations.InitCompletionWritesStatusBlock : Prop :=
  ∀ s : State, s.path.mode = .initializing → ∃ t, exec .initCompletion s = .next t ∧
    t.path =
      { s.path with
        mode := .ready
        other := s.path.other ++
          (match s.mbox.running with
           | none => []
           | some c =>
             if c.code = Command.restart.code then
               finalWrites s c.code c.tag .noError
                 [match s.mbox.abortNote with
                  | some n => numberWord (n.code.toNat + atBit 8 n.tag.toNat)
                  | none => 0]
             else []) ++
          [{ owner := .status, addr := s.straps.mailboxPage + 0x100, access := .write t.statusBlock,
             live := true }] } ∧
    (s.isRunning .restart = true → t.mbox = { s.mbox with running := none, abortNote := none }) ∧
    (s.isRunning .restart = false → t.mbox = s.mbox) ∧
    SameCapture s t ∧ SameLink s t ∧ SameOutside s t ∧ t.status = { s.status with due := [] }

/-! ### The memory path -/

/-- A request carrying ID 15 is blocked, whatever its address and kind, with origin ID15; no other request
is blocked with that origin (R2). -/
def Obligations.PartIdIsBlocked : Prop :=
  (∀ (r : Request) (s : State),
    (r.initiator = 15 → s.classify r = .block .id15) ∧
      (r.initiator ≠ 15 → s.classify r ≠ .block .id15)) ∧
  (∀ (r : Request) (s : State), r.wf = true → r.initiator = 15 → s.path.waiting = [] →
    s.path.portOpen = true → s.path.holds 15 = false →
    ∃ t, exec (.upstreamRequest r) s = .next t ∧
      t.out = s.out ++ [.answer 15 true []] ∧
      t.path =
        { s.path with
          guard := some
            (s.path.guard.getD
              { addr := r.addr, initiator := 15, isWrite := r.isWrite, origin := .id15 }) } ∧
      t.eventPending .guard = true)

/-- Inside the mailbox page reads pass, part-written areas are blocked for every writer and control areas for
every writer but the control initiator, and a write that passes carries an entry for each control word. Outside
it the window of lowest index decides by its sets; a permitted write in a CAPTURE window of the stream is held
or carries a capture entry, and no other request carries one. A write that goes on carries a watch entry for
each watch word it covers whole, ascending, and counts those it covers in part. The control entries are those of
the words the write touches, in ascending address order, each with its value if covered whole. The lookup takes
the valid entry of lowest index that contains the address. While INITIALIZING the mailbox step does not apply,
the lookup sees locked entries alone, and what is not blocked passes untapped. A write must be held when the
stream is not CLOSED, the write maps to a line of a frame on the frame list at position 48 or beyond, and the
hold limit is above 0 (the mapping and the position are CaptureWriteSortedOut's). The mailbox page, its areas,
the bits of a window's sets and the segment position of a window are as spelled. -/
def Obligations.ClassificationByMailboxAndMap : Prop :=
  (∀ (r : Request) (s : State), s.path.mode = .ready → r.initiator ≠ 15 →
     inMailbox s.straps.mailboxPage r.addr.toNat = true →
     match r.access with
     | .read _ => s.classify r = .pass [] 0
     | .write data =>
       if touchesPartWritten s.straps.mailboxPage r.addr.toNat data.length = true ∨
           (touchesControl s.straps.mailboxPage r.addr.toNat data.length = true ∧
             r.initiator ≠ s.straps.ctlid) then
         s.classify r = .block .mailbox
       else
         s.classify r =
           .pass
             (controlTaps s.straps.mailboxPage r.addr.toNat data ++ s.watchEntries r.addr.toNat data)
             (s.watchTorn r.addr.toNat data)) ∧
  (∀ (r : Request) (s : State), s.path.mode = .ready → r.initiator ≠ 15 →
     inMailbox s.straps.mailboxPage r.addr.toNat = false →
     match s.lookup r.addr.toNat with
     | none =>
       s.classify r =
         (match r.access with
          | .read _ => .pass [] 0
          | .write data =>
            .pass (s.watchEntries r.addr.toNat data) (s.watchTorn r.addr.toNat data))
     | some i =>
       if (s.map.windows[i]).permits r = false then s.classify r = .block (.window i)
       else
         match r.access, (s.map.windows[i]).kind, s.tracker.stream.position i with
         | .read _, _, _ => s.classify r = .pass [] 0
         | .write data, .capture, some k =>
           if s.tracker.mustHold s.map.windows[i] r.addr = true then s.classify r = .hold
           else
             s.classify r =
               .pass (.capture i k :: s.watchEntries r.addr.toNat data)
                 (s.watchTorn r.addr.toNat data)
         | .write data, _, _ =>
           s.classify r =
             .pass (s.watchEntries r.addr.toNat data) (s.watchTorn r.addr.toNat data)) ∧
  (∀ (a : Nat) (s : State), a ∈ s.watchWords ↔
    (s.tracker.stream.state ≠ .closed ∧ a = s.tracker.stream.markWord) ∨
    (∃ r : Fin 4, (s.rings.outbound[r]).state ≠ .unbound ∧
      (s.rings.outbound[r]).producerWord = some a) ∨
    (∃ r : Fin 2, (s.rings.inbound[r]).state ≠ .unbound ∧ (s.rings.inbound[r]).consumerWord = some a)) ∧
  (∀ a n : Nat, 0 < n →
    (touchedWords a n).Pairwise (· < ·) ∧
      ∀ w, w ∈ touchedWords a n ↔ w % 8 = 0 ∧ w < a + n ∧ a < w + 8) ∧
  ((∀ (page a : Nat) (data : List Byte) (w : ControlWord) (v : Option Word),
     .control w v ∈ controlTaps page a data ↔
       a < page + w.offset + 8 ∧ page + w.offset < a + data.length ∧
         v =
           if a ≤ page + w.offset ∧ page + w.offset + 8 ≤ a + data.length then
             some (BitVec.ofNat 64 (fieldAt data (page + w.offset - a) 8))
           else none) ∧
   (∀ (page a : Nat) (data : List Byte),
     (∀ x ∈ controlTaps page a data, ∃ w v, x = .control w v) ∧
       (controlTaps page a data).Pairwise (fun x y =>
         ∀ w v w' v', x = .control w v → y = .control w' v' → w.offset < w'.offset)) ∧
   (∀ i : Fin 8, (ControlWord.param i).offset = 8 * i.val) ∧ ControlWord.launch.offset = 0x40 ∧
   ControlWord.acknowledge.offset = 0x48) ∧
  (∀ (a : Nat) (i : Fin 32) (s : State), s.lookup a = some i ↔
    ((s.map.windows[i]).kind ≠ .free ∧ (s.map.windows[i]).base ≤ a ∧
      a < (s.map.windows[i]).base + (s.map.windows[i]).size ∧
      (s.path.mode = .initializing → (s.map.windows[i]).locked = true)) ∧
    ∀ j : Fin 32, j < i →
      ¬ ((s.map.windows[j]).kind ≠ .free ∧ (s.map.windows[j]).base ≤ a ∧
        a < (s.map.windows[j]).base + (s.map.windows[j]).size ∧
        (s.path.mode = .initializing → (s.map.windows[j]).locked = true))) ∧
  (∀ (r : Request) (s : State), s.path.mode = .initializing → r.initiator ≠ 15 →
    s.classify r =
      match s.lookup r.addr.toNat with
      | none => .pass [] 0
      | some i => if (s.map.windows[i]).permits r = true then .pass [] 0 else .block (.window i)) ∧
  (∀ (t : Tracker) (w : Window) (a : Addr),
    t.mustHold w a = true ↔
      t.stream.state ≠ .closed ∧
        ∃ (f : FrameNumber) (slot : Fin 4) (line b i : Nat), t.mapWrite w a = .line f slot line b ∧
          t.indexOf f slot = some i ∧ (48 : Int) ≤ t.position i line ∧ 0 < t.stream.holdLimit) ∧
  ((∀ (p : Straps) (a : Nat), inMailbox p.mailboxPage a = true ↔
     0xFFFFF00000 + 0x1000 * p.mbsel.toNat ≤ a ∧ a < 0xFFFFF00000 + 0x1000 * p.mbsel.toNat + 0x1000) ∧
   (∀ page a n : Nat, touchesPartWritten page a n = true ↔
     (a < page + 0x0C8 ∧ page + 0x080 < a + n) ∨ (a < page + 0x200 ∧ page + 0x100 < a + n) ∨
       (a < page + 0x2EC ∧ page + 0x200 < a + n)) ∧
   (∀ page a n : Nat, touchesControl page a n = true ↔ a < page + 0x050 ∧ page < a + n) ∧
   (∀ (w : Window) (r : Request),
     w.permits r =
       if r.isWrite then w.writers.getLsbD r.initiator.toNat else w.readers.getLsbD r.initiator.toNat) ∧
   (∀ (t : Stream) (w : Fin 32) (k : Fin 6), t.position w = some k ↔
     t.state ≠ .closed ∧ t.windows[k.val]? = some w ∧ ∀ j : Nat, j < k.val → t.windows[j]? ≠ some w)) ∧
  ((∀ (r : Request) (o : Origin) (s : State), s.protection r = some o ↔ s.classify r = .block o) ∧
   (∀ (a : Nat) (data : List Byte) (w : Nat),
     coveredWord a data w =
       if a ≤ w ∧ w + 8 ≤ a + data.length then some (BitVec.ofNat 64 (fieldAt data (w - a) 8)) else none))

/-- A request at the upstream port waits while the port is closed, joins its initiator's chain unclassified
while that initiator is held, and is else queued, held or blocked as classification says. The port is open while
fewer than 8 requests are held and fewer than 4 wait in the pass queue. -/
def Obligations.UpstreamRequestTaken : Prop :=
  (∀ (r : Request) (s : State), r.wf = true → (s.path.waiting = [] ∨ s.path.portOpen = false) →
     ∃ t, exec (.upstreamRequest r) s = .next t ∧ SameCapture s t ∧ SameLink s t ∧ t.mbox = s.mbox ∧
       t.straps = s.straps ∧
       if s.path.portOpen = false then
         t.path = { s.path with waiting := s.path.waiting ++ [r] } ∧ t.out = s.out ∧ SameStatus s t
       else if s.path.holds r.initiator = true then
         t.path =
           { s.path with
             hold := s.path.hold ++
               [{ request := r, role := .follower, entry := s.link.count,
                  deadline := s.link.count + BitVec.ofNat 32 s.tracker.stream.holdLimit }] } ∧
           t.out = s.out ∧ StatusCounts (s.count .heldRequests) s t
       else
         match s.classify r with
         | .pass taps torn =>
           t.path = { s.path with pass := s.path.pass ++ [{ request := r, taps }] } ∧ t.out = s.out ∧
             StatusCounts
               (if s.path.mode = .initializing then (s.countBy .watchTornWords torn).count .initPasses
                else s.countBy .watchTornWords torn) s t
         | .hold =>
           t.path =
             { s.path with
               hold := s.path.hold ++
                 [{ request := r, role := .leader, entry := s.link.count,
                    deadline := s.link.count + BitVec.ofNat 32 s.tracker.stream.holdLimit }] } ∧
             t.out = s.out ∧ StatusCounts (s.count .heldRequests) s t
         | .block o =>
           t.path =
             { s.path with
               guard := some
                 (s.path.guard.getD
                   { addr := r.addr, initiator := r.initiator, isWrite := r.isWrite, origin := o }) } ∧
             t.out = s.out ++ [.answer r.initiator true []] ∧
             t.status =
               { s.status with
                 due := t.status.due
                 events := s.status.events ||| Event.guard.mask
                 counters :=
                   (s.count (if r.isWrite then .blockedWrites else .blockedReads)).status.counters }) ∧
  (∀ p : PathUnit,
    (p.portOpen = true ↔ p.hold.length < 8 ∧ p.pass.length < 4) ∧
      ∀ i : BitVec 4, p.holds i = true ↔ ∃ h ∈ p.hold, h.request.initiator = i)

/-- A held leader whose deadline is reached joins the pass queue untapped, in front of whatever its chain
sends there; with no follower behind it and nothing waiting, it leaves the hold queue, one hold expiry is
counted, and nothing else changes. Its chain is worked in turn: a follower passes with its taps, is blocked,
expires in the same way if it would be held past its own deadline, or else becomes the leader and stays. -/
def Obligations.HoldExpiryForwardsUntapped : Prop :=
  (∀ (i : BitVec 4) (h : Held) (s : State), s.path.oldest i = some h → h.role = .leader →
    reached s.link.count h.deadline = true →
    ∃ (t : State) (more : List Passing), exec (.holdExpiry i) s = .next t ∧
      t.path.pass = s.path.pass ++ { request := h.request, taps := [] } :: more ∧
      SameCapture s t ∧ SameLink s t ∧ t.mbox = s.mbox ∧ t.straps = s.straps) ∧
  (∀ (i : BitVec 4) (h : Held) (s : State), s.path.waiting = [] →
    s.path.hold.filter (fun x => x.request.initiator == i) = [h] → h.role = .leader →
    reached s.link.count h.deadline = true →
    ∃ t, exec (.holdExpiry i) s = .next t ∧
      t.path =
        { s.path with
          hold := s.path.hold.filter (fun x => x.request.initiator != i)
          pass := s.path.pass ++ [{ request := h.request, taps := [] }] } ∧
      StatusCounts (s.count .holdExpiries) s t ∧ SameCapture s t ∧ SameLink s t ∧ SameOutside s t ∧
      t.mbox = s.mbox) ∧
  (∀ (i : BitVec 4) (h : Held) (s : State), s.path.waiting = [] → s.path.oldest i = some h →
    h.role = .leader → reached s.link.count h.deadline = true →
    ∃ due, exec (.holdExpiry i) s =
      .next
        { (s.expire h).workChain i with
          status := { ((s.expire h).workChain i).status with due } }) ∧
  (∀ (i : BitVec 4) (s : State), s.path.oldest i = none → s.workChain i = s) ∧
  (∀ (i : BitVec 4) (h : Held) (s : State), s.path.oldest i = some h →
    match s.classify h.request with
    | .hold =>
      if reached s.link.count h.deadline = true then s.workChain i = (s.expire h).workChain i
      else s.workChain i = s.promote i
    | .pass taps torn =>
      s.workChain i =
        (((s.leaveHold i).countBy .watchTornWords torn).joinPass h.request taps).workChain i
    | .block o => s.workChain i = ((s.leaveHold i).block h.request o).workChain i) ∧
  (∀ count deadline : FrameCount, reached count deadline = true ↔ (count - deadline).toNat < 2 ^ 31) ∧
  ((∀ (p : PathUnit) (i : BitVec 4),
     p.oldest i = p.hold.find? (fun h => decide (h.request.initiator = i))) ∧
   (∀ (i : BitVec 4) (h : Held) (earlier later : List Held) (s : State), s.path.hold = earlier ++ h :: later →
     h.request.initiator = i → (∀ x ∈ earlier, x.request.initiator ≠ i) →
     s.leaveHold i = { s with path := { s.path with hold := earlier ++ later } } ∧
       s.promote i =
         { s with path := { s.path with hold := earlier ++ { h with role := .leader } :: later } }) ∧
   (∀ (r : Request) (taps : List Tap) (s : State),
     s.joinPass r taps = { s with path := { s.path with pass := s.path.pass ++ [{ request := r, taps }] } }) ∧
   (∀ (h : Held) (s : State),
     s.expire h =
       ((s.leaveHold h.request.initiator).joinPass h.request []).count .holdExpiries) ∧
   (∀ (r : Request) (o : Origin) (s : State),
     s.block r o =
       { s with
         path :=
           { s.path with
             guard := some
               (s.path.guard.getD
                 { addr := r.addr, initiator := r.initiator, isWrite := r.isWrite, origin := o }) }
         status :=
           { s.status with
             events := s.status.events ||| Event.guard.mask
             counters := (s.count (if r.isWrite then .blockedWrites else .blockedReads)).status.counters }
         out := s.out ++ [.answer r.initiator true []] }))

/-- The arbiter grants the side that waits alone, and the other side than last time while both wait. A
grant of the pass queue forwards its head, whatever its tap set; with an empty tap set it records its side
and nothing else changes. A grant of the own side takes the head of EGRESS, or of OTHER when EGRESS is
empty, records its side, and nothing else changes. A tap set is carried out entry by entry, in its order; a
restart among the entries drops those after it. Each entry does what the row of its own does: a control word, a
launch, a frame mark, an index write, or a capture write, which is noted for the response. A launch or
acknowledge word covered in part is counted alone; a capture entry that would now be held, and a watch entry
whose address is now no watch word, do nothing. -/
def Obligations.ArbiterGrantsTheHead : Prop :=
  (∀ p : PathUnit,
     (p.pass = [] → p.egress = [] → p.other = [] → p.nextSide = none) ∧
     (p.pass ≠ [] → p.egress = [] → p.other = [] → p.nextSide = some .pass) ∧
     (p.pass = [] → (p.egress ≠ [] ∨ p.other ≠ []) → p.nextSide = some .own) ∧
     (p.pass ≠ [] → (p.egress ≠ [] ∨ p.other ≠ []) → p.lastSide = .own → p.nextSide = some .pass) ∧
     (p.pass ≠ [] → (p.egress ≠ [] ∨ p.other ≠ []) → p.lastSide = .pass → p.nextSide = some .own)) ∧
  (∀ (x : Passing) (rest : List Passing) (s : State), s.path.nextSide = some .pass →
    s.path.pass = x :: rest →
    ∃ (t : State) (more : List Output), exec .forwarding s = .next t ∧
      t.out = s.out ++ .forward x.request :: more) ∧
  ((∀ (x : Passing) (rest : List Passing) (s : State), s.path.nextSide = some .pass →
     s.path.pass = x :: rest → x.taps = [] → s.path.waiting = [] →
     ∃ t, exec .forwarding s = .next t ∧
       t.path =
         { s.path with
           pass := rest, lastSide := .pass
           forwarded := s.path.forwarded ++ [{ request := x.request, applied := none, discard := false }] } ∧
       t.out = s.out ++ [.forward x.request] ∧ SameCapture s t ∧ SameLink s t ∧ SameStatus s t ∧
       t.mbox = s.mbox) ∧
   (∀ (q : OwnRequest) (rest : List OwnRequest) (s : State), s.path.nextSide = some .own →
     (s.path.egress = q :: rest ∨ (s.path.egress = [] ∧ s.path.other = q :: rest)) →
     ∃ t, exec .ownRequestGrant s = .next t ∧
       t.path =
         { s.path with
           egress := s.path.egress.tail
           other := if s.path.egress = [] then rest else s.path.other
           lastSide := .own
           ownOut := s.path.ownOut ++ [q] } ∧
       t.out = s.out ++ [.own q.owner q.addr q.access] ∧ SameCapture s t ∧ SameLink s t ∧
       SameStatus s t ∧ t.mbox = s.mbox)) ∧
  ((∀ (x : Passing) (rest : List Passing) (s : State), s.path.nextSide = some .pass →
     s.path.pass = x :: rest → s.path.waiting = [] →
     let granted : State :=
       { s with
         path :=
           { s.path with
             pass := rest, lastSide := .pass
             forwarded :=
               s.path.forwarded ++ [{ request := x.request, applied := none, discard := false }] }
         out := s.out ++ [.forward x.request] }
     ∃ due, exec .forwarding s = .next ((runTaps x.request x.taps granted).withDue due)) ∧
   (∀ (r : Request) (s : State), runTaps r [] s = s) ∧
   (∀ (r : Request) (tap : Tap) (rest : List Tap) (s : State), ∃ due,
     runTaps r (tap :: rest) s =
       if ((s.runTap r tap).withDue due).path.mode = .initializing then (s.runTap r tap).withDue due
       else runTaps r rest ((s.runTap r tap).withDue due))) ∧
  ((∀ (r : Request) (i : Fin 8) (v : Option Word) (s : State), s.path.mode = .ready →
     ∃ due, exec (.parameterWordWrite i v) s = .next ((s.runTap r (.control (.param i) v)).withDue due)) ∧
   (∀ (r : Request) (v : Word) (s : State), s.path.mode = .ready →
     ∃ due, exec (.acknowledge v) s = .next ((s.runTap r (.control .acknowledge (some v))).withDue due)) ∧
   (∀ (r : Request) (c : Instr) (v : Word) (s : State),
     launchOf c = some (launchCode v, launchCount v, launchTag v) → c.wf = true →
     (∀ op other, rowOperation c = some op → linkOperation s.mbox.params = some other →
       s.mbox.running = none → launchCount v = 1 → s.mbox.anyStale 1 = false → other = op) →
     ∃ due, exec c s = .next ((s.runTap r (.control .launch (some v))).withDue due)) ∧
   (∀ (r : Request) (v : Word) (s : State), launchCode v = 0 →
     s.runTap r (.control .launch (some v)) = s) ∧
   (∀ (r : Request) (s : State),
     s.runTap r (.control .launch none) = s.count .mailboxTornWords ∧
       s.runTap r (.control .acknowledge none) = s.count .mailboxTornWords)) ∧
  ((∀ (r : Request) (a : Nat) (v : Word) (s : State), s.path.waiting = [] →
     s.tracker.stream.state ≠ .closed → a = s.tracker.stream.markWord →
     ∃ due, exec (.frameMark a v) s = .next ((s.runTap r (.watch a v)).withDue due)) ∧
   (∀ (r : Request) (a : Nat) (v : Word) (q : Fin 4) (s : State),
     (s.tracker.stream.state = .closed ∨ a ≠ s.tracker.stream.markWord) →
     (s.rings.outbound[q]).state ≠ .unbound → (s.rings.outbound[q]).producerWord = some a →
     (∀ p : Fin 4, p < q →
       ¬ ((s.rings.outbound[p]).state ≠ .unbound ∧ (s.rings.outbound[p]).producerWord = some a)) →
     ∃ due, exec (.producerIndexWrite q v) s = .next ((s.runTap r (.watch a v)).withDue due)) ∧
   (∀ (r : Request) (a : Nat) (v : Word) (q : Fin 2) (s : State),
     (s.tracker.stream.state = .closed ∨ a ≠ s.tracker.stream.markWord) →
     (∀ p : Fin 4,
       ¬ ((s.rings.outbound[p]).state ≠ .unbound ∧ (s.rings.outbound[p]).producerWord = some a)) →
     (s.rings.inbound[q]).state ≠ .unbound → (s.rings.inbound[q]).consumerWord = some a →
     (∀ p : Fin 2, p < q →
       ¬ ((s.rings.inbound[p]).state ≠ .unbound ∧ (s.rings.inbound[p]).consumerWord = some a)) →
     ∃ due, exec (.consumerIndexWrite q v) s = .next ((s.runTap r (.watch a v)).withDue due)) ∧
   (∀ (r : Request) (a : Nat) (v : Word) (s : State), a ∉ s.watchWords →
     s.runTap r (.watch a v) = s)) ∧
  ((∀ (r : Request) (w : Fin 32) (k : Fin 6) (s : State), r.wfWrite = true →
     ∃ due, exec (.captureWrite w k r) s =
       .next { (s.runTap r (.capture w k)).withDue due with path := s.path }) ∧
   (∀ (r : Request) (w : Fin 32) (k : Fin 6) (earlier : List Forwarded) (f : Forwarded)
     (frame : FrameNumber) (slot : Fin 4) (line b i : Nat) (s : State),
     s.path.forwarded = earlier ++ [f] → f.applied = none → s.tracker.stream.state ≠ .closed →
     s.tracker.stream.windows[k.val]? = some w →
     s.tracker.mapWrite s.map.windows[w] r.addr = .line frame slot line b →
     s.tracker.indexOf frame slot = some i → 0 ≤ s.tracker.position i line →
     ((48 : Int) ≤ s.tracker.position i line → s.runTap r (.capture w k) = s) ∧
     (s.tracker.position i line < 48 →
       ∀ id, ((∃ e, s.stitch.find frame slot line = some e ∧ e.state.settled = false ∧ id = e.id) ∨
           (s.stitch.find frame slot line = none ∧ id = s.stitch.nextEntry)) →
         (s.runTap r (.capture w k)).path =
           { s.path with forwarded := earlier ++ [{ f with applied := some { entry := id, position := k } }] }))) ∧
  (∀ v : Word, (launchCode v).toNat = v.toNat % 256 ∧ (launchCount v).toNat = v.toNat / 2 ^ 8 % 16 ∧
    (launchTag v).toNat = v.toNat / 2 ^ 16 % 256)

/-- The response to a forwarded request goes to its initiator as it stands; an ERROR on a capture write
that was applied damages its segment, and nothing else happens in the part. Where the entry is gone or the
segment is DAMAGED already nothing changes; an unsettled entry settles once every segment has come to an
end, and a settled one is judged again on its segments. -/
def Obligations.ResponseReturnedAndErrorDamages : Prop :=
  ∀ (k : Nat) (error : Bool) (data : List Byte) (f : Forwarded) (rest : List Forwarded) (s : State),
    takeNth (fun _ => true) k s.path.forwarded = some (f, rest) → f.discard = false →
    ∃ t, exec (.downstreamResponse k error data) s = .next t ∧
      t.path = { s.path with forwarded := rest } ∧
      t.out = s.out ++
        [.answer f.request.initiator error (if f.request.isWrite || error then [] else data)] ∧
      t.map = s.map ∧ t.tracker = s.tracker ∧ SameLink s t ∧ t.mbox = s.mbox ∧ t.straps = s.straps ∧
      (if error = false then t.stitch = s.stitch ∧ SameStatus s t
       else
         match f.applied with
         | none => t.stitch = s.stitch ∧ SameStatus s t
         | some a =>
           match s.stitch.entries.find? (fun x => x.id == a.entry) with
           | none => t.stitch = s.stitch ∧ SameStatus s t
           | some e =>
             if (e.segment a.position).state = .damaged then t.stitch = s.stitch ∧ SameStatus s t
             else
               let gs := e.segments.set a.position.val { e.segment a.position with state := .damaged }
               StatusCounts (s.count (.damagedSegments a.position)) s t ∧
                 t.stitch =
                   { s.stitch with
                     entries := s.stitch.entries.map (fun x =>
                       if x.id = e.id then
                         { e with
                           segments := gs
                           deadline :=
                             if e.state.settled = false ∧ gs.all Segment.ended = true then none
                             else e.deadline
                           state :=
                             if e.state.settled then
                               if e.state = .absent then .absent
                               else if gs.any Segment.isFull then .torn else .absent
                             else if gs.all Segment.ended then
                               if gs.all Segment.isFull then .whole
                               else if gs.any Segment.isFull then .torn else .absent
                             else e.state }
                       else x) })

/-- The acceptance of an own write raises MEMERR when it was answered ERROR, CMD_DONE for a final result
word, and lowers the count of what it belongs to: a landing, whose last write sets the ACK; a return buffer,
whose last write issues a done word that is due; a snapshot, which completes with the last write of index
58. A write issued before a reset changes nothing. (A lines count beyond 16 bits in a done word is a free
value, log entry 14.) -/
def Obligations.OwnWriteAcceptanceActs : Prop :=
  (∀ (k : Nat) (error : Bool) (q : OwnRequest) (rest : List OwnRequest) (s : State),
    takeNth (fun x => !x.isRead) k s.path.ownOut = some (q, rest) → q.live = false →
    ∃ t, exec (.ownWriteAccepted k error) s = .next t ∧ t.path = { s.path with ownOut := rest } ∧
      SameCapture s t ∧ SameLink s t ∧ SameOutside s t ∧ SameStatus s t ∧ t.mbox = s.mbox) ∧
  (∀ (k : Nat) (error : Bool) (q : OwnRequest) (rest : List OwnRequest) (s : State),
    takeNth (fun x => !x.isRead) k s.path.ownOut = some (q, rest) → q.live = true →
    ∃ t, exec (.ownWriteAccepted k error) s = .next t ∧ t.path.ownOut = rest ∧ SameCapture s t ∧
      t.sched = s.sched ∧ t.link = s.link ∧ t.rings.outbound = s.rings.outbound ∧
      t.status.counters = s.status.counters ∧ t.status.enable = s.status.enable ∧
      (error = true → t.eventPending .memErr = true) ∧
      (q.owner = .resultWord true → t.eventPending .cmdDone = true) ∧
      ((∀ r n, q.owner ≠ .landing r n) → t.rings.inbound = s.rings.inbound) ∧
      ((∀ b n, q.owner ≠ .returnLanding b n) → t.rings.ret = s.rings.ret) ∧
      (q.owner ≠ .snapshot → t.mbox = s.mbox ∧ t.status.snapshot = s.status.snapshot) ∧
      (∀ (r : Fin 2) (serial left : Nat) (ack : Option Bool), q.owner = .landing r serial →
        (s.rings.inbound[r]).landing = .inProgress serial left ack →
        t.path.other = s.path.other ∧
          t.rings.inbound[r] =
            if left ≤ 1 then
              { s.rings.inbound[r] with
                landing := .idle
                toSend :=
                  match ack with
                  | some toggle => .ack toggle
                  | none => (s.rings.inbound[r]).toSend }
            else { s.rings.inbound[r] with landing := .inProgress serial (left - 1) ack }) ∧
      (∀ (sel : Bool) (serial : Nat), q.owner = .returnLanding sel serial →
        if s.rings.ret.bound = true ∧ s.rings.ret.serial = serial then
          t.rings.ret.buffer (!sel) = s.rings.ret.buffer (!sel) ∧
            match (s.rings.ret.buffer sel).due, s.rings.ret.doneWord with
            | some (frame, lines), some a =>
              if (s.rings.ret.buffer sel).left ≤ 1 then
                t.rings.ret.buffer sel = { s.rings.ret.buffer sel with left := 0, due := none } ∧
                  t.path.other = s.path.other ++ [s.doneWrite sel frame lines a]
              else
                t.rings.ret.buffer sel =
                    { s.rings.ret.buffer sel with left := (s.rings.ret.buffer sel).left - 1 } ∧
                  t.path.other = s.path.other
            | _, _ =>
              t.rings.ret.buffer sel =
                  { s.rings.ret.buffer sel with left := (s.rings.ret.buffer sel).left - 1 } ∧
                t.path.other = s.path.other
        else t.rings.ret = s.rings.ret ∧ t.path.other = s.path.other) ∧
      (∀ n : Snapshot, q.owner = .snapshot → s.status.snapshot = some n →
        if n.next = 59 ∧ n.left ≤ 1 then
          t.status.snapshot = none ∧
            ∀ tag, s.mbox.running = some { code := Command.snapshotCounters.code, tag } →
              t.mbox = { s.mbox with running := none } ∧
                t.path.other =
                  s.path.other ++
                    finalWrites s Command.snapshotCounters.code tag .noError s.mbox.staging.toList
        else
          t.status.snapshot = some { n with left := n.left - 1 } ∧ t.mbox = s.mbox ∧
            t.path.other = s.path.other)) ∧
  ((∀ (α : Type) (p : α → Bool) (k : Nat) (l : List α) (x : α) (rest : List α),
     takeNth p k l = some (x, rest) ↔
       ∃ before after, l = before ++ x :: after ∧ rest = before ++ after ∧ p x = true ∧
         (before.filter p).length = k) ∧
   (∀ q : OwnRequest, q.isRead = true ↔ ∃ n, q.access = .read n))

/-! ### Frames and segments, the stitch table -/

/-- A capture write that is stray, unframed, late, or at position 48 or beyond moves its counter alone. One
taken while the stream is CLOSED, or whose window no longer stands at its segment position, changes nothing. The
slot is the offset div the stride, the line the remainder div the pitch and the byte the remainder mod the
pitch; the write is stray where the slot is not below the slot count, the line not below the lines or the byte
not below the segment length, unframed where the slot has no frame, and else maps to its line. (That the offset
is taken modulo 2^40 is the model's choice, log entry 16.) The position of a line is the list index of its frame
times the lines, plus the line, less the head frame's cursor. -/
def Obligations.CaptureWriteSortedOut : Prop :=
  (∀ (w : Fin 32) (k : Fin 6) (r : Request) (s : State), r.wfWrite = true → s.tracker.stream.isOpen = true →
     s.tracker.stream.windows[k.val]? = some w →
     ∃ t, exec (.captureWrite w k r) s = .next t ∧ t.path = s.path ∧ t.map = s.map ∧
       t.tracker = s.tracker ∧ SameLink s t ∧ SameOutside s t ∧ t.mbox = s.mbox ∧
       match s.tracker.mapWrite s.map.windows[w] r.addr with
       | .stray => t.stitch = s.stitch ∧ StatusCounts (s.count (.strayWrites k)) s t
       | .unframed => t.stitch = s.stitch ∧ StatusCounts (s.count .unframedWrites) s t
       | .line f slot line _ =>
         match s.tracker.indexOf f slot with
         | none => t.stitch = s.stitch ∧ StatusCounts (s.count (.lateWrites k)) s t
         | some i =>
           if s.tracker.position i line < 0 then
             t.stitch = s.stitch ∧ StatusCounts (s.count (.lateWrites k)) s t
           else if (48 : Int) ≤ s.tracker.position i line then t.stitch = s.stitch ∧ SameStatus s t
           else
             match s.stitch.find f slot line with
             | some e =>
               e.state.settled = true → t.stitch = s.stitch ∧ StatusCounts (s.count (.lateWrites k)) s t
             | none => t.stitch.nextEntry = s.stitch.nextEntry + 1) ∧
  (∀ (w : Fin 32) (k : Fin 6) (r : Request) (s : State), r.wfWrite = true →
    (s.tracker.stream.state = .closed ∨ s.tracker.stream.windows[k.val]? ≠ some w) →
    exec (.captureWrite w k r) s = .next s) ∧
  (∀ (t : Tracker) (w : Window) (a : Addr),
    let offset := (a.toNat + 2 ^ 40 - w.base) % 2 ^ 40
    let slot := offset / w.stride
    let rest := offset % w.stride
    let line := rest / w.pitch
    let b := rest % w.pitch
    ((t.stream.slotCount ≤ slot ∨ 4 ≤ slot ∨ t.stream.lines ≤ line ∨ w.segLen ≤ b) →
      t.mapWrite w a = .stray) ∧
    (∀ i : Fin 4, i.val = slot → slot < t.stream.slotCount → line < t.stream.lines → b < w.segLen →
      match (t.slots[i]).frame with
      | none => t.mapWrite w a = .unframed
      | some f => t.mapWrite w a = .line f i line b)) ∧
  (∀ (t : Tracker) (frame : FrameNumber) (slot : Fin 4) (i : Nat),
    t.indexOf frame slot = some i ↔
      (∃ f, t.frames[i]? = some f ∧ f.frame = frame ∧ f.slot = slot) ∧
        ∀ (j : Nat) (f : FrameRecord), j < i → t.frames[j]? = some f →
          ¬ (f.frame = frame ∧ f.slot = slot)) ∧
  (∀ (t : Tracker) (i line : Nat),
    t.position i line =
      (i : Int) * (t.stream.lines : Int) + (line : Int) -
        (match t.frames with
         | [] => 0
         | f :: _ => (f.cursor : Int))) ∧
  (∀ t : Stream, t.isOpen = true ↔ t.state ≠ .closed)

/-- A capture write of an unsettled line in the window fills its segment in sequence or damages it, and
the entry settles once every segment has come to an end; a line in the window with no entry gets one, LIVE,
with its deadline the stitch timeout ahead, and the write is applied to it. -/
def Obligations.CaptureWriteApplied : Prop :=
  (∀ (w : Fin 32) (k : Fin 6) (r : Request) (f : FrameNumber) (slot : Fin 4) (line b i : Nat)
    (e : LineEntry) (s : State), r.wfWrite = true → s.tracker.stream.isOpen = true →
    s.tracker.stream.windows[k.val]? = some w →
    s.tracker.mapWrite s.map.windows[w] r.addr = .line f slot line b →
    s.tracker.indexOf f slot = some i → 0 ≤ s.tracker.position i line → s.tracker.position i line < 48 →
    s.EntriesDistinct → e.state.settled = false →
    (s.stitch.find f slot line = some e ∨
      (s.stitch.find f slot line = none ∧
        e =
          { id := s.stitch.nextEntry, frame := f, slot, line, state := .live
            deadline := some (s.link.count + BitVec.ofNat 32 s.tracker.stream.timeout)
            segments := s.tracker.stream.windows.map (fun _ => { state := .empty, mark := 0 }) })) →
    let gs := e.segments.set k.val ((e.segment k).write (s.map.windows[w]).segLen b r.size).1
    let e' : LineEntry :=
      { e with
        segments := gs
        deadline := if gs.all Segment.ended then none else e.deadline
        state :=
          if gs.all Segment.ended then
            if gs.all Segment.isFull then .whole else if gs.any Segment.isFull then .torn else .absent
          else .live }
    ∃ t : State, exec (.captureWrite w k r) s = .next t ∧
      t.stitch =
        (if s.stitch.find f slot line = none then
          { entries := s.stitch.entries ++ [e'], nextEntry := s.stitch.nextEntry + 1 }
         else
          { s.stitch with entries := s.stitch.entries.map (fun x => if x.id = e.id then e' else x) }) ∧
      t.path = s.path ∧ t.map = s.map ∧ t.tracker = s.tracker ∧ SameLink s t ∧ SameOutside s t ∧
      t.mbox = s.mbox ∧
      match ((e.segment k).write (s.map.windows[w]).segLen b r.size).2 with
      | .damaged => StatusCounts (s.count (.damagedSegments k)) s t
      | .rewrite => StatusCounts (s.count (.rewrites k)) s t
      | .filled | .nothing => SameStatus s t) ∧
  (∀ (g : Segment) (len b n : Nat),
    g.write len b n =
      match g.state with
      | .full => (g, .rewrite)
      | .damaged => (g, .nothing)
      | _ =>
        if b ≠ g.mark ∨ len < b + n then ({ g with state := .damaged }, .damaged)
        else if b + n = len then ({ state := .full, mark := b + n }, .filled)
        else ({ state := .filling, mark := b + n }, .filled)) ∧
  ((∀ g : Segment, (g.isFull = true ↔ g.state = .full) ∧
     (g.ended = true ↔ g.state = .full ∨ g.state = .damaged)) ∧
   (∀ x : EntryState, x.settled = true ↔ x = .whole ∨ x = .torn ∨ x = .absent) ∧
   (∀ (e : LineEntry) (k : Fin 6) (g : Segment), e.segments[k.val]? = some g → e.segment k = g) ∧
   (∀ (u : StitchUnit) (frame : FrameNumber) (slot : Fin 4) (line : Nat),
     u.find frame slot line =
       u.entries.find? (fun e => decide (e.frame = frame ∧ e.slot = slot ∧ e.line = line))))

/-- An unsettled entry whose deadline is reached settles TORN if a segment is FULL and ABSENT if none is;
its segments stay as they are and its deadline is gone. -/
def Obligations.StitchDeadlineSettles : Prop :=
  ∀ (slot : Fin 4) (line : Nat) (e : LineEntry) (d : FrameCount) (s : State),
    s.stitch.entries.find? (fun x => x.slot == slot && x.line == line) = some e →
    e.state.settled = false → e.deadline = some d → reached s.link.count d = true →
    ∃ t, exec (.stitchDeadline slot line) s = .next t ∧
      t.stitch =
        { s.stitch with
          entries := s.stitch.entries.map (fun x =>
            if x.id = e.id then
              { e with
                state := if e.segments.any Segment.isFull then .torn else .absent
                deadline := none }
            else x) } ∧
      t.path = s.path ∧ t.map = s.map ∧ t.tracker = s.tracker ∧ SameLink s t ∧ SameOutside s t ∧
      SameStatus s t ∧ t.mbox = s.mbox

/-- A mark whose slot index is equal to or greater than the slot count counts *bad marks* and changes
nothing else; one below goes on to the sequence test (R40). A mark whose number is not ahead of the newest
accepted number counts *stale marks* alone; with no number accepted every mark passes; the newest number is
that of the last mark accepted, and no release, drop or other command moves it (R41). Before them stand three
rows of R39: a mark while the stream is CLOSED, or at an address that is no longer its mark word, is ignored and
counted nowhere, and one while DRAINING counts *bad marks* alone. -/
def Obligations.MarksJudgedInOrder : Prop :=
  (∀ (value : Word) (s : State), s.tracker.stream.state = .openState → s.path.waiting = [] →
     ∃ t, exec (.frameMark s.tracker.stream.markWord value) s = .next t ∧
       (s.tracker.stream.slotCount ≤ bits value 23 16 →
         StatusCounts (s.count .badMarks) s t ∧ t.path = s.path ∧ SameCapture s t ∧ SameLink s t ∧
           SameOutside s t ∧ t.mbox = s.mbox) ∧
       (bits value 23 16 < s.tracker.stream.slotCount → bits value 23 16 < 4 →
         t.counter .badMarks = s.counter .badMarks ∧
           ((∃ n, s.tracker.newest = some n ∧ aheadOf (BitVec.ofNat 16 (bits value 15 0)) n = false) →
             t.counter .staleMarks = saturate (s.counter .staleMarks) 1))) ∧
  ((∀ (value : Word) (n : FrameNumber) (s : State), s.tracker.stream.state = .openState →
     s.path.waiting = [] → bits value 23 16 < s.tracker.stream.slotCount → s.tracker.newest = some n →
     aheadOf (BitVec.ofNat 16 (bits value 15 0)) n = false →
     ∃ t, exec (.frameMark s.tracker.stream.markWord value) s = .next t ∧
       StatusCounts (s.count .staleMarks) s t ∧ t.path = s.path ∧ SameCapture s t ∧ SameLink s t ∧
       SameOutside s t ∧ t.mbox = s.mbox) ∧
   (∀ (value : Word) (s : State), s.tracker.stream.state = .openState →
     bits value 23 16 < s.tracker.stream.slotCount → bits value 23 16 < 4 →
     (∀ n, s.tracker.newest = some n → aheadOf (BitVec.ofNat 16 (bits value 15 0)) n = true) →
     ∃ t, exec (.frameMark s.tracker.stream.markWord value) s = .next t ∧
       t.tracker.newest = some (BitVec.ofNat 16 (bits value 15 0))) ∧
   (∀ (c : Instr) (s t : State), exec c s = .next t → mayReset c = false → mayLaunch c = false →
     (∀ a v, c ≠ .frameMark a v) → t.tracker.newest = s.tracker.newest)) ∧
  ((∀ (a : Nat) (value : Word) (s : State), s.path.waiting = [] →
     (s.tracker.stream.state = .closed ∨ a ≠ s.tracker.stream.markWord) →
     exec (.frameMark a value) s = .next s) ∧
   (∀ (value : Word) (s : State), s.path.waiting = [] → s.tracker.stream.state = .draining →
     ∃ t, exec (.frameMark s.tracker.stream.markWord value) s = .next t ∧
       StatusCounts (s.count .badMarks) s t ∧ t.path = s.path ∧ SameCapture s t ∧ SameLink s t ∧
       SameOutside s t ∧ t.mbox = s.mbox)) ∧
  (∀ a b : FrameNumber, aheadOf a b = true ↔ 1 ≤ (a - b).toNat ∧ (a - b).toNat ≤ 32767)

/-- An accepted mark on a slot that is not pinned gives the slot its frame with every line unfinished and
appends the frame at the tail of the list; on an empty list its line 0 becomes the head line. Where the
slot's frame has finished its last line and only its FRAME_END is due, that FRAME_END is taken first and
nothing is dropped (the model's reading of R43, R45 and R69, log entry 40). -/
def Obligations.MarkAcceptedOnFreeSlot : Prop :=
  (∀ (value : Word) (i : Fin 4) (frame : FrameNumber) (s : State), s.tracker.stream.state = .openState →
    s.path.waiting = [] → i.val = bits value 23 16 → frame = BitVec.ofNat 16 (bits value 15 0) →
    i.val < s.tracker.stream.slotCount → (∀ n, s.tracker.newest = some n → aheadOf frame n = true) →
    (s.tracker.slots[i]).unfinished = 0 → (∀ f ∈ s.tracker.frames, f.slot ≠ i) →
    0 < s.tracker.stream.lines →
    ∃ t, exec (.frameMark s.tracker.stream.markWord value) s = .next t ∧
      t.tracker =
        { s.tracker with
          slots := s.tracker.slots.set i { frame := some frame, unfinished := s.tracker.stream.lines }
          frames := s.tracker.frames ++
            [{ frame, slot := i, cursor := 0, whole := 0, torn := 0, absent := 0 }]
          newest := some frame } ∧
      (s.tracker.frames = [] → s.stitch.find frame i 0 = none →
        t.stitch.entries = s.stitch.entries ++
          [{ id := s.stitch.nextEntry, frame, slot := i, line := 0, state := .openState
             deadline := some (s.link.count + BitVec.ofNat 32 s.tracker.stream.timeout)
             segments := s.tracker.stream.windows.map (fun _ => { state := .empty, mark := 0 }) }]) ∧
      t.path = s.path ∧ t.map = s.map ∧ SameLink s t ∧ SameOutside s t ∧ SameStatus s t ∧
      t.mbox = s.mbox) ∧
  (∀ (value : Word) (i : Fin 4) (frame : FrameNumber) (f : FrameRecord) (rest : List FrameRecord)
    (s : State), s.tracker.stream.state = .openState → i.val = bits value 23 16 →
    frame = BitVec.ofNat 16 (bits value 15 0) → i.val < s.tracker.stream.slotCount →
    (∀ n, s.tracker.newest = some n → aheadOf frame n = true) → s.tracker.frames = f :: rest →
    f.slot = i → (∀ g ∈ rest, g.slot ≠ i) →
    s.tracker.slots[i] = { frame := some f.frame, unfinished := 0 } →
    f.cursor = s.tracker.stream.lines → s.sched.queue.length < 16 →
    ∃ t, exec (.frameMark s.tracker.stream.markWord value) s = .next t ∧
      t.tracker =
        { s.tracker with
          slots := s.tracker.slots.set i { frame := some frame, unfinished := s.tracker.stream.lines }
          frames := rest ++ [{ frame, slot := i, cursor := 0, whole := 0, torn := 0, absent := 0 }]
          newest := some frame } ∧
      t.sched.queue =
        (if s.link.state = .up then
          s.sched.queue ++ [{ id := s.sched.nextJob, frame := f.frame, slot := i,
                              body := .frameEnd f.whole f.torn f.absent, placing := .waiting }]
         else s.sched.queue) ∧
      t.counter .framesDropped = s.counter .framesDropped ∧ t.link = s.link ∧ t.map = s.map ∧
      t.rings = s.rings ∧ t.mbox = s.mbox)

/-- An accepted mark on a pinned slot drops the slot's frame: its entries and jobs go, its pieces with a fetch
in flight are poisoned, and the drop is counted, raised and reported to the base. The entries of the other
frames stay as they were, and the line that is head then keeps its entry or gets one OPEN. If the frame was on
the list the held leaders are classified afresh, against the list with the new frame on it. -/
def Obligations.MarkOnPinnedSlotDropsFrame : Prop :=
  (∀ (value : Word) (i : Fin 4) (old frame : FrameNumber) (s : State),
     s.tracker.stream.state = .openState → i.val = bits value 23 16 →
     frame = BitVec.ofNat 16 (bits value 15 0) → i.val < s.tracker.stream.slotCount →
     (∀ n, s.tracker.newest = some n → aheadOf frame n = true) → old ≠ frame →
     (s.tracker.slots[i]).frame = some old → 0 < (s.tracker.slots[i]).unfinished →
     ∃ t, exec (.frameMark s.tracker.stream.markWord value) s = .next t ∧
       t.tracker.slots[i] = { frame := some frame, unfinished := s.tracker.stream.lines } ∧
       t.tracker.frames =
         s.tracker.frames.filter (fun f => !(f.frame == old && f.slot == i)) ++
           [{ frame, slot := i, cursor := 0, whole := 0, torn := 0, absent := 0 }] ∧
       (∀ e ∈ t.stitch.entries, ¬ (e.frame = old ∧ e.slot = i)) ∧
       t.stitch.entries =
         s.headOpened (s.stitch.entries.filter (fun e => !(e.frame == old && e.slot == i))) t.tracker.frames ∧
       t.sched.queue = s.sched.queue.filter (fun j => !(j.frame == old && j.slot == i)) ∧
       t.sched.window =
         s.sched.window.map (fun p =>
           if p.body.ofFrame old i && decide (p.fetch = .pending) then { p with poison := true } else p) ∧
       t.counter .framesDropped = saturate (s.counter .framesDropped) 1 ∧
       t.counter .linesDroppedByOverrun =
         saturate (s.counter .linesDroppedByOverrun) (s.tracker.slots[i]).unfinished ∧
       t.eventPending .frameDropped = true ∧
       t.link = { s.link with lastDropped := old, dropCount := s.link.dropCount + 1, dropRepeat := 4 } ∧
       t.rings = s.rings ∧ t.map = s.map ∧ t.mbox = s.mbox ∧
       (s.path.waiting = [] →
         t.path =
           if s.tracker.indexOf old i = none then s.path
           else ({ s with tracker := t.tracker } : State).reclassify.path)) ∧
  (∀ (body : ParcelBody) (frame : FrameNumber) (slot : Fin 4),
    body.ofFrame frame slot =
      match body with
      | .piece _ f i _ _ _ _ _ _ _ _ => decide (f = frame ∧ i = slot)
      | .absentRun _ f i _ _ => decide (f = frame ∧ i = slot)
      | .frameEnd _ f i _ _ _ => decide (f = frame ∧ i = slot)
      | .ring _ _ _ _ _ _ _ => false)

/-- RELEASE turns a settled head entry into a job at the tail of the video queue, or sinks the job while
the link is not UP, whose lines then finish: the unfinished count of the frame's slot goes down by the lines the
cursor passes. It moves the cursor past what it released, whose entries leave the table; the next line of
the frame becomes the head line, with the entry it has or a new OPEN one. The cursor advance classifies the held
leaders afresh, oldest first: one that is held again keeps its place, one that passes or is blocked leaves,
and its chain is worked. The present set of a LINE job is the positions whose segments are FULL, ascending. -/
def Obligations.ReleaseAppendsOneJob : Prop :=
  (∀ s : State,
    s.reclassify =
      ((s.path.hold.filter (fun h => decide (h.role = .leader))).map (fun h => h.request.initiator)).foldl
        (fun u i => u.reclassifyLeader i) s) ∧
  (∀ (i : BitVec 4) (h : Held) (s : State), s.path.oldest i = some h →
    s.reclassifyLeader i =
      match s.classify h.request with
      | .hold => s
      | .pass taps torn =>
        (((s.leaveHold i).countBy .watchTornWords torn).joinPass h.request taps).workChain i
      | .block o => ((s.leaveHold i).block h.request o).workChain i) ∧
  (∀ (f : FrameRecord) (rest : List FrameRecord) (e : LineEntry) (s : State),
    s.tracker.frames = f :: rest → s.stitch.find f.frame f.slot f.cursor = some e →
    e.state.settled = true → f.cursor < s.tracker.stream.lines → s.sched.queue.length < 16 →
    ∃ (t : State) (body : JobBody) (f' : FrameRecord), exec .release s = .next t ∧
      t.tracker.frames = f' :: rest ∧ f'.frame = f.frame ∧ f'.slot = f.slot ∧
      t.stitch.find f.frame f.slot f.cursor = none ∧
      t.stitch.entries =
        s.headOpened
          (s.stitch.entries.filter (fun e =>
            !(e.frame == f.frame && e.slot == f.slot && decide (f.cursor ≤ e.line) &&
              decide (e.line < f'.cursor))))
          (f' :: rest) ∧
      t.sched.queue =
        (if s.link.state = .up then
          s.sched.queue ++ [{ id := s.sched.nextJob, frame := f.frame, slot := f.slot, body,
                              placing := .waiting }]
         else s.sched.queue) ∧
      t.tracker =
        { s.tracker with
          frames := f' :: rest
          slots :=
            if s.link.state = .up ∨ (s.tracker.slots[f.slot]).frame ≠ some f.frame then s.tracker.slots
            else
              s.tracker.slots.set f.slot
                { s.tracker.slots[f.slot] with
                  unfinished := (s.tracker.slots[f.slot]).unfinished - (f'.cursor - f.cursor) } } ∧
      (s.link.state ≠ .up → t.counter .jobsSunk = saturate (s.counter .jobsSunk) 1) ∧
      t.map = s.map ∧ t.rings = s.rings ∧ t.link = s.link ∧ t.mbox = s.mbox ∧
      (e.state = .whole →
        body = .line e.line .whole e.present (e.present.headD 0) 0 ∧ f'.cursor = f.cursor + 1 ∧
          f'.whole = f.whole + 1 ∧ f'.torn = f.torn ∧ f'.absent = f.absent ∧
          t.counter .linesWhole = saturate (s.counter .linesWhole) 1) ∧
      (e.state = .torn →
        body = .line e.line .torn e.present (e.present.headD 0) 0 ∧ f'.cursor = f.cursor + 1 ∧
          f'.whole = f.whole ∧ f'.torn = f.torn + 1 ∧ f'.absent = f.absent ∧
          t.counter .linesTorn = saturate (s.counter .linesTorn) 1) ∧
      (e.state = .absent →
        ∃ n, 1 ≤ n ∧ f.cursor + n ≤ s.tracker.stream.lines ∧ body = .absentRun f.cursor n ∧
          f'.cursor = f.cursor + n ∧ f'.whole = f.whole ∧ f'.torn = f.torn ∧ f'.absent = f.absent + n ∧
          t.counter .linesAbsent = saturate (s.counter .linesAbsent) n ∧
          (∀ l, f.cursor < l → l < f.cursor + n → ∀ x, s.stitch.find f.frame f.slot l = some x →
            x.state = .openState) ∧
          (f.cursor + n < s.tracker.stream.lines →
            ∃ x, s.stitch.find f.frame f.slot (f.cursor + n) = some x ∧ x.state ≠ .openState)) ∧
      (s.path.waiting = [] →
        t.path = ({ s with tracker := { s.tracker with frames := f' :: rest } } : State).reclassify.path)) ∧
  (∀ e : LineEntry, e.present.Pairwise (· < ·) ∧
    ∀ k : Fin 6, k ∈ e.present ↔ ∃ g, e.segments[k.val]? = some g ∧ g.state = .full)

/-- A head frame whose cursor stands at the lines per frame leaves the list with a FRAME_END job that carries
its counts, the next frame's head line has an entry, and the held leaders are classified afresh against the list
without it. Where that leaves a DRAINING stream with an empty list and an empty video queue, the drain ends: the
stream is CLOSED, STREAM_CLOSED is raised, and CLOSE STREAM completes. (That the leaders are classified before
the drain ends is the model's choice, log entry 45.) -/
def Obligations.FrameEndClosesHeadFrame : Prop :=
  ∀ (f : FrameRecord) (rest : List FrameRecord) (s : State), s.tracker.frames = f :: rest →
    f.cursor = s.tracker.stream.lines → s.sched.queue.length < 16 →
    ∃ t, exec .frameEnd s = .next t ∧ t.tracker.frames = rest ∧
      t.sched.queue =
        (if s.link.state = .up then
          s.sched.queue ++ [{ id := s.sched.nextJob, frame := f.frame, slot := f.slot,
                              body := .frameEnd f.whole f.torn f.absent, placing := .waiting }]
         else s.sched.queue) ∧
      (s.link.state ≠ .up → t.counter .jobsSunk = saturate (s.counter .jobsSunk) 1) ∧
      t.map = s.map ∧ t.rings = s.rings ∧ t.link = s.link ∧
      t.stitch.entries = s.headOpened s.stitch.entries rest ∧
      (s.path.waiting = [] →
        t.path =
          { ({ s with tracker := { s.tracker with frames := rest } } : State).reclassify.path with
            other := t.path.other }) ∧
      (if s.tracker.stream.state = .draining ∧ rest = [] ∧ t.sched.queue = [] then
        t.tracker =
            { s.tracker with
              frames := [], stream := Stream.closed
              slots := s.tracker.slots.map (fun x => { x with unfinished := 0 }) } ∧
          t.eventPending .streamClosed = true ∧
          ∀ tag, s.mbox.running = some { code := Command.closeStream.code, tag } →
            t.mbox = { s.mbox with running := none } ∧
              t.path.other =
                s.path.other ++
                  finalWrites s Command.closeStream.code tag .noError
                    [BitVec.ofNat 64 s.link.count.toNat]
       else
        t.tracker = { s.tracker with frames := rest } ∧ t.mbox = s.mbox ∧ t.path.other = s.path.other)

/-! ### The link frame, the scheduler -/

/-- Every link frame start, a second one while INITIALIZING too (log entry 44), advances the count by 1, counts
each hold timer down after the build, promotes a staged schedule that is due, and fixes the cells in force for
the frame by the link state; a pending change whose effective count it reaches takes effect, or is dropped if it
is a SPLIT change not echoed, and another stays. It leaves the capture side as it was; a link that is DOWN and
not enabled sends nothing, and one that is DOWN and enabled enters PROBING. (That this move raises LINK_CHANGE
is the model's reading of R122, log entry 18.) The move kept since the last arrival is made (log entry 29):
PROBING to TRAINING at the ceiling, the next trial, TRAINING to UP at the trial's rate, or back to PROBING; else
a trial goes on to its next frame, up to frame 15 (log entry 42). PROBING and TRAINING send their header with
the pattern parcels that fit. UP sends the forward header, with the number of parcels placed (log entry 41), and
takes the answers, releases and drop report it carries. (Where an inbound ring's hold request and a due release
stand together, that the header carries the hold count of 16 and the release is cleared all the same is the
model's choice, log entry 22.) The bytes of each header and of a pattern parcel stand as section 11.4 lays them
out. -/
def Obligations.LinkFrameStartAdvances : Prop :=
  (∀ s : State, ∃ t, exec .linkFrameStart s = .next t ∧
    t.link.count = s.link.count + 1 ∧ t.link.returnTaken = false ∧
    (∀ i : Fin 5, t.sched.hold[i] = if s.sched.hold[i] = 0 then 0 else s.sched.hold[i] - 1) ∧
    (∀ sch, s.sched.staged = some (sch, .nextFrame) →
      t.sched.active = some sch ∧ t.sched.staged = none) ∧
    (∀ sch, s.sched.staged = some (sch, .nextCycle) → (s.link.count + 1).toNat % 16 = 0 →
      t.sched.active = some sch ∧ t.sched.staged = none) ∧
    SameCapture s t ∧ t.straps = s.straps ∧ t.pending = s.pending ∧ t.path.mode = s.path.mode ∧
    t.link.cells =
      (match t.link.state with
       | .down => (0, 0)
       | .probing => (32, 16)
       | .training =>
         (128 * (t.link.trialRate.getD .quarter).factor / 4,
          64 * (t.link.trialRate.getD .quarter).factor / 4)
       | .up => (t.link.splitF * t.link.rate.factor / 4, t.link.splitRt * t.link.rate.factor / 4)) ∧
    (s.link.state = .down → s.link.enabled = false → t.link.state = .down ∧ t.out = s.out) ∧
    (s.link.state = .down → s.link.enabled = true →
      t.link.state = .probing ∧ t.eventPending .linkChange = true ∧
        t.out = s.out ++ [.header (probeHeader (linkFrameNumber (s.link.count + 1)) s.link.ceiling) 31]) ∧
    (s.link.state = .up → t.link.state = .up) ∧
    (∀ (r : Rate) (echoed : Bool), s.link.state = .up →
      s.link.change = some { change := .rate r, effective := s.link.count + 1, echoed } →
      t.link.rate = r ∧ t.link.change = none ∧ t.link.splitF = s.link.splitF ∧
        t.link.splitRt = s.link.splitRt ∧ t.eventPending .linkChange = true ∧
        t.counter .rateStepDowns = saturate (s.counter .rateStepDowns) 1 ∧ t.mbox = s.mbox) ∧
    (∀ (f rt : Nat) (echoed : Bool) (tag : BitVec 8), s.link.state = .up →
      s.link.change = some { change := .split f rt, effective := s.link.count + 1, echoed } →
      s.mbox.running = some { code := Command.setSplit.code, tag } →
      t.link.change = none ∧ t.link.rate = s.link.rate ∧
        t.counter .rateStepDowns = s.counter .rateStepDowns ∧
        t.mbox = { s.mbox with running := none } ∧
        (echoed = true →
          t.link.splitF = f ∧ t.link.splitRt = rt ∧ t.eventPending .linkChange = true) ∧
        (echoed = false → t.link.splitF = s.link.splitF ∧ t.link.splitRt = s.link.splitRt) ∧
        ∃ more, t.path.other =
          s.path.other ++
            finalWrites s Command.setSplit.code tag (if echoed then .noError else .noAgreement)
              [numberWord (t.link.splitF + atBit 16 t.link.splitRt),
               BitVec.ofNat 64 (s.link.count + 1).toNat] ++ more) ∧
    (s.link.state = .up → (∀ c, s.link.change = some c → c.effective ≠ s.link.count + 1) →
      t.link.change = s.link.change ∧ t.link.rate = s.link.rate ∧ t.link.splitF = s.link.splitF ∧
        t.link.splitRt = s.link.splitRt ∧ t.mbox = s.mbox) ∧
    (s.link.state = .probing → s.link.move ≠ some .training →
      t.link = s.link.opened (32, 16) ∧ SameStatus s t ∧
        t.out = s.out ++ [.header (probeHeader (linkFrameNumber (s.link.count + 1)) s.link.ceiling) 31]) ∧
    (s.link.state = .probing → s.link.move = some .training →
      t.link =
          { s.link.opened (32 * s.link.ceiling.factor, 16 * s.link.ceiling.factor) with
            state := .training, trialRate := some s.link.ceiling, trialFrame := 0, trialBaseErrors := 0
            trialOwnErrors := 0, move := none } ∧
        t.eventPending .linkChange = true ∧
        t.out = s.out ++ trainingOutputs (linkFrameNumber (s.link.count + 1)) s.link.ceiling 0) ∧
    (∀ r, s.link.state = .training → s.link.move = some (.trial r) →
      t.link =
          { s.link.opened (32 * r.factor, 16 * r.factor) with
            trialRate := some r, trialFrame := 0, trialBaseErrors := 0, trialOwnErrors := 0
            move := none } ∧
        SameStatus s t ∧ t.out = s.out ++ trainingOutputs (linkFrameNumber (s.link.count + 1)) r 0) ∧
    (∀ r, s.link.state = .training → (s.link.move = none ∨ s.link.move = some .training) →
      s.link.trialRate = some r →
      t.link =
          { s.link.opened (32 * r.factor, 16 * r.factor) with
            trialFrame := if s.link.trialFrame < 15 then s.link.trialFrame + 1 else 15 } ∧
        SameStatus s t ∧
        t.out = s.out ++ trainingOutputs (linkFrameNumber (s.link.count + 1)) r t.link.trialFrame) ∧
    (s.link.state = .training → s.link.move = some .probing →
      t.link =
          { s.link.opened (32, 16) with
            state := .probing, trialRate := none, trialFrame := 0, trialBaseErrors := 0
            trialOwnErrors := 0, move := none, probeFrames := 0, probeCycles := 0, lossRun := 0 } ∧
        t.eventPending .linkChange = true ∧
        t.out = s.out ++ [.header (probeHeader (linkFrameNumber (s.link.count + 1)) s.link.ceiling) 31]) ∧
    (∀ r, s.link.state = .training → s.link.move = some .up → s.link.trialRate = some r →
      t.link =
          { s.link.opened (s.link.splitF * r.factor / 4, s.link.splitRt * r.factor / 4) with
            state := .up, rate := r, trialRate := none, trialFrame := 0, trialBaseErrors := 0
            trialOwnErrors := 0, move := none, lossRun := 0, monitorFrames := 0, monitorErrors := 0
            dropRepeat := if 0 < s.link.dropRepeat then 3 else 0 } ∧
        t.eventPending .linkChange = true) ∧
    (t.link.state ≠ .up → t.rings = s.rings ∧ t.sched.window = s.sched.window ∧ t.path = s.path ∧
      t.link.dropRepeat = s.link.dropRepeat) ∧
    (t.link.state = .up →
      let hold (q : InRing) : Option Byte :=
        if q.holdRequested then some 16 else if q.releaseDue then some 0 else none
      let report := if 0 < s.link.dropRepeat then some (s.link.lastDropped, s.link.dropCount) else none
      let header : ForwardHeader :=
        { frame := linkFrameNumber (s.link.count + 1), rate := t.link.rate
          stream := s.tracker.stream.state, change := t.link.change
          ack0 := s.rings.inbound[0].toSend, ack1 := s.rings.inbound[1].toSend
          hold0 := hold s.rings.inbound[0], hold1 := hold s.rings.inbound[1]
          holdReturn :=
            if s.rings.ret.bound = false then some 16 else if s.rings.ret.releaseDue then some 0 else none
          drop := report
          parcels := t.sched.window.length - s.sched.window.length }
      ∃ idle, t.out = s.out ++ [.header header.bytes idle] ∧
        ((t.sched.window.drop s.sched.window.length).map (fun p => p.body.cells)).sum + idle =
          t.link.cells.1 - 1 ∧
        (∀ r : Fin 2,
          t.rings.inbound[r] = { s.rings.inbound[r] with toSend := .none, releaseDue := false }) ∧
        t.rings.ret = { s.rings.ret with releaseDue := false } ∧
        (s.link.state = .up → t.link.dropRepeat = s.link.dropRepeat - 1))) ∧
  (∀ (n : Byte) (r : Rate) (k : Nat),
    (probeHeader n r).take 28 = padTo 28 [0x02, n, BitVec.ofNat 8 r.code] ∧
      (trainingHeader n r k).take 28 = padTo 28 [0x03, n, BitVec.ofNat 8 r.code, BitVec.ofNat 8 k] ∧
      (trainParcel n).length = 1024 ∧ (trainParcel n).take 28 = padTo 28 [0x14, 0, 0xE0, 0x03] ∧
      (∀ i, i < 992 → byteAt (trainParcel n) (28 + i) = BitVec.ofNat 8 (i + n.toNat)) ∧
      (trainParcel n).drop 1020 = leBytes 4 (linkCheck ((trainParcel n).take 1020)).toNat) ∧
  (∀ (b : List Byte), (∃ n r, b = probeHeader n r) ∨ (∃ n r k, b = trainingHeader n r k) ∨
      (∃ h : ForwardHeader, b = h.bytes) →
    b.length = 32 ∧ b.drop 28 = leBytes 4 (linkCheck (b.take 28)).toNat) ∧
  (∀ h : ForwardHeader,
    let ack (a : Answer) : Byte :=
      match a with
      | .none => 0
      | .ack g => if g then 0x81 else 0x01
      | .nak g => if g then 0x82 else 0x02
    byteAt h.bytes 0 = 0x01 ∧ byteAt h.bytes 1 = h.frame ∧ (byteAt h.bytes 2).toNat = h.rate.code ∧
      (byteAt h.bytes 3).toNat = h.stream.code ∧
      (match h.change with
       | none => byteAt h.bytes 4 = 0
       | some c =>
         byteAt h.bytes 5 = linkFrameNumber c.effective ∧
           match c.change with
           | .rate r => byteAt h.bytes 4 = 1 ∧ fieldAt h.bytes 6 2 = r.code
           | .split f rt =>
             byteAt h.bytes 4 = 2 ∧ fieldAt h.bytes 6 2 = f % 65536 ∧ fieldAt h.bytes 8 2 = rt % 65536) ∧
      byteAt h.bytes 0x0A = ack h.ack0 ∧ byteAt h.bytes 0x0B = ack h.ack1 ∧
      byteAt h.bytes 0x0C = h.hold0.getD 0xFF ∧ byteAt h.bytes 0x0D = h.hold1.getD 0xFF ∧
      byteAt h.bytes 0x0E = h.holdReturn.getD 0xFF ∧
      (match h.drop with
       | none => byteAt h.bytes 0x0F = 0
       | some (frame, n) =>
         byteAt h.bytes 0x0F = 1 ∧ fieldAt h.bytes 0x10 2 = frame.toNat ∧ byteAt h.bytes 0x12 = n) ∧
      fieldAt h.bytes 0x13 2 = h.parcels % 65536) ∧
  (∀ count : FrameCount, (linkFrameNumber count).toNat = count.toNat % 256)

/-- A pending change takes effect at its effective count: a RATE change echoed or not, a SPLIT change if
echoed; else the SPLIT change is dropped with NO_AGREEMENT. -/
def Obligations.PendingChangeTakesEffect : Prop :=
  (∀ (r : Rate) (echoed : Bool) (s : State), s.link.state = .up →
    s.link.change = some { change := .rate r, effective := s.link.count, echoed } →
    ∃ t, exec .rateChangeEffect s = .next t ∧
      t.link =
        { s.link with
          rate := r, change := none
          cells := (effective s.link.splitF r, effective s.link.splitRt r) } ∧
      t.status =
        { s.status with
          due := t.status.due
          events := s.status.events ||| Event.linkChange.mask
          counters := (s.count .rateStepDowns).status.counters } ∧
      t.path = s.path ∧ SameCapture s t ∧ t.sched = s.sched ∧ t.rings = s.rings ∧ t.mbox = s.mbox ∧
      SameOutside s t) ∧
  (∀ (f rt : Nat) (echoed : Bool) (tag : BitVec 8) (s : State), s.link.state = .up →
    s.link.change = some { change := .split f rt, effective := s.link.count, echoed } →
    s.mbox.running = some { code := Command.setSplit.code, tag } →
    ∃ t, exec .splitChangeEffect s = .next t ∧
      t.link =
        (if echoed then
          { s.link with
            splitF := f, splitRt := rt, change := none
            cells := (effective f s.link.rate, effective rt s.link.rate) }
         else { s.link with change := none }) ∧
      t.path =
        { s.path with
          other := s.path.other ++
            finalWrites s Command.setSplit.code tag (if echoed then .noError else .noAgreement)
              [numberWord (t.link.splitF + atBit 16 t.link.splitRt),
               BitVec.ofNat 64 s.link.count.toNat] } ∧
      t.mbox = { s.mbox with running := none } ∧
      t.status =
        { s.status with
          due := t.status.due
          events :=
            if echoed then s.status.events ||| Event.linkChange.mask else s.status.events } ∧
      SameCapture s t ∧ t.sched = s.sched ∧ t.rings = s.rings ∧ SameOutside s t) ∧
  (∀ (cells : Nat) (r : Rate),
    effective cells r =
      match r with
      | .full => cells
      | .threeQuarter => cells * 3 / 4
      | .half => cells * 2 / 4
      | .quarter => cells / 4)

/-- The forward window of a frame carries exactly the effective forward cells: the cells of the parcels placed
and the idle fill are the budget, one cell less than those. (That parcels placed before and not yet sent stay in
front is the model's choice, log entry 15.) An ACTIVE schedule's slot for the count is walked in order: a held
lane is skipped; an UNBOUND ring halts the schedule, raises SCHED_HALT, makes a staged schedule due at the next
frame and ends the walk (also with no budget left, log entry 20); a HALTED ring is skipped; VIDEO places parcels
up to its quota until none is left or fits; an ACTIVE ring places its record, keeps it for a later window, or
retires it TOO_LARGE (an attempts count beyond one byte is a free value, log entry 36). Each piece is cut to the
smallest of the segment's rest, 1024 and the room left. The payload fetches go out in placement order. -/
def Obligations.WindowFillsItsCells : Prop :=
  (∀ s : State,
    ((s.buildWindow.1.sched.window.drop s.sched.window.length).map (fun p => p.body.cells)).sum +
        s.buildWindow.2.2 = s.link.cells.1 - 1 ∧
      s.buildWindow.1.sched.window.take s.sched.window.length = s.sched.window ∧
      s.buildWindow.2.1 + s.sched.window.length = s.buildWindow.1.sched.window.length) ∧
  ((∀ s : State, (s.link.state = .up ∨ (s.link.state = .training ∧ s.link.move = some .up)) →
     (∀ c, s.link.change = some c → c.effective ≠ s.link.count + 1) →
     ∃ t due, exec .linkFrameStart s = .next t ∧
       let start : State :=
         { s with
           sched := s.sched.promote (s.link.count + 1)
           link :=
             { t.link with
               dropRepeat :=
                 if s.link.state = .training ∧ 0 < s.link.dropRepeat then 4 else s.link.dropRepeat }
           status :=
             { s.status with
               due
               events :=
                 if s.link.state = .up then s.status.events
                 else s.status.events ||| Event.linkChange.mask } }
       let built := start.buildWindow.1
       t.sched =
           { built.sched with hold := built.sched.hold.map (fun n => if n = 0 then 0 else n - 1) } ∧
         t.path = built.path ∧ t.rings.outbound = built.rings.outbound ∧
         t.rings.nextSerial = built.rings.nextSerial ∧ t.free = built.free ∧ SameStatus built t) ∧
   (∀ s : State, s.sched.state ≠ .active → s.buildWindow = (s, 0, s.link.cells.1 - 1)) ∧
   (∀ (sch : Schedule) (i : Fin 16) (s : State), s.sched.state = .active → s.sched.active = some sch →
     i.val = s.link.count.toNat % 16 →
     let walked := walkEntries s.link.cells.1 sch[i] (s.link.cells.1 - 1) s
     let new := walked.1.sched.window.drop s.sched.window.length
     s.buildWindow =
       ({ walked.1 with
          path :=
            { walked.1.path with egress := walked.1.path.egress ++ new.flatMap walked.1.fetchReads } },
         new.length, walked.2)) ∧
   (∀ (job line k offset n : Nat) (frame : FrameNumber) (slot : Fin 4) (kind : LineKind)
     (present : List (Fin 6)) (position : Fin 6) (first last : Bool) (w : Fin 32) (s : State),
     s.tracker.stream.windows[position.val]? = some w →
     s.payloadAddr (.piece job frame slot line kind present position offset n first last) =
       (s.map.windows[w]).base + slot.val * (s.map.windows[w]).stride +
         line * (s.map.windows[w]).pitch + offset) ∧
   (∀ (r : Fin 4) (record n buffer : Nat) (tag : BitVec 8) (toggle sync : Bool) (s : State),
     s.payloadAddr (.ring r record tag n buffer toggle sync) = buffer)) ∧
  ((∀ (cells budget : Nat) (s : State), walkEntries cells [] budget s = (s, budget)) ∧
   (Source.video.lane = 0 ∧ ∀ r : Fin 4, (Source.ring r).lane.val = r.val + 1) ∧
   (∀ (cells budget : Nat) (e : ServiceEntry) (rest : List ServiceEntry) (s : State),
     (s.sched.hold[e.source.lane] ≠ 0 →
       walkEntries cells (e :: rest) budget s = walkEntries cells rest budget s) ∧
     (s.sched.hold[e.source.lane] = 0 →
       match e.source with
       | .video =>
         let served := serveVideo (if e.quota = 0 then budget else e.quota) budget s
         walkEntries cells (e :: rest) budget s = walkEntries cells rest served.2 served.1
       | .ring r =>
         match (s.rings.outbound[r]).state with
         | .unbound =>
           walkEntries cells (e :: rest) budget s =
             ({ s with
                sched :=
                  { s.sched with
                    state := .halted
                    staged := s.sched.staged.map (fun x => (x.1, Due.nextFrame)) }
                status := { s.status with events := s.status.events ||| Event.schedHalt.mask } },
               budget)
         | .halted => walkEntries cells (e :: rest) budget s = walkEntries cells rest budget s
         | .active =>
           walkEntries cells (e :: rest) budget s =
             walkEntries cells rest (s.serveRing r cells budget).2 (s.serveRing r cells budget).1))) ∧
  ((∀ (fuel budget : Nat) (s : State),
     serveVideo (fuel + 1) budget s =
       match s.nextVideo budget with
       | none => (s, budget)
       | some x => serveVideo fuel x.2 x.1) ∧
   (∀ (quota budget : Nat) (s : State),
     let served := serveVideo (if quota = 0 then budget else quota) budget s
     ∃ n, served.1.sched.window.length = s.sched.window.length + n ∧ (quota ≠ 0 → n ≤ quota) ∧
       ((quota ≠ 0 ∧ n = quota) ∨ served.1.nextVideo served.2 = none)) ∧
   (∀ (budget : Nat) (s : State),
     match s.sched.queue.find? (fun j => decide (j.placing ≠ .placed)) with
     | none => s.nextVideo budget = none
     | some j =>
       match j.body with
       | .absentRun first n =>
         s.nextVideo budget =
           if budget = 0 then none
           else
             some
               ((s.placed (.absentRun j.id j.frame j.slot first n)).withJob { j with placing := .placed },
                 budget - 1)
       | .frameEnd whole torn absent =>
         s.nextVideo budget =
           if budget = 0 then none
           else
             some
               ((s.placed (.frameEnd j.id j.frame j.slot whole torn absent)).withJob
                   { j with placing := .placed },
                 budget - 1)
       | .line line kind present k offset =>
         let segment :=
           match s.tracker.stream.windows[k.val]? with
           | none => 0
           | some w => (s.map.windows[w]).segLen
         let left := segment - offset
         let p := min left (min 1024 ((budget - 1) * 32))
         let later := present.filter (fun q => decide (k < q))
         let last := decide (p = left) && later.isEmpty
         s.nextVideo budget =
           if budget < 2 then none
           else
             some
               ((s.placed
                   (.piece j.id j.frame j.slot line kind present k offset p (decide (j.placing = .waiting))
                     last)).withJob
                 { j with
                   placing := if last then .placed else .placing
                   body :=
                     if p = left ∧ later ≠ [] then .line line kind present (later.headD k) 0
                     else .line line kind present k (offset + p) },
                 budget - (1 + (p + 31) / 32)))) ∧
  (∀ (r : Fin 4) (cells budget : Nat) (o : OutRing) (s : State), s.rings.outbound[r] = o →
    ((∀ sr, o.head ≠ .ready sr) → s.serveRing r cells budget = (s, budget)) ∧
    (∀ sr, o.head = .ready sr →
      let k := (sr.length + 31) / 32
      (budget = 0 → s.serveRing r cells budget = (s, budget)) ∧
      (0 < budget → cells < k + 2 →
        ∃ t, s.serveRing r cells budget = (t, budget) ∧ t.sched = s.sched ∧ t.link = s.link ∧
          (t.rings.outbound[r]).consumer = o.consumer + 1 ∧
          (t.rings.outbound[r]).sendCount = 0 ∧
          (if o.kind = .reliable ∧ 0 < o.sendCount then
            (t.rings.outbound[r]).toggle = !o.toggle ∧ (t.rings.outbound[r]).syncNeeded = true
           else
            (t.rings.outbound[r]).toggle = o.toggle ∧ (t.rings.outbound[r]).syncNeeded = o.syncNeeded) ∧
          t.path.other = s.path.other ++ retireWrites o 5 (s.attemptsByte o.sendCount) 0 ∧
          FetchFollows r s t ∧
          t.counter .recordsTooLarge = saturate (s.counter .recordsTooLarge) 1 ∧
          (sr.attention = true → t.eventPending .ringAttn = true)) ∧
      (k + 2 ≤ cells → budget < k + 1 → s.serveRing r cells budget = (s, budget)) ∧
      (k + 2 ≤ cells → k + 1 ≤ budget →
        s.serveRing r cells budget =
          ({ s.placed
               (.ring r sr.serial sr.tag sr.length sr.buffer (decide (o.kind = .reliable) && o.toggle)
                 (decide (o.kind = .reliable) && o.syncNeeded)) with
             rings :=
               { s.rings with
                 outbound := s.rings.outbound.set r
                   (match o.kind with
                    | .plain => { o with head := .placed sr }
                    | .reliable =>
                      { o with
                        head := .inFlight sr, sendCount := o.sendCount + 1, sentFrame := s.link.count }) } },
            budget - (k + 1))))) ∧
  (∀ (count : FrameCount) (c : Scheduler),
    c.promote count =
      match c.staged with
      | none => c
      | some (sch, due) =>
        if due = .nextFrame ∨ count.toNat % 16 = 0 then
          { c with active := some sch, staged := none, state := .active }
        else c)

/-- A completed payload fetch gives a parcel its data; with an ERROR the parcel is poisoned and MEMERR raised. A
piece's LINE job is then abandoned. A ring parcel's outcome reaches its own record: of a PLAIN ring it is
retired SENT, or MEMORY_ERROR; of a RELIABLE ring an ERROR retires it MEMORY_ERROR, and data leaves it as it is;
a parcel of another record changes no ring. (That an ERROR retires a record already due to be sent again, and
that a parcel of an earlier record changes nothing, are the model's reading, log entry 28; an attempts count
beyond one byte is a free value, log entry 36.) -/
def Obligations.PayloadFetchReachesPiece : Prop :=
  (∀ (n : Nat) (error : Bool) (data : List Byte) (p : Parcel) (s : State),
     s.path.egress.any (OwnRequest.isPayloadOf n) = false →
     s.path.ownOut.any (OwnRequest.isPayloadOf n) = true →
     s.sched.window.find? (fun x => x.id == n && decide (x.fetch = .pending)) = some p →
     p.body.length ≠ 0 →
     ∃ t, exec (.payloadFetchComplete n error data) s = .next t ∧
       t.path.ownOut = s.path.ownOut.filter (fun q => !q.isPayloadOf n) ∧
       t.sched.window =
         s.sched.window.map (fun x =>
           if x.id = n then
             { p with fetch := .complete (padTo p.body.length data), poison := p.poison || error }
           else x) ∧
       (error = true → t.eventPending .memErr = true) ∧
       SameCapture s t ∧ t.link = s.link ∧ t.mbox = s.mbox ∧ t.out = s.out ∧
       (∀ job, p.body.job = some job →
         t.rings = s.rings ∧
           t.path = { s.path with ownOut := s.path.ownOut.filter (fun q => !q.isPayloadOf n) } ∧
           (error = false → t.sched.queue = s.sched.queue ∧ SameStatus s t) ∧
           (error = true → ∀ j ∈ t.sched.queue, j.id = job → j.placing = .placed)) ∧
       (∀ (r : Fin 4) (m : Nat) (tag : BitVec 8) (len buf : Nat) (tg sy : Bool),
         p.body = .ring r m tag len buf tg sy →
         RingFetchOutcome s t r m error ∧
           (error = false → (∀ sr, (s.rings.outbound[r]).head ≠ .placed sr) → SameStatus s t))) ∧
  (∀ (n : Nat) (q : OwnRequest), q.isPayloadOf n = true ↔ q.owner = .payload n)

/-- The next placed parcel is transmitted: with its data once its fetch is complete, with POISON and idle fill
when it is not; a piece counts as sent either way, and a poisoned one as poisoned. A late fetch is a read error
for its owner: the LINE job is abandoned, and the ring record retired MEMORY_ERROR (of a record due to be sent
again, log entry 28). With its last placed parcel the job leaves the queue and its slot's unfinished count goes
down by its lines, and a drain ends where the stream is DRAINING and nothing is left. The bytes of a parcel of
each kind stand as section 11.4 lays them out: kind, flags, length, the fields of the kind, 0 in every byte with
no field, payload and check (R135). (A byte past the end of a list reads as 0, log entry 12. The bytes of the
idle fill are free values, log entry 13, and so is an attempts count beyond one byte, log entry 36.) -/
def Obligations.ParcelSentOrLate : Prop :=
  (∀ (p : Parcel) (rest : List Parcel) (s : State), s.sched.window = p :: rest →
     ∃ t, exec .parcelSent s = .next t ∧ t.sched.window = rest ∧
       (match p.fetch with
        | .notNeeded => t.out = s.out ++ [.parcel (p.body.bytes p.poison [])] ∧ t.free = s.free
        | .complete data => t.out = s.out ++ [.parcel (p.body.bytes p.poison data)] ∧ t.free = s.free
        | .pending =>
          t.out = s.out ++ [.parcel (p.body.bytes true (fillBytes s.free p.body.length))] ∧
            ((∀ r m tag n b tg sy, p.body = .ring r m tag n b tg sy →
                (s.rings.outbound[r]).sendCount < 256) → t.free = s.free + p.body.length) ∧
            t.eventPending .memErr = true) ∧
       (∀ j f sl l k ps q o n first last, p.body = .piece j f sl l k ps q o n first last →
         t.counter .videoPiecesSent = saturate (s.counter .videoPiecesSent) 1 ∧
           t.counter .videoBytesSent = saturate (s.counter .videoBytesSent) n) ∧
       (∀ r m tag n b tg sy, p.body = .ring r m tag n b tg sy →
         t.counter .ringParcelsSent = saturate (s.counter .ringParcelsSent) 1) ∧
       t.counter .poisonedParcelsSent =
         (if p.poison = true ∨ p.fetch = .pending then saturate (s.counter .poisonedParcelsSent) 1
          else s.counter .poisonedParcelsSent) ∧
       t.map = s.map ∧ t.stitch = s.stitch ∧ t.link = s.link ∧
       (∀ (r : Fin 4) (m : Nat) (tag : BitVec 8) (n b : Nat) (tg sy : Bool),
         p.body = .ring r m tag n b tg sy →
         t.tracker = s.tracker ∧ t.mbox = s.mbox ∧
           if p.fetch = .pending then RingFetchOutcome { s with free := s.free + n } t r m true
           else t.rings = s.rings ∧ t.path = s.path ∧ t.sched.queue = s.sched.queue) ∧
       (∀ id, p.body.job = some id →
         let late : Prop :=
           p.fetch = .pending ∧ ∃ f sl l k ps q o n first last,
             p.body = .piece id f sl l k ps q o n first last
         t.rings = s.rings ∧
           match s.sched.queue.find? (fun j => j.id == id) with
           | none =>
             t.sched.queue = s.sched.queue ∧ t.tracker = s.tracker ∧ t.mbox = s.mbox ∧ t.path = s.path
           | some j =>
             ((j.placing = .placed ∨ late) ∧ (∀ x ∈ rest, x.body.job ≠ some id) →
               t.sched.queue = s.sched.queue.filter (fun x => x.id != id) ∧
                 let lines :=
                   match j.body with
                   | .line _ _ _ _ _ => 1
                   | .absentRun _ n => n
                   | .frameEnd _ _ _ => 0
                 if s.tracker.stream.state = .draining ∧ s.tracker.frames = [] ∧ t.sched.queue = [] then
                   t.tracker =
                       { s.tracker with
                         stream := Stream.closed
                         slots := s.tracker.slots.map (fun x => { x with unfinished := 0 }) } ∧
                     t.eventPending .streamClosed = true ∧
                     ∀ tag, s.mbox.running = some { code := Command.closeStream.code, tag } →
                       t.mbox = { s.mbox with running := none } ∧
                         t.path =
                           { s.path with
                             other := s.path.other ++
                               finalWrites s Command.closeStream.code tag .noError
                                 [BitVec.ofNat 64 s.link.count.toNat] }
                 else
                   t.mbox = s.mbox ∧ t.path = s.path ∧
                     t.tracker =
                       (if (s.tracker.slots[j.slot]).frame = some j.frame then
                         { s.tracker with
                           slots := s.tracker.slots.set j.slot
                             { s.tracker.slots[j.slot] with
                               unfinished := (s.tracker.slots[j.slot]).unfinished - lines } }
                        else s.tracker)) ∧
             (¬ ((j.placing = .placed ∨ late) ∧ ∀ x ∈ rest, x.body.job ≠ some id) →
               t.tracker = s.tracker ∧ t.mbox = s.mbox ∧ t.path = s.path ∧
                 (late → t.sched.queue =
                   s.sched.queue.map (fun x => if x.id = id then { x with placing := .placed } else x)) ∧
                 (¬ late → t.sched.queue = s.sched.queue)))) ∧
  (∀ (body : ParcelBody) (poison : Bool) (payload : List Byte),
    let all := body.bytes poison payload
    let zeroFrom (n : Nat) : Prop := ∀ i, n ≤ i → i < 28 → byteAt all i = 0
    all.length = 32 + body.length ∧
      (∀ i, i < body.length → byteAt all (28 + i) = byteAt payload i) ∧
      all.drop (28 + body.length) = leBytes 4 (linkCheck (all.take (28 + body.length))).toNat ∧
      fieldAt all 2 2 = body.length % 65536 ∧
      match body with
      | .piece _ frame _ line kind present position offset n first last =>
        body.length = n ∧ byteAt all 0 = 0x10 ∧
          (byteAt all 1).toNat =
            (if first then 1 else 0) + (if last then 2 else 0) + (if poison then 4 else 0) ∧
          fieldAt all 4 2 = frame.toNat ∧ fieldAt all 6 2 = line % 65536 ∧
          byteAt all 8 =
            (match kind with
             | .whole => 0
             | .torn => 1) ∧
          (∀ k : Fin 8, (byteAt all 9).getLsbD k.val = decide (∃ q ∈ present, q.val = k.val)) ∧
          (byteAt all 0x0A).toNat = position.val ∧ byteAt all 0x0B = 0 ∧
          fieldAt all 0x0C 2 = offset % 65536 ∧ zeroFrom 0x0E
      | .absentRun _ frame _ first count =>
        body.length = 0 ∧ byteAt all 0 = 0x11 ∧ (byteAt all 1).toNat = (if poison then 4 else 0) ∧
          fieldAt all 4 2 = frame.toNat ∧ fieldAt all 6 2 = first % 65536 ∧
          fieldAt all 8 2 = count % 65536 ∧ zeroFrom 0x0A
      | .frameEnd _ frame _ whole torn absent =>
        body.length = 0 ∧ byteAt all 0 = 0x12 ∧ (byteAt all 1).toNat = (if poison then 4 else 0) ∧
          fieldAt all 4 2 = frame.toNat ∧ fieldAt all 6 2 = whole % 65536 ∧
          fieldAt all 8 2 = torn % 65536 ∧ fieldAt all 0x0A 2 = absent % 65536 ∧ zeroFrom 0x0C
      | .ring r _ tag n _ toggle sync =>
        body.length = n ∧ byteAt all 0 = 0x13 ∧
          (byteAt all 1).toNat =
            (if poison then 4 else 0) + (if sync then 8 else 0) + (if toggle then 16 else 0) ∧
          (byteAt all 4).toNat = r.val ∧ byteAt all 5 = tag ∧ zeroFrom 6) ∧
  ((∀ bs : List Byte,
     linkCheck bs =
       ~~~ (bs.foldl
         (fun c b =>
           (List.range 8).foldl
             (fun c _ => if c.getLsbD 0 then (c >>> 1) ^^^ 0xEDB88320#32 else c >>> 1)
             (c ^^^ b.setWidth 32))
         0xFFFFFFFF#32)) ∧
   (0x04C11DB7#32).reverse = 0xEDB88320#32) ∧
  ((∀ (bs : List Byte) (i : Nat), byteAt bs i = bs.getD i 0) ∧
   (∀ (bs : List Byte) (i n : Nat), fieldAt bs i n < 256 ^ n ∧
     ∀ j, j < n → fieldAt bs i n / 256 ^ j % 256 = (byteAt bs (i + j)).toNat) ∧
   (∀ n v : Nat, (leBytes n v).length = n ∧
     ∀ i, i < n → (byteAt (leBytes n v) i).toNat = v / 256 ^ i % 256)) ∧
  ((∀ (bs : List Byte) (i n : Nat), bytesAt bs i n = (List.range n).map (fun j => byteAt bs (i + j))) ∧
   (∀ (n : Nat) (bs : List Byte), padTo n bs = (List.range n).map (byteAt bs)) ∧
   (∀ start n : Nat, fillBytes start n = (List.range n).map (fun i => Config.idleFill (start + i))) ∧
   (∀ body : ParcelBody,
     body.job =
       match body with
       | .piece id _ _ _ _ _ _ _ _ _ _ => some id
       | .absentRun id _ _ _ _ => some id
       | .frameEnd id _ _ _ _ _ => some id
       | .ring _ _ _ _ _ _ _ => none))

/-! ### The return window -/

/-- How a return window is judged. While DOWN nothing is taken. While PROBING a good header with READY set makes
TRAINING follow, and any other window is a probe frame. While UP and TRAINING a window without a good header
counts a header error and a step of the loss run, which is a loss at 8, and a good header with READY clear is a
loss at once; every other window ends in the monitor or in the trial, whose block or trial it may complete. A
good header's tally is taken, but not with READY clear out of UP or TRAINING (the model's reading, log entry
37), and a loss comes before the block (log entry 19). While UP a good header with READY set hands each
acknowledgement to its ring, its HOLD to the timers of the lanes it names, its change echo to the pending
change, and then its parcels, one after another, each to the block of its kind (flag bit 1 is a RETURN_PIECE's
LAST, log entry 38; a parcel's kind is tested before its check, log entry 43). Each arrival is taken by the link
state at its moment (log entry 42). (Which parcels of a TRAINING window are errors, that a RATE echo's last two
bytes are ignored, and that a loss keeps the cells in force, are the model's choice, log entries 23, 26 and 25.)
A loss from UP clears what R133 names, as LinkLost and LeftUp say. -/
def Obligations.ReturnWindowsJudged : Prop :=
  (∀ (header : Option (List Byte)) (body : List Byte) (s : State), s.link.state = .down →
     exec (.returnWindowArrival header body) s = .next s) ∧
  ((∀ (header : Option (List Byte)) (body : List Byte) (s : State), s.link.state = .probing →
     badHeader s header →
     ∃ t, exec (.returnWindowArrival header body) s = .next t ∧ t.link = s.link.probed s.link.tally ∧
       SameStatus s t ∧ t.path = s.path ∧ SameCapture s t ∧ t.sched = s.sched ∧ t.rings = s.rings ∧
       t.mbox = s.mbox ∧ SameOutside s t) ∧
   (∀ (h body : List Byte) (s : State), s.link.state = .probing → headerGood s.link.count h = true →
     ∃ t, exec (.returnWindowArrival (some h) body) s = .next t ∧
       t.link =
         (if readyOf h = true then
           { s.link with tally := tallyOf h, move := some .training, returnTaken := true }
          else s.link.probed (tallyOf h)) ∧
       (tallyOf h ≠ s.link.tally → t.eventPending .tally = true) ∧
       (tallyOf h = s.link.tally → SameStatus s t) ∧ t.status.counters = s.status.counters ∧
       t.path = s.path ∧ SameCapture s t ∧ t.sched = s.sched ∧ t.rings = s.rings ∧ t.mbox = s.mbox ∧
       SameOutside s t)) ∧
  ((∀ (header : Option (List Byte)) (body : List Byte) (s : State), s.link.state = .up →
     badHeader s header → s.link.lossRun < 7 →
     ∃ t, exec (.returnWindowArrival header body) s = .next t ∧
       t.link = s.link.monitored (s.link.lossRun + 1) 1 ∧
       StatusCounts (s.count .returnHeaderErrors) s t ∧ SameCapture s t ∧ t.sched = s.sched ∧
       t.rings = s.rings ∧ SameOutside s t ∧
       (s.link.supersedes 1 → ∀ tag, s.mbox.running = some { code := Command.setSplit.code, tag } →
         t.mbox = { s.mbox with running := none } ∧
           t.path =
             { s.path with
               other := s.path.other ++
                 finalWrites s Command.setSplit.code tag .superseded
                   [numberWord (s.link.splitF + atBit 16 s.link.splitRt),
                    BitVec.ofNat 64 s.link.count.toNat] }) ∧
       (¬ s.link.supersedes 1 → t.mbox = s.mbox ∧ t.path = s.path)) ∧
   (∀ (header : Option (List Byte)) (body : List Byte) (s : State), s.link.state = .training →
     badHeader s header → s.link.lossRun < 7 →
     ∃ t, exec (.returnWindowArrival header body) s = .next t ∧
       t.link = s.link.tried (s.link.lossRun + 1) 0 1 ∧
       StatusCounts
         ((s.count .returnHeaderErrors).countBy .trainingFailures (s.link.trialFails 0 1)) s t ∧
       t.path = s.path ∧ SameCapture s t ∧ t.sched = s.sched ∧ t.rings = s.rings ∧ t.mbox = s.mbox ∧
       SameOutside s t)) ∧
  ((∀ (header : Option (List Byte)) (body : List Byte) (s : State),
     (s.link.state = .up ∨ s.link.state = .training) → badHeader s header → 7 ≤ s.link.lossRun →
     ∃ t, exec (.returnWindowArrival header body) s = .next t ∧ LinkLost s t ∧
       t.counter .returnHeaderErrors = saturate (s.counter .returnHeaderErrors) 1) ∧
   (∀ (h body : List Byte) (s : State), (s.link.state = .up ∨ s.link.state = .training) →
     headerGood s.link.count h = true → readyOf h = false →
     ∃ t, exec (.returnWindowArrival (some h) body) s = .next t ∧ LinkLost s t ∧
       t.counter .returnHeaderErrors = s.counter .returnHeaderErrors)) ∧
  ((∀ (h body : List Byte) (s : State), s.link.state = .training → headerGood s.link.count h = true →
     readyOf h = true →
     ∃ t, exec (.returnWindowArrival (some h) body) s = .next t ∧
       t.link =
         { s.link.tried 0 (baseErrorsOf h) (s.parcelErrors h body) with tally := tallyOf h } ∧
       (tallyOf h ≠ s.link.tally → t.eventPending .tally = true) ∧
       t.status.counters =
         (((s.countBy .baseReportedErrors (baseErrorsOf h)).countBy .returnParcelCheckErrors
             (s.parcelErrors h body)).countBy .trainingFailures
             (s.link.trialFails (baseErrorsOf h) (s.parcelErrors h body))).status.counters ∧
       t.path = s.path ∧ SameCapture s t ∧ t.sched = s.sched ∧ t.rings = s.rings ∧ t.mbox = s.mbox ∧
       SameOutside s t) ∧
   (∀ (h body : List Byte) (s : State), s.link.state = .up → headerGood s.link.count h = true →
     readyOf h = true →
     ∃ t, exec (.returnWindowArrival (some h) body) s = .next t ∧
       t.link.state = .up ∧ t.link.tally = tallyOf h ∧
       (tallyOf h ≠ s.link.tally → t.eventPending .tally = true) ∧
       t.counter .returnWindowsGood = saturate (s.counter .returnWindowsGood) 1 ∧
       t.counter .baseReportedErrors = saturate (s.counter .baseReportedErrors) (baseErrorsOf h) ∧
       t.counter .returnParcelCheckErrors =
         saturate (s.counter .returnParcelCheckErrors) (s.parcelErrors h body) ∧
       SameCapture s t ∧ t.straps = s.straps ∧ t.out = s.out ∧ t.pending = s.pending ∧
       t.link =
         { (s.link.echoed (echoOf h)).monitored 0 (baseErrorsOf h + s.parcelErrors h body) with
           tally := tallyOf h } ∧
       t.sched = { s.sched with hold := t.sched.hold } ∧
       (∀ i : Fin 5,
         t.sched.hold[i] =
           if (byteAt h 8).getLsbD i.val = true then byteAt h 9 else s.sched.hold[i]) ∧
       let answered := (List.finRange 4).foldl
         (fun u r => u.takeAnswer r (Answer.ofByte (byteAt h (4 + r.val)))) s
       let handed := (returnParcels h body s.link.cells.2).foldl (fun u f => u.takeFound f) answered
       t.rings = handed.rings ∧ t.free = handed.free ∧
         t.status.inboundFull = handed.status.inboundFull ∧
         (∀ e, e ≠ .tally → t.eventPending e = handed.eventPending e) ∧
         (∀ c, c ≠ .returnWindowsGood → c ≠ .baseReportedErrors → t.counter c = handed.counter c) ∧
         (¬ s.link.supersedes (baseErrorsOf h + s.parcelErrors h body) →
           t.mbox = s.mbox ∧ t.path = handed.path) ∧
         (∀ tag, s.mbox.running = some { code := Command.setSplit.code, tag } →
           s.link.supersedes (baseErrorsOf h + s.parcelErrors h body) →
           t.mbox = { s.mbox with running := none } ∧
             t.path =
               { handed.path with
                 other := handed.path.other ++
                   finalWrites s Command.setSplit.code tag .superseded
                     [numberWord (s.link.splitF + atBit 16 s.link.splitRt),
                      BitVec.ofNat 64 s.link.count.toNat] }))) ∧
  ((∀ (h : List Byte) (code : Nat), code = (byteAt h 0x0B).toNat →
     echoOf h =
       if code = 1 then (Rate.ofCode (fieldAt h 0x0D 2)).map (fun r => (.rate r, byteAt h 0x0C))
       else if code = 2 then some (.split (fieldAt h 0x0D 2) (fieldAt h 0x0F 2), byteAt h 0x0C)
       else none) ∧
   (∀ b : Byte,
     Answer.ofByte b =
       if b.toNat % 4 = 1 then .ack (b.getLsbD 7)
       else if b.toNat % 4 = 2 then .nak (b.getLsbD 7) else .none) ∧
   (∀ (h body : List Byte) (cells : Nat),
     returnParcels h body cells = findParcels body (fieldAt h 0x11 2) 0 (cells - 1)) ∧
   (∀ (body : List Byte) (off cells : Nat), findParcels body 0 off cells = []) ∧
   (∀ (body : List Byte) (n off cells length used : Nat), length = fieldAt body (off + 2) 2 →
     used = 1 + (length + 31) / 32 →
     findParcels body (n + 1) off cells =
       if cells < used ∨ 992 < length ∨ byteAt body off ∉ [0x14, 0x20, 0x21, 0x22] then
         List.replicate (n + 1) .bad
       else
         (if fieldAt body (off + 28 + length) 4 = (linkCheck (bytesAt body off (28 + length))).toNat then
            .parcel (bytesAt body off 28) (bytesAt body (off + 28) length)
          else .bad) ::
           findParcels body n (off + 32 * used) (cells - used))) ∧
  ((∀ (f : Found) (s : State),
     f.isError =
         (match f with
          | .bad => true
          | .parcel p _ => decide (byteAt p 0 = 0x20 ∧ 1 < (byteAt p 4).toNat)) ∧
       (f.isError = true →
         s.takeFound f =
           { s.count .returnParcelCheckErrors with
             link := { s.link with monitorErrors := saturate16 (s.link.monitorErrors + 1) } })) ∧
   (∀ (p payload : List Byte) (s : State),
     (byteAt p 0 = 0x14 → s.takeFound (.parcel p payload) = s) ∧
     (∀ r : Fin 2, byteAt p 0 = 0x20 → (byteAt p 4).toNat = r.val →
       s.takeFound (.parcel p payload) =
         s.takeCmsg r
           { toggle := (byteAt p 1).getLsbD 4, sync := (byteAt p 1).getLsbD 3
             poison := (byteAt p 1).getLsbD 2, tag := byteAt p 5, payload }) ∧
     (byteAt p 0 = 0x21 →
       s.takeFound (.parcel p payload) =
         s.takePiece
           { buffer := (byteAt p 4).getLsbD 0, line := fieldAt p 6 2, offset := fieldAt p 8 2
             last := (byteAt p 1).getLsbD 1, poison := (byteAt p 1).getLsbD 2, payload }) ∧
     (byteAt p 0 = 0x22 →
       s.takeFound (.parcel p payload) =
         s.takeReturnEnd ((byteAt p 4).getLsbD 0) (BitVec.ofNat 16 (fieldAt p 6 2))
           ((byteAt p 1).getLsbD 2)))) ∧
  (∀ (count : FrameCount) (h : List Byte),
    (headerGood count h = true ↔
      fieldAt h 28 4 = (linkCheck ((List.range 28).map (byteAt h))).toNat ∧ byteAt h 0 = 0x04 ∧
        (byteAt h 1).toNat = count.toNat % 256) ∧
    tallyOf h = byteAt h 3 ∧ baseErrorsOf h = (byteAt h 0x0A).toNat ∧
    readyOf h = (byteAt h 2).getLsbD 0)

/-- A probe cycle ends at 64 probe frames; a trial is judged at the arrival of its frame 15: both errors
at most 1 bring UP at the next start, else the next lower rate, else a training failure and PROBING. -/
def Obligations.ProbeCycleAndTrialEnd : Prop :=
  (∀ s : State, s.link.state = .probing → 64 ≤ s.link.probeFrames →
    ∃ t, exec .probeCycle s = .next t ∧
      t.link = { s.link with probeFrames := 0, probeCycles := saturate16 (s.link.probeCycles + 1) } ∧
      SameStatus s t ∧ t.path = s.path ∧ SameCapture s t ∧ t.sched = s.sched ∧ t.rings = s.rings ∧
      t.mbox = s.mbox ∧ SameOutside s t) ∧
  (∀ s : State, s.link.state = .training → s.link.trialFrame = 15 → s.link.returnTaken = true →
    s.link.move = none →
    ∃ t, exec .trialEnd s = .next t ∧
      t.link =
        { s.link with
          move := some
            (if s.link.trialBaseErrors ≤ 1 ∧ s.link.trialOwnErrors ≤ 1 then .up
             else
               match (s.link.trialRate.getD .quarter).lower with
               | some r => .trial r
               | none => .probing) } ∧
      (if (1 < s.link.trialBaseErrors ∨ 1 < s.link.trialOwnErrors) ∧
          (s.link.trialRate.getD .quarter).lower = none then
        StatusCounts (s.count .trainingFailures) s t
       else SameStatus s t) ∧
      t.path = s.path ∧ SameCapture s t ∧ t.sched = s.sched ∧ t.rings = s.rings ∧ t.mbox = s.mbox ∧
      SameOutside s t) ∧
  ((∀ n : Nat, saturate16 n = min n 65535) ∧
   [Rate.full, .threeQuarter, .half, .quarter].map Rate.lower =
     [some .threeQuarter, some .half, some .quarter, none])

/-- A block of 256 windows with 8 or more errors above QUARTER creates a RATE change one rate below with an
effective count 8 later; a loss run of 8 counts a loss and moves the link to PROBING. A loss from UP also
cancels the pending change, ends a running SET SPLIT with NO_AGREEMENT, sinks the video queue, and clears the
placed parcels, the hold timers and the rings' sessions. (That the cells in force stay, and that an UNBOUND
inbound ring is cleared too, are the model's reading, log entries 25 and 22.) -/
def Obligations.BlockJudgementAndLoss : Prop :=
  (∀ s : State, s.link.state = .up → 256 ≤ s.link.monitorFrames → s.link.change = none →
    ∃ t, exec .monitorBlockJudgement s = .next t ∧
      t.link =
        { s.link with
          monitorFrames := 0, monitorErrors := 0
          change :=
            match s.link.rate.lower with
            | some r =>
              if 8 ≤ s.link.monitorErrors then
                some { change := .rate r, effective := s.link.count + 8, echoed := false }
              else none
            | none => none } ∧
      SameStatus s t ∧ t.path = s.path ∧ SameCapture s t ∧ t.sched = s.sched ∧ t.rings = s.rings ∧
      t.mbox = s.mbox ∧ SameOutside s t) ∧
  (∀ s : State, (s.link.state = .up ∨ s.link.state = .training) → 8 ≤ s.link.lossRun →
    ∃ t, exec .linkLoss s = .next t ∧ LinkLost s t ∧ t.map = s.map ∧ t.stitch = s.stitch)

/-- At the moment the link leaves UP, here by DISABLE or RETRAIN: the pending change is cancelled, the video
queue is sunk, its jobs counted and their lines finished, the parcels not transmitted and the hold timers go,
the schedule stays, a PLAIN ring's placed record is READY again, RELIABLE rings start fresh under SYNC, and
inbound rings forget what they accepted and would answer, the ACK of a landing in progress too, an UNBOUND one
too (the model's reading, log entry 22). The cells in force stay those of the present frame (log entry 25). -/
def Obligations.LeavingUpClearsSession : Prop :=
  ∀ (op : LinkOperation) (count : BitVec 4) (tag : BitVec 8) (s : State), s.RunningMatches →
    s.Accepts .linkControl count → s.link.state = .up → linkOperation s.mbox.params = some op →
    op ≠ .enable →
    ∃ t,
      exec
          (match op with
           | .disable => .linkControlDisable count tag
           | .enable => .linkControlEnable count tag
           | .retrain => .linkControlRetrain count tag) s = .next t ∧
      t.link.state = (if op = .disable then .down else .probing) ∧
      t.link.enabled = decide (op ≠ .disable) ∧ t.eventPending .linkChange = true ∧
      t.link.change = none ∧ t.link.monitorFrames = 0 ∧ t.link.monitorErrors = 0 ∧
      t.link.rate = s.link.rate ∧ t.link.splitF = s.link.splitF ∧ t.link.splitRt = s.link.splitRt ∧
      t.link.dropRepeat = s.link.dropRepeat ∧ t.link.cells = s.link.cells ∧
      LeftUp s t ∧
      (∀ r : Fin 4, (s.rings.outbound[r]).state ≠ .unbound → (s.rings.outbound[r]).kind = .reliable →
        (t.rings.outbound[r]).toggle = false ∧ (t.rings.outbound[r]).syncNeeded = true ∧
          (t.rings.outbound[r]).sendCount = (s.rings.outbound[r]).sendCount ∧
          ∀ sr, (s.rings.outbound[r]).head = .inFlight sr → (t.rings.outbound[r]).head = .ready sr) ∧
      (∀ r : Fin 2, (t.rings.inbound[r]).lastAccepted = none ∧ (t.rings.inbound[r]).toSend = .none ∧
        (t.rings.inbound[r]).releaseDue = false ∧
        (t.rings.inbound[r]).holdRequested = (s.rings.inbound[r]).holdRequested ∧
        (t.rings.inbound[r]).producer = (s.rings.inbound[r]).producer)

/-! ### The rings -/

/-- The response to a record fetch: an ERROR halts the ring with cause MEMORY, a record out of range is retired
BAD_RECORD (after which the next record is fetched), and any other is READY with a send count of 0. A record
that was withdrawn while it was being fetched is not taken (the model's reading, log entry 32). -/
def Obligations.RecordFetchResponseTaken : Prop :=
  (∀ (k n : Nat) (error : Bool) (data : List Byte) (q : OwnRequest) (rest : List OwnRequest) (r : Fin 4)
     (o : OutRing) (s : State), takeNth OwnRequest.isRecordFetch k s.path.ownOut = some (q, rest) →
     q.owner = .recordFetch r n → q.live = true → s.rings.outbound[r] = o → o.head = .fetching n →
     ∃ t, exec (.recordFetchResponse k error data) s = .next t ∧ t.path.ownOut = rest ∧ SameCapture s t ∧
       t.sched = s.sched ∧ t.link = s.link ∧ t.mbox = s.mbox ∧ SameOutside s t ∧
       (error = true →
         t.rings.outbound[r] =
             { o with
               head := .empty, state := .halted, cause := .memory
               producerWritten := if o.state = .active then o.producerSeen else o.producerWritten } ∧
           t.eventPending .memErr = true ∧ t.eventPending .ringHalt = true) ∧
       (error = false → o.producerSeen = o.consumer →
         t.rings.outbound[r] = { o with head := .empty } ∧ t.path.other = s.path.other ∧ SameStatus s t) ∧
       (error = false → o.producerSeen ≠ o.consumer → (1 ≤ fieldAt data 0 2 ∧ fieldAt data 0 2 ≤ 992 ∧
           fieldAt data 8 8 + fieldAt data 0 2 ≤ 2 ^ 40) →
         t.rings.outbound[r] = { o with head := .ready (sendRecord n data), sendCount := 0 } ∧
           SameStatus s t) ∧
       (error = false → o.producerSeen ≠ o.consumer → (fieldAt data 0 2 = 0 ∨ 992 < fieldAt data 0 2 ∨
           2 ^ 40 < fieldAt data 8 8 + fieldAt data 0 2) →
         (t.rings.outbound[r]).consumer = o.consumer + 1 ∧ (t.rings.outbound[r]).toggle = o.toggle ∧
           (t.rings.outbound[r]).syncNeeded = o.syncNeeded ∧
           t.path.other = s.path.other ++ retireWrites o 6 0 0 ∧ FetchFollows r s t)) ∧
  (∀ (n : Nat) (data : List Byte),
    sendRecord n data =
      { serial := n, length := fieldAt data 0 2, tag := byteAt data 2
        retry := (byteAt data 3).toNat % 4, attention := (byteAt data 3).getLsbD 7
        buffer := fieldAt data 8 8 }) ∧
  (∀ o : OutRing, o.recordAddr = o.base + (o.consumer.toNat % o.count) * 64) ∧
  (∀ q : OwnRequest, q.isRecordFetch = true ↔ ∃ r n, q.owner = .recordFetch r n)

/-- A producer word write is kept while HALTED; while ACTIVE it becomes producer seen when it lies from the
taken count to the record count past the consumer, and else halts the ring with cause INDEX; while UNBOUND
it reaches no ring. A consumer word write is judged in the same way against what is occupied. -/
def Obligations.IndexWritesJudged : Prop :=
  (∀ (r : Fin 4) (value : Word) (o : OutRing) (s : State), s.rings.outbound[r] = o →
    ∃ t, exec (.producerIndexWrite r value) s = .next t ∧ SameCapture s t ∧ t.sched = s.sched ∧
      t.link = s.link ∧ t.mbox = s.mbox ∧ SameOutside s t ∧
      (∀ q : Fin 4, q ≠ r → t.rings.outbound[q] = s.rings.outbound[q]) ∧
      match o.state with
      | .unbound => t.rings = s.rings ∧ t.path = s.path
      | .halted =>
        t.rings.outbound[r] = { o with producerWritten := BitVec.ofNat 16 value.toNat } ∧
          t.path = s.path
      | .active =>
        if (BitVec.ofNat 16 value.toNat - o.consumer).toNat ≤ o.count ∧
            o.head.takenCount ≤ (BitVec.ofNat 16 value.toNat - o.consumer).toNat then
          if o.head = .empty ∧ BitVec.ofNat 16 value.toNat ≠ o.consumer then
            t.rings.outbound[r] =
                { o with
                  producerSeen := BitVec.ofNat 16 value.toNat, head := .fetching s.rings.nextSerial } ∧
              t.path =
                { s.path with
                  egress := s.path.egress ++
                    [{ owner := .recordFetch r s.rings.nextSerial, addr := o.recordAddr,
                       access := .read 64, live := true }] }
          else
            t.rings.outbound[r] = { o with producerSeen := BitVec.ofNat 16 value.toNat } ∧
              t.path = s.path
        else
          t.rings.outbound[r] =
              { o with
                state := .halted, cause := .index, producerWritten := BitVec.ofNat 16 value.toNat } ∧
            t.path = s.path ∧ t.eventPending .ringHalt = true) ∧
  (∀ (r : Fin 2) (value : Word) (q : InRing) (s : State), s.rings.inbound[r] = q →
    ∃ t, exec (.consumerIndexWrite r value) s = .next t ∧ SameCapture s t ∧ t.sched = s.sched ∧
      t.link = s.link ∧ t.mbox = s.mbox ∧ SameOutside s t ∧ t.path = s.path ∧
      t.rings.outbound = s.rings.outbound ∧
      match q.state with
      | .unbound => t.rings = s.rings
      | .halted => t.rings.inbound[r] = { q with consumerWritten := BitVec.ofNat 16 value.toNat }
      | .active =>
        if (BitVec.ofNat 16 value.toNat - q.consumerSeen).toNat ≤ (q.producer - q.consumerSeen).toNat then
          (t.rings.inbound[r]).consumerSeen = BitVec.ofNat 16 value.toNat ∧
            (t.rings.inbound[r]).state = .active ∧
            (q.count - (q.producer - BitVec.ofNat 16 value.toNat).toNat ≤ 2 →
              (t.rings.inbound[r]).holdRequested = true) ∧
            (4 ≤ q.count - (q.producer - BitVec.ofNat 16 value.toNat).toNat →
              (t.rings.inbound[r]).holdRequested = false ∧
                (q.holdRequested = true → (t.rings.inbound[r]).releaseDue = true))
        else
          t.rings.inbound[r] =
              { q with
                state := .halted, cause := .index, consumerWritten := BitVec.ofNat 16 value.toNat } ∧
            t.eventPending .ringHalt = true) ∧
  ((∀ h : HeadRecord,
     h.takenCount =
       match h with
       | .empty | .fetching _ => 0
       | .ready _ | .placed _ | .inFlight _ => 1) ∧
   (∀ (h : HeadRecord) (sr : SendRecord),
     h.taken = some sr ↔ h = .ready sr ∨ h = .placed sr ∨ h = .inFlight sr) ∧
   (∀ o : OutRing, o.pendingCount = (o.producerSeen - o.consumer).toNat) ∧
   (∀ q : InRing, q.occupied = (q.producer - q.consumerSeen).toNat))

/-- A CMSG parcel is answered by the first row of R111's table that applies; the answer replaces an earlier one
not yet sent while no landing is in progress, and is dropped while one is (R113). A message is landed only into
an ACTIVE ring with a free slot and no landing in progress: its slot header, its payload split at 256-byte
boundaries, and the producer word are written in that order. A RETURN_PIECE that fits its buffer is landed in
the same way, and is else discarded; a RETURN_END makes a done word due, which is written once its buffer has no
landing write outstanding. (A lines count beyond 16 bits is a free value, log entry 14.) -/
def Obligations.CmsgAnsweredByTable : Prop :=
  (∀ (r : Fin 2) (m : Cmsg) (q : InRing) (s : State), s.rings.inbound[r] = q →
    let t := s.takeCmsg r m
    let owner := Owner.landing r s.rings.nextSerial
    let slot := q.base + (q.producer.toNat % q.count) * 1024
    SameCapture s t ∧ t.sched = s.sched ∧ t.link = s.link ∧ t.mbox = s.mbox ∧ SameOutside s t ∧
      t.rings.outbound = s.rings.outbound ∧ t.rings.ret = s.rings.ret ∧
      (∀ r' : Fin 2, r' ≠ r → t.rings.inbound[r'] = s.rings.inbound[r']) ∧
      if q.state ≠ .active ∨ m.poison = true ∨ m.payload.length = 0 ∨ 992 < m.payload.length then
        t.path = s.path ∧
          t.rings.inbound[r] = (if q.landing = .idle then { q with toSend := .nak m.toggle } else q) ∧
          StatusCounts (s.count .cmsgNaks) s t
      else if m.sync = false ∧ q.lastAccepted = some m.toggle then
        t.path = s.path ∧
          t.rings.inbound[r] = (if q.landing = .idle then { q with toSend := .ack m.toggle } else q) ∧
          StatusCounts (s.count .cmsgDuplicates) s t
      else if q.landing ≠ .idle then
        t.path = s.path ∧ t.rings.inbound[r] = q ∧ StatusCounts (s.count .cmsgNaks) s t
      else if q.occupied = q.count then
        t.path = s.path ∧ t.rings.inbound[r] = { q with toSend := .nak m.toggle } ∧
          t.status.inboundFull = true ∧ t.counter .cmsgNaks = saturate (s.counter .cmsgNaks) 1
      else
        t.path =
            { s.path with
              other := s.path.other ++
                [{ owner, addr := slot
                   access := .write
                     (leBytes 2 m.payload.length ++
                       [m.tag, BitVec.ofNat 8 ((if m.toggle then 1 else 0) + 2 * (if m.sync then 1 else 0))] ++
                       List.replicate 28 0)
                   live := true }] ++
                splitWrites owner (slot + 0x20) m.payload ++
                indexWrites owner q.producerWord (q.producer + 1) } ∧
          t.rings.nextSerial = s.rings.nextSerial + 1 ∧
          (t.rings.inbound[r]).producer = q.producer + 1 ∧
          (t.rings.inbound[r]).lastAccepted = some m.toggle ∧
          (t.rings.inbound[r]).toSend = q.toSend ∧
          (t.rings.inbound[r]).landing =
            .inProgress s.rings.nextSerial
              ((chunks m.payload.length (slot + 0x20) m.payload.length).length + 2) (some m.toggle) ∧
          (q.count - (q.producer + 1 - q.consumerSeen).toNat ≤ 2 →
            (t.rings.inbound[r]).holdRequested = true) ∧
          StatusCounts (s.count .cmsgLanded) s t) ∧
  (∀ addr n : Nat,
    ((chunks n addr n).map Prod.snd).sum = n ∧ (chunks n addr n).Pairwise (fun a b => a.1 + a.2 ≤ b.1) ∧
      ∀ c ∈ chunks n addr n,
        1 ≤ c.2 ∧ c.1 % 256 + c.2 ≤ 256 ∧ addr ≤ c.1 ∧ c.1 + c.2 ≤ addr + n ∧
          (c.1 = addr ∨ c.1 % 256 = 0)) ∧
  (∀ (p : Piece) (b : ReturnBinding) (s : State), s.rings.ret = b →
    let t := s.takePiece p
    let at_ := b.base + (if p.buffer then b.stride else 0) + p.line * b.pitch + p.offset
    SameCapture s t ∧ t.sched = s.sched ∧ t.link = s.link ∧ t.mbox = s.mbox ∧ SameOutside s t ∧
      t.rings.outbound = s.rings.outbound ∧ t.rings.inbound = s.rings.inbound ∧
      if b.bound = true ∧ p.poison = false ∧ 1 ≤ p.payload.length ∧ p.line < b.lines ∧
          p.offset + p.payload.length ≤ b.pitch ∧ (b.buffer p.buffer).left < 32 then
        t.path =
            { s.path with
              other := s.path.other ++ splitWrites (.returnLanding p.buffer b.serial) at_ p.payload } ∧
          t.rings.ret.buffer p.buffer =
            { b.buffer p.buffer with
              left := (b.buffer p.buffer).left +
                (chunks p.payload.length at_ p.payload.length).length
              completed := (b.buffer p.buffer).completed + (if p.last then 1 else 0) } ∧
          t.rings.ret.buffer (!p.buffer) = b.buffer (!p.buffer) ∧
          StatusCounts (s.count .returnPiecesLanded) s t
      else t.path = s.path ∧ t.rings = s.rings ∧ StatusCounts (s.count .returnPiecesDiscarded) s t) ∧
  (∀ (sel poison : Bool) (frame : BitVec 16) (b : ReturnBuffer) (s : State), s.rings.ret.buffer sel = b →
    let t := s.takeReturnEnd sel frame poison
    let lines :=
      match b.due with
      | none => b.completed
      | some (_, n) => n
    let completed :=
      match b.due with
      | none => 0
      | some _ => b.completed
    SameCapture s t ∧ t.sched = s.sched ∧ t.link = s.link ∧ t.mbox = s.mbox ∧ t.straps = s.straps ∧
      t.out = s.out ∧ t.pending = s.pending ∧ t.status = s.status ∧
      if s.rings.ret.bound = true ∧ poison = false then
        t.rings.ret.buffer (!sel) = s.rings.ret.buffer (!sel) ∧
          match s.rings.ret.doneWord with
          | some a =>
            if b.left = 0 then
              t.rings.ret.buffer sel = { b with due := none, completed } ∧
                t.path = { s.path with other := s.path.other ++ [s.doneWrite sel frame lines a] }
            else
              t.rings.ret.buffer sel = { b with due := some (frame, lines), completed } ∧
                t.path = s.path
          | none =>
            t.rings.ret.buffer sel = { b with due := some (frame, lines), completed } ∧ t.path = s.path
      else t.rings = s.rings ∧ t.path = s.path) ∧
  (∀ (n : Nat) (s : State),
    s.linesField n = if n < 65536 then n else (Config.linesCompletedField s.free).toNat)

/-- An ACK with the ring's toggle retires the record in flight, or due to be sent again, DELIVERED: the status
is written before the consumer word, the toggle flips and sync-needed is no, the next record is fetched, and
every other ring and block stays. An ACK of the other toggle, or one taken with the head record EMPTY, FETCHING,
PLACED, or READY with a send count of 0, changes nothing. A NAK with the ring's toggle ends the send of the
record in flight as the timeout does, and another NAK changes nothing. The end of a send makes a resend due
while the send count is below the budget + 1, and else retires the record FAILED and halts the ring, also where
the count has passed that number (the model's reading, log entry 31). The status write carries the send count;
one beyond a byte is a free value (log entry 36). -/
def Obligations.ReliableSendEnds : Prop :=
  ((∀ (r : Fin 4) (sr : SendRecord) (o : OutRing) (s : State), s.rings.outbound[r] = o →
     (o.head = .inFlight sr ∨ (o.head = .ready sr ∧ 0 < o.sendCount)) → o.kind = .reliable →
     let t := s.takeAnswer r (.ack o.toggle)
     let next : OutRing :=
       { o with
         consumer := o.consumer + 1, toggle := !o.toggle, syncNeeded := false, sendCount := 0
         head := (t.rings.outbound[r]).head }
     t.rings =
         { s.rings with outbound := s.rings.outbound.set r next, nextSerial := t.rings.nextSerial } ∧
       FetchFollows r s t ∧
       t.path =
         { s.path with
           egress := t.path.egress
           other := s.path.other ++ retireWrites o 2 (s.attemptsByte o.sendCount) sr.length } ∧
       t.status =
         { s.status with
           events := if sr.attention then s.status.events ||| Event.ringAttn.mask else s.status.events } ∧
       SameCapture s t ∧ t.sched = s.sched ∧ t.link = s.link ∧ t.mbox = s.mbox ∧ t.straps = s.straps ∧
       t.out = s.out ∧ t.pending = s.pending ∧
       t.free = (if o.sendCount < 256 then s.free else s.free + 1)) ∧
   (∀ (r : Fin 4) (toggle : Bool) (o : OutRing) (s : State), s.rings.outbound[r] = o →
     (toggle ≠ o.toggle ∨ o.head = .empty ∨ (∃ n, o.head = .fetching n) ∨ (∃ sr, o.head = .placed sr) ∨
       ((∃ sr, o.head = .ready sr) ∧ o.sendCount = 0)) →
     s.takeAnswer r (.ack toggle) = s) ∧
   (∀ (n : Nat) (s : State),
     s.attemptsByte n = if n < 256 then BitVec.ofNat 8 n else Config.attemptsField s.free)) ∧
  (∀ (r : Fin 4) (sr : SendRecord) (s : State), (s.rings.outbound[r]).head = .inFlight sr →
     (s.rings.outbound[r]).kind = .reliable → s.link.state = .up →
     reached s.link.count ((s.rings.outbound[r]).sentFrame + 4) = true →
     ∃ t, exec (.ackTimeout r) s = .next t ∧ SendEnded r sr s t) ∧
  (∀ (r : Fin 4) (sr : SendRecord) (s : State), (s.rings.outbound[r]).head = .inFlight sr →
     (s.rings.outbound[r]).kind = .reliable →
     SendEnded r sr s (s.takeAnswer r (.nak (s.rings.outbound[r]).toggle))) ∧
  (∀ (r : Fin 4) (toggle : Bool) (s : State),
     (toggle ≠ (s.rings.outbound[r]).toggle ∨ ∀ sr, (s.rings.outbound[r]).head ≠ .inFlight sr) →
     s.takeAnswer r (.nak toggle) = s) ∧
  (∀ (r : Fin 4) (s : State), s.takeAnswer r .none = s)

/-! ### The mailbox -/

/-- A parameter word covered whole is captured FRESH in its slot; a torn one makes its slot STALE, counts
and sets PARAM_TORN; while INITIALIZING neither is tapped. An acknowledge word clears the events and flags
it names, and the guard fault record with GUARD; the enable set, the slots, the command state and the
counters stay. -/
def Obligations.ParameterAndAcknowledgeWords : Prop :=
  (∀ (i : Fin 8) (value : Option Word) (s : State),
     ∃ t, exec (.parameterWordWrite i value) s = .next t ∧ t.path = s.path ∧ SameCapture s t ∧
       SameLink s t ∧ SameOutside s t ∧
       if s.path.mode = .initializing then t.mbox = s.mbox ∧ t.status = s.status
       else
         match value with
         | some v =>
           t.mbox = { s.mbox with slots := s.mbox.slots.set i { value := v, fresh := true } } ∧
             SameStatus s t
         | none =>
           t.mbox =
               { s.mbox with slots := s.mbox.slots.set i { s.mbox.slots[i] with fresh := false } } ∧
             t.status =
               { s.status with
                 due := t.status.due, paramTorn := true
                 counters := (s.count .mailboxTornWords).status.counters }) ∧
  (∀ (value : Word) (s : State), s.path.mode = .ready →
     ∃ t, exec (.acknowledge value) s = .next t ∧
       (∀ e : Event, t.eventPending e =
         (s.eventPending e && decide (BitVec.ofNat 10 value.toNat &&& e.mask = 0))) ∧
       t.status.launchLost = (s.status.launchLost && !value.getLsbD 16) ∧
       t.status.paramTorn = (s.status.paramTorn && !value.getLsbD 17) ∧
       t.status.inboundFull = (s.status.inboundFull && !value.getLsbD 18) ∧
       t.status.enable = s.status.enable ∧ t.status.counters = s.status.counters ∧
       t.path = { s.path with guard := if value.getLsbD 8 then none else s.path.guard } ∧
       t.mbox = s.mbox ∧ SameCapture s t ∧ SameLink s t ∧ SameOutside s t)

/-- A launch received while a command is RUNNING is lost, but for a RESTART whose declared count is 0:
LAUNCH_LOST is set, and nothing else changes (R149). -/
def Obligations.LaunchWhileRunningIsLost : Prop :=
  (∀ (c : Instr) (code : BitVec 8) (n : BitVec 4) (tag : BitVec 8) (r : CommandTag) (s : State),
    launchOf c = some (code, n, tag) → c.wf = true → s.path.mode = .ready → s.mbox.running = some r →
    (code ≠ Command.restart.code ∨ n ≠ 0) →
    ∃ t, exec c s = .next t ∧
      t.status = { s.status with launchLost := true, due := t.status.due } ∧ t.mbox = s.mbox ∧
      t.path = s.path ∧ SameCapture s t ∧ SameLink s t ∧ SameOutside s t) ∧
  (∀ (tag : BitVec 8) (r : CommandTag) (s : State), s.path.mode = .ready → s.mbox.running = some r →
    ∃ t, exec (.restart 0 tag) s = .next t ∧
      t.mbox.running = some { code := Command.restart.code, tag })

/-- A launch in the command state IDLE that fails a check makes every slot STALE and issues one result
word FAILED with the code of the first check that fails: UNKNOWN_OP, SHAPE, STALE, then the command's own,
which are spelled in order for each of the seventeen, with the codes and the parameter counts;
no other state changes, but for the cause of a HALTED outbound ring whose RESUME RING reaches its own checks
and fails, which becomes INDEX (the model's reading, log entry 21). A LINK CONTROL
whose P0 names another operation is that operation's row (log entry 24). -/
def Obligations.FailedLaunchWritesResult : Prop :=
  (∀ (c : Instr) (code : BitVec 8) (n : BitVec 4) (tag : BitVec 8) (e : ErrorCode) (s : State),
     launchOf c = some (code, n, tag) → c.wf = true → s.path.mode = .ready → s.mbox.running = none →
     (∀ op other, rowOperation c = some op → linkOperation s.mbox.params = some other →
       n = 1 → s.mbox.anyStale 1 = false → other = op) →
     (match Command.ofCode code with
      | none => e = .unknownOp
      | some cmd =>
        if n.toNat ≠ cmd.paramCount then e = .shape
        else if s.mbox.anyStale cmd.paramCount = true then e = .stale
        else cmd.check s.mbox.params s = some e) →
     ∃ t, exec c s = .next t ∧ t.mbox = s.mbox.staled none ∧
       t.path =
         { s.path with other := s.path.other ++ [resultWordWrite s .failed code tag e true] } ∧
       SameCapture s t ∧ t.sched = s.sched ∧ t.link = s.link ∧
       (∀ r : Fin 4, code = Command.resumeRing.code → n = 1 → s.mbox.anyStale 1 = false →
         s.mbox.params[0].toNat % 256 = r.val → (s.rings.outbound[r]).state = .halted →
         t.rings =
           { s.rings with
             outbound := s.rings.outbound.set r { s.rings.outbound[r] with cause := .index } }) ∧
       ((code ≠ Command.resumeRing.code ∨ n ≠ 1 ∨ s.mbox.anyStale 1 = true ∨
           ∀ r : Fin 4, s.mbox.params[0].toNat % 256 = r.val → (s.rings.outbound[r]).state ≠ .halted) →
         t.rings = s.rings) ∧
       SameOutside s t ∧ SameStatus s t) ∧
  (∀ (c : Command) (s : State),
    c.check s.mbox.params s = ((s.ownChecks c).find? (fun x => x.1)).map Prod.snd) ∧
  ((∀ (code : BitVec 8) (c : Command), Command.ofCode code = some c ↔ c.code = code) ∧
   [Command.makeWindow, .clearWindow, .lockWindow, .readWindowFirst, .readWindowNext, .openStream,
     .closeStream, .bindRing, .bindReturn, .unbind, .resumeRing, .loadSchedule, .setSplit,
     .linkControl, .snapshotCounters, .setEvents, .restart].map (fun c => (c.code, c.paramCount)) =
     [(0x01, 6), (0x02, 1), (0x03, 1), (0x04, 0), (0x05, 0), (0x06, 4), (0x07, 0), (0x08, 4), (0x09, 4),
       (0x0A, 1), (0x0B, 1), (0x0C, 1), (0x0D, 1), (0x0E, 1), (0x0F, 1), (0x10, 1), (0x11, 0)] ∧
   [ErrorCode.noError, .unknownOp, .shape, .stale, .range, .locked, .inUse, .stateError, .unboundError,
     .memory, .noAgreement, .superseded, .linkBusy, .aborted].map ErrorCode.code =
     [0, 1, 2, 3, 4, 5, 6, 7, 8, 9, 10, 11, 12, 13] ∧
   [ResultStatus.running, .done, .failed].map ResultStatus.code = [0, 1, 2]) ∧
  ((∀ (n : Nat) (m : Mailbox), m.anyStale n = true ↔ ∃ i : Fin 8, i.val < n ∧ (m.slots[i]).fresh = false) ∧
   (∀ (m : Mailbox) (i : Fin 8), m.params[i] = (m.slots[i]).value) ∧
   (∀ (w : Word) (hi lo : Nat), lo ≤ hi →
     bits w hi lo = (w.extractLsb' lo (hi + 1 - lo)).toNat))

/-! ### The commands of the mailbox -/

/-- MAKE, CLEAR and LOCK WINDOW change the entry named whole, and nothing else but their results; a locked or
named entry is refused by their own checks, and so is an index above 31, with RANGE. The entry made is P0's
kind, P1's base, P2's size, P3's sets and, for CAPTURE, the geometry of P4 and P5, unlocked; an accepted MAKE
WINDOW has an entry neither locked nor named by the stream, a base and size aligned to 256 within 2^40, no ID 15
in its sets, a geometry in R20's ranges and no byte of the mailbox page. -/
def Obligations.MapCommandsChangeOneEntry : Prop :=
  (∀ (cmd : Command) (c : Instr) (count : BitVec 4) (tag : BitVec 8) (s : State),
    (cmd, c) ∈
      [(Command.makeWindow, Instr.makeWindow count tag), (.clearWindow, .clearWindow count tag),
       (.lockWindow, .lockWindow count tag)] →
    s.path.mode = .ready → s.mbox.running = none → count.toNat = cmd.paramCount →
    s.mbox.anyStale cmd.paramCount = false → 32 ≤ s.mbox.params[0].toNat % 256 →
    ∃ t, exec c s = .next t ∧ t.mbox = s.mbox.staled none ∧
      t.path =
        { s.path with
          other := s.path.other ++ [resultWordWrite s .failed cmd.code tag .range true] } ∧
      SameCapture s t ∧ SameLink s t ∧ SameOutside s t ∧ SameStatus s t) ∧
  (∀ (count : BitVec 4) (tag : BitVec 8) (i : Fin 32) (s : State), s.mbox.params[0].toNat % 256 = i.val →
    let named := s.tracker.stream.state = .closed ∨ i ∉ s.tracker.stream.windows
    (s.Accepts .makeWindow count →
      let p := s.mbox.params
      let capture := bits p[0] 9 8 = 1
      let segLen := bits p[4] 15 0
      let pitch := bits p[4] 48 32
      (s.map.windows[i]).locked = false ∧ named ∧ (bits p[0] 9 8 = 1 ∨ bits p[0] 9 8 = 2) ∧
      p[1].toNat % 256 = 0 ∧ 1 ≤ p[2].toNat ∧ p[2].toNat % 256 = 0 ∧
      p[1].toNat + p[2].toNat ≤ 2 ^ 40 ∧ p[3].getLsbD 15 = false ∧ p[3].getLsbD 31 = false ∧
      (capture →
        16 ≤ segLen ∧ segLen ≤ 8192 ∧ segLen % 16 = 0 ∧ pitch % 16 = 0 ∧ segLen ≤ pitch ∧ pitch ≤ 65536 ∧
          p[5].toNat % 16 = 0 ∧ pitch ≤ p[5].toNat ∧ p[5].toNat ≤ p[2].toNat) ∧
      (p[1].toNat + p[2].toNat ≤ s.straps.mailboxPage ∨
        s.straps.mailboxPage + 0x1000 ≤ p[1].toNat) ∧
      ∃ t, exec (.makeWindow count tag) s = .next t ∧
        t.map =
          { s.map with
            windows := s.map.windows.set i
              { kind := if capture then .capture else .guard, base := p[1].toNat, size := p[2].toNat
                writers := BitVec.ofNat 16 (bits p[3] 15 0), readers := BitVec.ofNat 16 (bits p[3] 31 16)
                locked := false, segLen := if capture then segLen else 0
                pitch := if capture then pitch else 0, stride := if capture then p[5].toNat else 0 } } ∧
        CompletesAtOnce .makeWindow tag [] [numberWord i.val] s t ∧ t.tracker = s.tracker ∧
        t.stitch = s.stitch ∧ SameLink s t ∧ SameOutside s t ∧ SameStatus s t) ∧
    (s.Accepts .clearWindow count →
      (s.map.windows[i]).locked = false ∧ named ∧
      ∃ t, exec (.clearWindow count tag) s = .next t ∧
        t.map = { s.map with windows := s.map.windows.set i Window.free } ∧
        CompletesAtOnce .clearWindow tag [] [numberWord i.val] s t ∧ t.tracker = s.tracker ∧
        t.stitch = s.stitch ∧ SameLink s t ∧ SameOutside s t ∧ SameStatus s t) ∧
    (s.Accepts .lockWindow count →
      (s.map.windows[i]).kind ≠ .free ∧
      ∃ t, exec (.lockWindow count tag) s = .next t ∧
        t.map =
          { s.map with windows := s.map.windows.set i { s.map.windows[i] with locked := true } } ∧
        CompletesAtOnce .lockWindow tag [] [numberWord i.val] s t ∧ t.tracker = s.tracker ∧
        t.stitch = s.stitch ∧ SameLink s t ∧ SameOutside s t ∧ SameStatus s t))

/-- A walk step reports the valid entry of lowest index from index 0 or from the cursor, with every field
and END OF TABLE, and moves the cursor past it; with none it reports VALID clear and the cursor is 32
(R31, R32). -/
def Obligations.WalkReportsNextEntry : Prop :=
  ∀ (first : Bool) (tag : BitVec 8) (s : State), s.path.mode = .ready → s.mbox.running = none →
    ∃ (t : State) (data : List Word),
      exec (if first then .readWindowFirst 0 tag else .readWindowNext 0 tag) s = .next t ∧
      CompletesAtOnce (if first then .readWindowFirst else .readWindowNext) tag [] data s t ∧
      t.map.windows = s.map.windows ∧ t.tracker = s.tracker ∧ t.stitch = s.stitch ∧ SameLink s t ∧
      SameOutside s t ∧ SameStatus s t ∧
      (∀ i : Fin 32, (s.map.windows[i]).kind ≠ .free → (if first then 0 else s.map.cursor) ≤ i.val →
        (∀ j : Fin 32, j < i → (if first then 0 else s.map.cursor) ≤ j.val →
          (s.map.windows[j]).kind = .free) →
        t.map.cursor = i.val + 1 ∧
          data =
            [numberWord (i.val + 256 +
                512 * (if ∀ j : Fin 32, i < j → (s.map.windows[j]).kind = .free then 1 else 0) +
                65536 * (s.map.windows[i]).kind.code +
                16777216 * (if (s.map.windows[i]).locked then 1 else 0)),
             numberWord (s.map.windows[i]).base, numberWord (s.map.windows[i]).size,
             numberWord ((s.map.windows[i]).writers.toNat + 65536 * (s.map.windows[i]).readers.toNat),
             numberWord ((s.map.windows[i]).segLen + 4294967296 * (s.map.windows[i]).pitch),
             numberWord (s.map.windows[i]).stride]) ∧
      ((∀ i : Fin 32, (if first then 0 else s.map.cursor) ≤ i.val → (s.map.windows[i]).kind = .free) →
        t.map.cursor = 32 ∧ data = [numberWord 512])

/-- The walk cursor stays from 0 to 32, is 0 after power-on reset and after restart, and is moved by READ
WINDOW FIRST and READ WINDOW NEXT: MAKE, CLEAR and LOCK WINDOW leave it (R30). -/
def Obligations.WalkCursorMoves : Prop :=
  (∀ s t : State, s.CursorInRange → step s = .next t → t.CursorInRange) ∧
  (∀ (m k : BitVec 4) (a : Bool) (s t : State), exec (.powerOnReset m k a) s = .next t → t.map.cursor = 0) ∧
  (∀ s t : State, exec .restartN s = .next t → t.map.cursor = 0) ∧
  (∀ (tag : BitVec 8) (s t : State), s.path.mode = .ready → exec (.restart 0 tag) s = .next t →
    t.map.cursor = 0) ∧
  (∀ (c : Instr) (s t : State), exec c s = .next t → mayReset c = false →
    (∀ n tag, c ≠ .readWindowFirst n tag ∧ c ≠ .readWindowNext n tag) → t.map.cursor = s.map.cursor)

/-- OPEN STREAM sets up the stream in one change with nothing framed, its windows those of
P0's list in order; CLOSE STREAM makes it DRAINING and
runs, or ends at once with the stream CLOSED when the frame list and the video queue are empty. -/
def Obligations.StreamOpensAndCloses : Prop :=
  ∀ (count : BitVec 4) (tag : BitVec 8) (s : State),
    (s.Accepts .openStream count →
      ∃ (t : State) (payload : Nat), exec (.openStream count tag) s = .next t ∧
        (t.tracker.stream.windows.map (fun w => (s.map.windows[w]).segLen)).sum = payload ∧
        t.tracker =
          { Tracker.empty with
            stream :=
              { state := .openState
                windows := t.tracker.stream.windows
                lines := bits s.mbox.params[1] 15 0, slotCount := bits s.mbox.params[1] 23 16
                timeout := bits s.mbox.params[2] 7 0, holdLimit := bits s.mbox.params[2] 15 8
                markWord := s.mbox.params[3].toNat, linePayload := payload } } ∧
        t.tracker.stream.windows.map Fin.val =
          (List.range (bits s.mbox.params[0] 7 0)).map
            (fun k => bits s.mbox.params[0] (8 * k + 15) (8 * k + 8)) ∧
        t.stitch = { s.stitch with entries := [] } ∧ t.map = s.map ∧
        CompletesAtOnce .openStream tag [] [numberWord payload] s t ∧ SameLink s t ∧ SameOutside s t ∧
        SameStatus s t) ∧
    (s.Accepts .closeStream count →
      ∃ t, exec (.closeStream count tag) s = .next t ∧ t.map = s.map ∧ t.stitch = s.stitch ∧
        SameLink s t ∧ SameOutside s t ∧
        if s.tracker.frames = [] ∧ s.sched.queue = [] then
          t.tracker.stream = Stream.closed ∧ t.mbox.running = none ∧
            t.eventPending .streamClosed = true ∧
            t.path =
              { s.path with
                other := s.path.other ++ [runningWrite s .closeStream tag] ++
                  finalWrites s Command.closeStream.code tag .noError
                    [BitVec.ofNat 64 s.link.count.toNat] }
        else
          t.tracker =
              { s.tracker with stream := { s.tracker.stream with state := .draining } } ∧
            t.mbox = s.mbox.staled (some { code := Command.closeStream.code, tag }) ∧
            t.path = { s.path with other := s.path.other ++ [runningWrite s .closeStream tag] } ∧
            SameStatus s t)

/-- BIND RING binds the ring named with every index at 0 and writes 0 to the word the part owns; BIND
RETURN binds the return picture with both buffers empty and makes a release due. -/
def Obligations.BindingsStartFresh : Prop :=
  ∀ (count : BitVec 4) (tag : BitVec 8) (s : State),
    (∀ r : Fin 4, s.Accepts .bindRing count → s.mbox.params[0].toNat % 256 = r.val →
      ∃ t, exec (.bindRing count tag) s = .next t ∧
        t.rings =
          { s.rings with
            outbound := s.rings.outbound.set r
              { OutRing.unbound with
                state := .active
                kind := if bits s.mbox.params[0] 15 8 = 1 then .reliable else .plain
                count := bits s.mbox.params[0] 31 16, base := s.mbox.params[1].toNat
                producerWord := some s.mbox.params[2].toNat
                consumerWord := some s.mbox.params[3].toNat
                syncNeeded := decide (bits s.mbox.params[0] 15 8 = 1) } } ∧
        CompletesAtOnce .bindRing tag
          [{ owner := .indexWord, addr := s.mbox.params[3].toNat,
             access := .write [0, 0, 0, 0, 0, 0, 0, 0], live := true }] [numberWord r.val] s t ∧
        SameCapture s t ∧ t.sched = s.sched ∧ t.link = s.link ∧ SameOutside s t ∧ SameStatus s t) ∧
    (∀ r : Fin 2, s.Accepts .bindRing count → s.mbox.params[0].toNat % 256 = r.val + 4 →
      ∃ t, exec (.bindRing count tag) s = .next t ∧
        t.rings =
          { s.rings with
            inbound := s.rings.inbound.set r
              { InRing.unbound with
                state := .active, count := bits s.mbox.params[0] 31 16
                base := s.mbox.params[1].toNat, producerWord := some s.mbox.params[2].toNat
                consumerWord := some s.mbox.params[3].toNat
                holdRequested := decide (bits s.mbox.params[0] 31 16 ≤ 2) } } ∧
        CompletesAtOnce .bindRing tag
          [{ owner := .indexWord, addr := s.mbox.params[2].toNat,
             access := .write [0, 0, 0, 0, 0, 0, 0, 0], live := true }] [numberWord (r.val + 4)] s t ∧
        SameCapture s t ∧ t.sched = s.sched ∧ t.link = s.link ∧ SameOutside s t ∧ SameStatus s t) ∧
    (s.Accepts .bindReturn count →
      ∃ t, exec (.bindReturn count tag) s = .next t ∧
        t.rings =
          { s.rings with
            nextSerial := s.rings.nextSerial + 1
            ret :=
              { ReturnBinding.unbound with
                bound := true, base := s.mbox.params[1].toNat, pitch := bits s.mbox.params[0] 48 32
                lines := bits s.mbox.params[0] 15 0, stride := s.mbox.params[2].toNat
                doneWord := some s.mbox.params[3].toNat, serial := s.rings.nextSerial
                releaseDue := true } } ∧
        CompletesAtOnce .bindReturn tag [] [numberWord 6] s t ∧
        SameCapture s t ∧ t.sched = s.sched ∧ t.link = s.link ∧ SameOutside s t ∧ SameStatus s t)

/-- UNBIND gives what it names its reset values, without a write; RESUME RING makes a HALTED ring ACTIVE with
the written index, a RELIABLE one under SYNC; an outbound ring with an EMPTY head record and records pending
fetches at once. -/
def Obligations.UnbindAndResume : Prop :=
  ∀ (count : BitVec 4) (tag : BitVec 8) (s : State),
    (s.Accepts .unbind count →
      ∃ t, exec (.unbind count tag) s = .next t ∧
        t.rings =
          (if h : s.mbox.params[0].toNat % 256 < 4 then
            { s.rings with outbound := s.rings.outbound.set (s.mbox.params[0].toNat % 256) OutRing.unbound }
           else if h : s.mbox.params[0].toNat % 256 - 4 < 2 then
            { s.rings with inbound := s.rings.inbound.set (s.mbox.params[0].toNat % 256 - 4) InRing.unbound }
           else { s.rings with ret := ReturnBinding.unbound }) ∧
        CompletesAtOnce .unbind tag [] [numberWord (s.mbox.params[0].toNat % 256)] s t ∧
        SameCapture s t ∧ t.sched = s.sched ∧ t.link = s.link ∧ SameOutside s t ∧ SameStatus s t) ∧
    (∀ r : Fin 4, s.Accepts .resumeRing count → s.mbox.params[0].toNat % 256 = r.val →
      (s.rings.outbound[r]).state = .halted ∧
      ∃ t, exec (.resumeRing count tag) s = .next t ∧
        (t.rings.outbound[r]).state = .active ∧ (t.rings.outbound[r]).cause = .none ∧
        (t.rings.outbound[r]).producerSeen = (s.rings.outbound[r]).producerWritten ∧
        (t.rings.outbound[r]).consumer = (s.rings.outbound[r]).consumer ∧
        ((s.rings.outbound[r]).kind = .reliable → (t.rings.outbound[r]).syncNeeded = true) ∧
        ((s.rings.outbound[r]).head ≠ .empty → (t.rings.outbound[r]).head = (s.rings.outbound[r]).head) ∧
        (let o := s.rings.outbound[r]
         t.path.egress =
             s.path.egress ++
               (if o.head = .empty ∧ o.producerWritten ≠ o.consumer then
                 [{ owner := .recordFetch r s.rings.nextSerial
                    addr := o.base + (o.consumer.toNat % o.count) * 64, access := .read 64, live := true }]
                else []) ∧
           (o.head = .empty →
             (t.rings.outbound[r]).head =
               if o.producerWritten ≠ o.consumer then .fetching s.rings.nextSerial else .empty)) ∧
        (∀ q : Fin 4, q ≠ r → t.rings.outbound[q] = s.rings.outbound[q]) ∧
        t.rings.inbound = s.rings.inbound ∧ t.rings.ret = s.rings.ret ∧
        t.mbox = s.mbox.staled none ∧
        t.path.other = s.path.other ++ [runningWrite s .resumeRing tag] ++
          finalWrites s Command.resumeRing.code tag .noError [numberWord r.val] ∧
        SameCapture s t ∧ t.sched = s.sched ∧ t.link = s.link ∧ SameOutside s t ∧ SameStatus s t) ∧
    (∀ r : Fin 2, s.Accepts .resumeRing count → s.mbox.params[0].toNat % 256 = r.val + 4 →
      (s.rings.inbound[r]).state = .halted ∧
      ∃ t, exec (.resumeRing count tag) s = .next t ∧
        (t.rings.inbound[r]).state = .active ∧ (t.rings.inbound[r]).cause = .none ∧
        (t.rings.inbound[r]).consumerSeen = (s.rings.inbound[r]).consumerWritten ∧
        (t.rings.inbound[r]).lastAccepted = (s.rings.inbound[r]).lastAccepted ∧
        CompletesAtOnce .resumeRing tag [] [numberWord (r.val + 4)] s t)

/-- LOAD SCHEDULE reads the image and runs; the response fails it with MEMORY, or with what validation finds
first, or stages the image with the due condition that the schedule state gives. Validation goes slot by slot
and entry by entry, each slot up to its first end entry; the first entry that fails decides: RANGE for a source
that is none of the six or a quota above 63, UNBOUND for an UNBOUND ring. (That RANGE comes before UNBOUND, and
that an end entry's quota is validated too, is the model's choice, log entry 20.) A slot of the schedule holds
the sources and quotas of the entries before its first end entry. -/
def Obligations.ScheduleLoadsAndStages : Prop :=
  (∀ (count : BitVec 4) (tag : BitVec 8) (s : State), s.Accepts .loadSchedule count →
    ∃ t, exec (.loadSchedule count tag) s = .next t ∧
      t.mbox = s.mbox.staled (some { code := Command.loadSchedule.code, tag }) ∧
      t.path =
        { s.path with
          other := s.path.other ++
            [runningWrite s .loadSchedule tag,
             { owner := .scheduleImage, addr := s.mbox.params[0].toNat, access := .read 256,
               live := true }] } ∧
      SameCapture s t ∧ SameLink s t ∧ SameOutside s t ∧ SameStatus s t) ∧
  (∀ (k : Nat) (error : Bool) (data : List Byte) (q : OwnRequest) (rest : List OwnRequest)
    (tag : BitVec 8) (s : State), takeNth OwnRequest.isImageRead k s.path.ownOut = some (q, rest) →
    q.live = true → s.mbox.running = some { code := Command.loadSchedule.code, tag } →
    ∃ t, exec (.scheduleImageResponse k error data) s = .next t ∧
      t.mbox = { s.mbox with running := none } ∧ t.path.ownOut = rest ∧ SameCapture s t ∧
      t.rings = s.rings ∧ t.link = s.link ∧ SameOutside s t ∧ SameStatus s t ∧
      if error = true then
        t.sched = s.sched ∧
          t.path.other =
            s.path.other ++ finalWrites s Command.loadSchedule.code tag .memory []
      else
        match validateImage s.rings data 16 0 with
        | .error (e, slot, entry) =>
          t.sched = s.sched ∧
            t.path.other =
              s.path.other ++
                finalWrites s Command.loadSchedule.code tag e [numberWord (slot + 256 * entry)]
        | .ok slots =>
          t.sched =
              { s.sched with
                staged := some
                  (scheduleOf slots, if s.sched.state = .active then .nextCycle else .nextFrame) } ∧
            t.path.other =
              s.path.other ++
                finalWrites s Command.loadSchedule.code tag .noError
                  [numberWord
                    (dueCount s.link.count
                      (if s.sched.state = .active then .nextCycle else .nextFrame)).toNat]) ∧
  (∀ count : FrameCount,
    dueCount count .nextFrame = count + 1 ∧ (dueCount count .nextCycle).toNat % 16 = 0 ∧
      1 ≤ (dueCount count .nextCycle - count).toNat ∧ (dueCount count .nextCycle - count).toNat ≤ 16) ∧
  (∀ (u : RingUnit) (image : List Byte) (c : ErrorCode) (slot e : Nat),
    validateImage u image 16 0 = .error (c, slot, e) ↔
      slot < 16 ∧ e < 8 ∧ imageListed image slot e ∧ imageFault u image slot e = some c ∧
        ∀ slot' e', slot' < 16 → e' < 8 → imageListed image slot' e' →
          (slot' < slot ∨ (slot' = slot ∧ e' < e)) → imageFault u image slot' e' = none) ∧
  (∀ (u : RingUnit) (image : List Byte) (slots : List (List ServiceEntry)) (i : Fin 16),
    validateImage u image 16 0 = .ok slots →
      ∃ n, n ≤ 8 ∧ imageListed image i.val n ∧ (n = 8 ∨ byteAt image (16 * i.val + 2 * n) = 0) ∧
        ((scheduleOf slots)[i]).length = n ∧
        ∀ (e : Nat) (x : ServiceEntry), ((scheduleOf slots)[i])[e]? = some x →
          x.quota = (byteAt image (16 * i.val + 2 * e + 1)).toNat ∧
            ((byteAt image (16 * i.val + 2 * e) = 1 ∧ x.source = .video) ∨
              ∃ r : Fin 4, (byteAt image (16 * i.val + 2 * e)).toNat = r.val + 2 ∧ x.source = .ring r)) ∧
  (∀ q : OwnRequest, q.isImageRead = true ↔ q.owner = .scheduleImage)

/-- SET SPLIT stores the split at once while the link is not UP; while UP it creates a SPLIT change with
an effective count 8 later and runs. -/
def Obligations.SetSplitStoresOrCreatesChange : Prop :=
  ∀ (count : BitVec 4) (tag : BitVec 8) (s : State), s.Accepts .setSplit count →
    splitInRange (bits s.mbox.params[0] 15 0) (bits s.mbox.params[0] 31 16) ∧
    ∃ t, exec (.setSplit count tag) s = .next t ∧ SameCapture s t ∧ t.sched = s.sched ∧
      t.rings = s.rings ∧ SameOutside s t ∧ SameStatus s t ∧
      if s.link.state = .up then
        t.link =
            { s.link with
              change := some
                { change := .split (bits s.mbox.params[0] 15 0) (bits s.mbox.params[0] 31 16)
                  effective := s.link.count + 8, echoed := false } } ∧
          t.mbox = s.mbox.staled (some { code := Command.setSplit.code, tag }) ∧
          t.path = { s.path with other := s.path.other ++ [runningWrite s .setSplit tag] }
      else
        t.link =
            { s.link with
              splitF := bits s.mbox.params[0] 15 0, splitRt := bits s.mbox.params[0] 31 16 } ∧
          CompletesAtOnce .setSplit tag []
            [numberWord (bits s.mbox.params[0] 15 0 + 65536 * bits s.mbox.params[0] 31 16),
             BitVec.ofNat 64 s.link.count.toNat] s t

/-- LINK CONTROL ENABLE sets the ceiling and takes a DOWN link to PROBING; DISABLE takes any link DOWN;
RETRAIN takes a link that is not UP to PROBING afresh. (Leaving UP is LeavingUpClearsSession.) -/
def Obligations.LinkControlMovesLink : Prop :=
  (∀ (count : BitVec 4) (tag : BitVec 8) (s : State), s.Accepts .linkControl count →
     (∀ c : Rate, linkOperation s.mbox.params = some .enable → linkCeiling s.mbox.params = some c →
       ∃ t, exec (.linkControlEnable count tag) s = .next t ∧ t.link.enabled = true ∧
         t.link.ceiling = c ∧ t.link.rate = s.link.rate ∧
         t.link.state = (if s.link.state = .down then .probing else s.link.state) ∧
         (s.link.state = .down → t.eventPending .linkChange = true ∧ t.link.probeFrames = 0 ∧
           t.link.probeCycles = 0 ∧ t.link.lossRun = 0) ∧
         (s.link.state ≠ .down →
           t.link = { s.link with enabled := true, ceiling := c } ∧ SameStatus s t) ∧
         CompletesAtOnce .linkControl tag []
           [numberWord (t.link.state.code + 256 + 65536 * c.code)] s t ∧
         SameCapture s t ∧ t.sched = s.sched ∧ t.rings = s.rings ∧ SameOutside s t) ∧
     (linkOperation s.mbox.params = some .disable → s.link.state ≠ .up →
       ∃ t, exec (.linkControlDisable count tag) s = .next t ∧ t.link.state = .down ∧
         t.link.enabled = false ∧ (s.link.state ≠ .down → t.eventPending .linkChange = true) ∧
         (s.link.state = .down → SameStatus s t) ∧
         CompletesAtOnce .linkControl tag [] [numberWord (65536 * s.link.ceiling.code)] s t ∧
         SameCapture s t ∧ t.sched = s.sched ∧ t.rings = s.rings ∧ SameOutside s t) ∧
     (linkOperation s.mbox.params = some .retrain → s.link.state ≠ .up →
       s.link.enabled = true ∧
       ∃ t, exec (.linkControlRetrain count tag) s = .next t ∧ t.link.state = .probing ∧
         t.link.probeFrames = 0 ∧ t.link.probeCycles = 0 ∧ t.link.lossRun = 0 ∧
         (s.link.state ≠ .probing → t.eventPending .linkChange = true) ∧
         (s.link.state = .probing → SameStatus s t) ∧
         CompletesAtOnce .linkControl tag [] [numberWord (1 + 256 + 65536 * s.link.ceiling.code)] s t ∧
         SameCapture s t ∧ t.sched = s.sched ∧ t.rings = s.rings ∧ SameOutside s t)) ∧
  (∀ p : Params,
    linkOperation p =
        (if bits p[0] 7 0 = 1 then some .enable
         else if bits p[0] 7 0 = 2 then some .disable
         else if bits p[0] 7 0 = 3 then some .retrain else none) ∧
      linkCeiling p = Rate.ofCode (bits p[0] 15 8)) ∧
  (∀ (n : Nat) (r : Rate), Rate.ofCode n = some r ↔ n = r.code)

/-! ### The status unit -/

/-- A snapshot captures one counter a step, the first at acceptance: the value captured is what is written, the
option acts on that counter alone, and the count of writes not accepted goes up by 1. The order is R170's. -/
def Obligations.SnapshotCapturesInOrder : Prop :=
  (∀ (count : BitVec 4) (tag : BitVec 8) (o : SnapshotOption) (s : State),
    s.Accepts .snapshotCounters count → snapshotOption s.mbox.params = some o →
    ∃ t, exec (.snapshotCounters count tag) s = .next t ∧
      t.status.snapshot = some { option := o, next := 1, left := 1 } ∧
      t.status.counters = s.status.counters.set 0 (o.after s.status.counters[0]) ∧
      t.path =
        { s.path with
          other := s.path.other ++
            [runningWrite s .snapshotCounters tag,
             { owner := .snapshot, addr := s.straps.mailboxPage + 0x200,
               access := .write (leBytes 4 (s.status.counters[0]).toNat), live := true }] } ∧
      t.mbox.running = some { code := Command.snapshotCounters.code, tag } ∧
      t.mbox.staging[0] = BitVec.ofNat 64 s.link.count.toNat ∧
      SameCapture s t ∧ SameLink s t ∧ SameOutside s t) ∧
  (∀ (n : Snapshot) (i : Fin 59) (s : State), s.status.snapshot = some n → n.next = i.val →
    s.path.other.any (fun q => decide (q.owner = .snapshot)) = false →
    ∃ t, exec .snapshotStep s = .next t ∧
      t.status.snapshot = some { n with next := n.next + 1, left := n.left + 1 } ∧
      t.status.counters = s.status.counters.set i (n.option.after s.status.counters[i]) ∧
      t.status.events = s.status.events ∧ t.status.enable = s.status.enable ∧
      t.path =
        { s.path with
          other := s.path.other ++
            [{ owner := .snapshot, addr := s.straps.mailboxPage + 0x200 + 4 * i.val,
               access := .write (leBytes 4 (s.status.counters[i]).toNat), live := true }] } ∧
      SameCapture s t ∧ SameLink s t ∧ SameOutside s t ∧ t.mbox = s.mbox) ∧
  (∀ c : BitVec 32, SnapshotOption.keep.after c = c ∧ SnapshotOption.clear.after c = 0 ∧
    SnapshotOption.preset.after c = 0xFFFFFFF0) ∧
  (∀ p : Params,
    snapshotOption p =
      if p[0].toNat = 0 then some .keep
      else if p[0].toNat = 1 then some .clear
      else if p[0].toNat = 2 then some .preset else none) ∧
  ((∀ k : Fin 6, (Counter.strayWrites k).index.val = 7 + 4 * k.val ∧
     (Counter.damagedSegments k).index.val = 8 + 4 * k.val ∧
     (Counter.rewrites k).index.val = 9 + 4 * k.val ∧ (Counter.lateWrites k).index.val = 10 + 4 * k.val) ∧
   [Counter.blockedWrites, .blockedReads, .initPasses, .heldRequests, .holdExpiries, .mailboxTornWords,
     .watchTornWords].map (fun c => c.index.val) = [0, 1, 2, 3, 4, 5, 6] ∧
   [Counter.unframedWrites, .badMarks, .staleMarks, .linesWhole, .linesTorn, .linesAbsent, .framesDropped,
     .linesDroppedByOverrun, .jobsSunk, .videoPiecesSent, .videoBytesSent, .ringParcelsSent,
     .reliableRetries, .recordsFailed].map (fun c => c.index.val) =
     [31, 32, 33, 34, 35, 36, 37, 38, 39, 40, 41, 42, 43, 44] ∧
   [Counter.recordsTooLarge, .poisonedParcelsSent, .returnWindowsGood, .returnHeaderErrors,
     .returnParcelCheckErrors, .cmsgLanded, .cmsgNaks, .cmsgDuplicates, .returnPiecesLanded,
     .returnPiecesDiscarded, .linkLosses, .rateStepDowns, .trainingFailures,
     .baseReportedErrors].map (fun c => c.index.val) =
     [45, 46, 47, 48, 49, 50, 51, 52, 53, 54, 55, 56, 57, 58])

/-- SET EVENTS replaces the enable set whole by P0, or fails with RANGE for a bit outside the ten events
and leaves it; the result data is the old set, the pending events stay, ATTN follows the new set, and
CMD_DONE comes with the acceptance of the result word (R160). -/
def Obligations.SetEventsReplacesEnableSet : Prop :=
  ∀ (tag : BitVec 8) (s : State), s.path.mode = .ready → s.mbox.running = none →
    s.mbox.slots[0].fresh = true →
    ∃ t, exec (.setEvents 1 tag) s = .next t ∧ t.status.events = s.status.events ∧
      t.mbox = s.mbox.staled none ∧ SameCapture s t ∧ SameLink s t ∧ SameOutside s t ∧
      t.status.counters = s.status.counters ∧
      if 1024 ≤ s.mbox.slots[0].value.toNat then
        t.status.enable = s.status.enable ∧
          t.path =
            { s.path with
              other := s.path.other ++
                [resultWordWrite s .failed Command.setEvents.code tag .range true] }
      else
        t.status.enable = BitVec.ofNat 10 s.mbox.slots[0].value.toNat ∧
          t.attn =
            decide (s.status.events &&& BitVec.ofNat 10 s.mbox.slots[0].value.toNat ≠ 0) ∧
          CompletesAtOnce .setEvents tag [] [numberWord s.status.enable.toNat] s t

/-- ATTN is asserted exactly while some pending event is also enabled; it is deasserted by power-on reset
and by restart, and stays so while the part is INITIALIZING (R166). -/
def Obligations.AttnFollowsEnabledEvents : Prop :=
  (∀ s : State, s.attn = true ↔
    ∃ e : Event, s.status.events &&& e.mask ≠ 0 ∧ s.status.enable &&& e.mask ≠ 0) ∧
  (∀ (m k : BitVec 4) (a : Bool) (s t : State), exec (.powerOnReset m k a) s = .next t → t.attn = false) ∧
  (∀ s t : State, exec .restartN s = .next t → t.attn = false) ∧
  (∀ (tag : BitVec 8) (s t : State), s.path.mode = .ready → exec (.restart 0 tag) s = .next t →
    t.attn = false) ∧
  (∀ (c : Instr) (s t : State), s.InitializingQuiet → exec c s = .next t →
    t.path.mode = .initializing → t.attn = false) ∧
  (∀ (s : State) (e : Event), s.eventPending e = true ↔ s.status.events &&& e.mask ≠ 0)

/-- A status write carries the present value of the word at the head of the due list, which leaves the list;
none is issued while one of the unit's own waits ungranted. The words 0 to 19 hold the fields of section 11.3,
the words 20 to 31 hold 0, and the block is its 32 words in order. (Where no change is pending, no frame is on
the list or no guard fault is recorded, the fields of that record hold 0, which is the model's choice, log entry
39; the effective cells are those in force for the present frame, log entry 25.) -/
def Obligations.StatusWriteCarriesHeadOfDueList : Prop :=
  (∀ (w : Fin 32) (rest : List (Fin 32)) (s : State), s.status.due = w :: rest →
     (s.path.other.any (fun q => decide (q.owner = .status)) = true → exec .statusWriteIssue s = .next s) ∧
     (s.path.other.any (fun q => decide (q.owner = .status)) = false →
       ∃ t, exec .statusWriteIssue s = .next t ∧
         t.path =
           { s.path with
             other := s.path.other ++
               [{ owner := .status, addr := s.straps.mailboxPage + 0x100 + 8 * w.val,
                  access := .write (wordBytes (s.statusWord w.val)), live := true }] } ∧
         t.status = { s.status with due := rest } ∧ SameCapture s t ∧ SameLink s t ∧ SameOutside s t ∧
         t.mbox = s.mbox)) ∧
  (∀ s : State,
    let l := s.link
    let yes (b : Bool) : Nat := if b then 1 else 0
    s.statusWord 0 =
        BitVec.ofNat 64
          ((if s.path.mode = .ready then 1 else 0) + 2 ^ 8 * l.state.code + 2 ^ 16 * yes l.enabled +
            2 ^ 24 * l.ceiling.code + 2 ^ 32 * l.rate.code) ∧
      s.statusWord 1 =
        BitVec.ofNat 64
          ((if l.state = .down then 0 else l.cells.1 + 2 ^ 16 * l.cells.2) + 2 ^ 32 * l.splitF +
            2 ^ 48 * l.splitRt) ∧
      s.statusWord 2 =
        (match l.change with
         | none => 0
         | some c =>
           BitVec.ofNat 64
             ((match c.change with
               | .rate r => 1 + 2 ^ 16 * r.code
               | .split f rt => 2 + 2 ^ 16 * f + 2 ^ 32 * rt) +
               2 ^ 8 * yes c.echoed + 2 ^ 48 * (c.effective.toNat % 2 ^ 16))) ∧
      s.statusWord 3 = BitVec.ofNat 64 (l.probeCycles + 2 ^ 16 * l.tally.toNat) ∧
      s.statusWord 4 =
        BitVec.ofNat 64
          (s.tracker.stream.state.code +
            (match s.tracker.frames with
             | [] => 0
             | f :: _ => 2 ^ 8 + 2 ^ 16 * f.frame.toNat + 2 ^ 32 * f.cursor)) ∧
      s.statusWord 5 =
        BitVec.ofNat 64
          (s.stitch.entries.length + 2 ^ 8 * s.sched.queue.length + 2 ^ 16 * s.sched.state.code) ∧
      (∀ r : Fin 4,
        let o := s.rings.outbound[r]
        s.statusWord (6 + r.val) =
          BitVec.ofNat 64 (o.state.code + 2 ^ 8 * o.cause.code + 2 ^ 16 * o.kind.code)) ∧
      (∀ r : Fin 2,
        let q := s.rings.inbound[r]
        s.statusWord (10 + r.val) =
          BitVec.ofNat 64 (q.state.code + 2 ^ 8 * q.cause.code + 2 ^ 16 * yes q.holdRequested)) ∧
      s.statusWord 12 = BitVec.ofNat 64 (yes s.rings.ret.bound) ∧
      s.statusWord 13 =
        BitVec.ofNat 64
          (s.sched.hold[0].toNat + 2 ^ 8 * s.sched.hold[1].toNat + 2 ^ 16 * s.sched.hold[2].toNat +
            2 ^ 24 * s.sched.hold[3].toNat + 2 ^ 32 * s.sched.hold[4].toNat) ∧
      s.statusWord 14 =
        BitVec.ofNat 64
          (2 ^ 16 * yes s.status.launchLost + 2 ^ 17 * yes s.status.paramTorn +
            2 ^ 18 * yes s.status.inboundFull) ∧
      s.statusWord 15 = s.status.events.setWidth 64 ∧ s.statusWord 16 = s.status.enable.setWidth 64 ∧
      (match s.path.guard with
       | none => s.statusWord 17 = 0 ∧ s.statusWord 18 = 0
       | some g =>
         s.statusWord 17 = g.addr.setWidth 64 ∧
           s.statusWord 18 =
             BitVec.ofNat 64
               (1 + 2 ^ 8 * g.initiator.toNat + 2 ^ 16 * yes g.isWrite + 2 ^ 24 * g.origin.code)) ∧
      s.statusWord 19 = BitVec.ofNat 64 (l.lastDropped.toNat + 2 ^ 16 * l.dropCount.toNat) ∧
      (∀ n, 20 ≤ n → s.statusWord n = 0) ∧
      s.statusBlock.length = 256 ∧
      ∀ n : Fin 32, bytesAt s.statusBlock (8 * n.val) 8 = leBytes 8 (s.statusWord n.val).toNat) ∧
  ([LinkState.down, .probing, .training, .up].map LinkState.code = [0, 1, 2, 3] ∧
   [Rate.quarter, .threeQuarter, .half, .full].map Rate.code = [0, 1, 2, 3] ∧
   [Rate.quarter, .threeQuarter, .half, .full].map Rate.factor = [1, 3, 2, 4] ∧
   [StreamState.closed, .openState, .draining].map StreamState.code = [0, 1, 2] ∧
   [RingState.unbound, .active, .halted].map RingState.code = [0, 1, 2] ∧
   [HaltCause.none, .index, .memory, .failed].map HaltCause.code = [0, 1, 2, 3] ∧
   [RingKind.plain, .reliable].map RingKind.code = [0, 1] ∧
   [ScheduleState.none, .active, .halted].map ScheduleState.code = [0, 1, 2] ∧
   [WindowKind.free, .capture, .guard].map WindowKind.code = [0, 1, 2] ∧
   (∀ i : Fin 32, (Origin.window i).code = i.val) ∧ Origin.mailbox.code = 0x40 ∧ Origin.id15.code = 0x41 ∧
   [Event.cmdDone, .linkChange, .streamClosed, .frameDropped, .ringAttn, .ringHalt, .schedHalt, .tally,
     .guard, .memErr].map Event.mask = [0x001, 0x002, 0x004, 0x008, 0x010, 0x020, 0x040, 0x080, 0x100, 0x200]) ∧
  ((∀ w : Word, wordBytes w = leBytes 8 w.toNat) ∧ (∀ n : Nat, numberWord n = BitVec.ofNat 64 n) ∧
   (∀ lo v : Nat, atBit lo v = v * 2 ^ lo) ∧ flag false = 0 ∧ flag true = 1)

/-- Every status word whose value a command changes while the part is READY is on the due list after it
(init completion writes the whole block instead), and no word is on the list twice. The words of one change
become due in the order in which its rule reaches them: a ring halts before RING_HALT is raised, a failed
record raises RING_ATTN before its ring halts, and a released line's job stands before the cursor moves. (That
order is the model's reading of R162 and section 9.7, log entry 6.) -/
def Obligations.ChangedWordsBecomeDueOnce : Prop :=
  (∀ (c : Instr) (s t : State) (w : Fin 32), exec c s = .next t → c ≠ .initCompletion →
     t.path.mode = .ready → s.statusWord w.val ≠ t.statusWord w.val → w ∈ t.status.due) ∧
  (∀ s t : State, s.DueDistinct → step s = .next t → t.DueDistinct) ∧
  (∀ (r : Fin 4) (value : Word) (o : OutRing) (s : State), s.path.mode = .ready → s.status.due = [] →
    s.rings.outbound[r] = o → o.state = .active → s.eventPending .ringHalt = false →
    (o.count < (BitVec.ofNat 16 value.toNat - o.consumer).toNat ∨
      (BitVec.ofNat 16 value.toNat - o.consumer).toNat < o.head.takenCount) →
    ∃ t, exec (.producerIndexWrite r value) s = .next t ∧ t.status.due = [ringWord r, 15]) ∧
  (∀ (r : Fin 4) (sr : SendRecord) (o : OutRing) (s : State), s.path.mode = .ready → s.status.due = [] →
    s.rings.outbound[r] = o → o.state = .active → o.head = .inFlight sr → s.link.state = .up →
    reached s.link.count (o.sentFrame + 4) = true → sr.retry + 1 ≤ o.sendCount → sr.attention = true →
    s.eventPending .ringAttn = false →
    ∃ t, exec (.ackTimeout r) s = .next t ∧ t.status.due = [15, ringWord r]) ∧
  (∀ (f : FrameRecord) (e : LineEntry) (s : State), s.path.mode = .ready → s.status.due = [] →
    s.path.waiting = [] → s.path.hold = [] → s.EntriesDistinct → s.link.state = .up →
    s.tracker.head = some f → s.stitch.find f.frame f.slot f.cursor = some e → e.state = .whole →
    f.cursor < s.tracker.stream.lines → s.sched.queue.length < 16 →
    ∃ t, exec .release s = .next t ∧ t.status.due = [5, 4])

/-- No counter goes down or wraps, but at power-on reset and at its own capture by a snapshot with CLEAR or
PRESET. A forwarded request may carry one launch, which may be that of the snapshot. -/
def Obligations.CountersNeverFall : Prop :=
  (∀ (c : Instr) (s t : State) (i : Fin 59), exec c s = .next t → (∀ m k a, c ≠ .powerOnReset m k a) →
     (∀ x rest, c = .forwarding → s.path.pass = x :: rest → (x.taps.filter Tap.isLaunch).length ≤ 1) →
     (t.status.counters[i]).toNat < (s.status.counters[i]).toNat →
     ∃ n, t.status.snapshot = some n ∧ n.option ≠ .keep ∧ i.val + 1 = n.next) ∧
  (∀ (c : Counter) (n : Nat) (s : State),
    s.countBy c n =
        { s with
          status :=
            { s.status with
              counters := s.status.counters.set c.index (saturate s.status.counters[c.index] n) } } ∧
      s.count c = s.countBy c 1 ∧
      ∀ v : BitVec 32, (saturate v n).toNat = min (v.toNat + n) 0xFFFFFFFF)

/-! ### The laws that every step keeps -/

/-- A locked entry of the region map is changed by nothing but power-on reset. -/
def Obligations.LockedEntriesKept : Prop :=
  ∀ (c : Instr) (s t : State) (i : Fin 32), exec c s = .next t → (∀ m k a, c ≠ .powerOnReset m k a) →
    (s.map.windows[i]).locked = true → t.map.windows[i] = s.map.windows[i]

/-- The hold queue holds at most 8 requests, the pass queue at most 12, and each initiator with requests
held has its oldest as the one leader. -/
def Obligations.HoldQueueLawKept : Prop :=
  (∀ s t : State, s.PathBounded → step s = .next t → t.PathBounded) ∧
  (∀ s t : State, s.ChainsLed → step s = .next t → t.ChainsLed)

/-- The video queue never holds more than 16 jobs, the stitch table never two entries for one line, and the
frame list never more frames than the slot count or two frames of one slot. (That a mark takes a FRAME_END
that is due first is the model's reading, log entry 40.) -/
def Obligations.VideoQueueAndTableLawsKept : Prop :=
  (∀ s t : State, s.QueueBounded → step s = .next t → t.QueueBounded) ∧
  (∀ s t : State, s.EntriesDistinct → step s = .next t → t.EntriesDistinct) ∧
  (∀ s t : State, s.FramesOnSlots → step s = .next t → t.FramesOnSlots)

/-- While INITIALIZING nothing is held, tapped, enabled or due, and the stream is CLOSED. -/
def Obligations.InitializingQuietKept : Prop :=
  ∀ s t : State, s.InitializingQuiet → step s = .next t → t.InitializingQuiet

/-- The counts of the link unit and both splits stay in their ranges. -/
def Obligations.LinkRangesKept : Prop :=
  (∀ s t : State, s.LinkInRange → step s = .next t → t.LinkInRange) ∧
  (∀ s t : State, s.SplitInRange → step s = .next t → t.SplitInRange)

/-- A change is pending only while UP, and the running command is the one whose end its block owes. -/
def Obligations.RunningCommandMatchesKept : Prop :=
  ∀ s t : State, s.RunningMatches → step s = .next t → t.RunningMatches

/-- An inbound ring never has more slots occupied than it has, a record in flight is a RELIABLE ring's, and
the consumer index of an outbound ring never passes its producer seen. -/
def Obligations.RingLawsKept : Prop :=
  (∀ s t : State, s.InboundBounded → step s = .next t → t.InboundBounded) ∧
  (∀ s t : State, s.HeadsFit → step s = .next t → t.HeadsFit) ∧
  (∀ s t : State, s.OutboundIndexed → step s = .next t → t.OutboundIndexed)
end

