-- ==== Sys2Proof/Laws/Agree.lean ====
section
/-!
SUPPORT. Agreement of two states of one block in all but some of its parts, as the lemmas about the
operations use it.
-/

namespace Sys2Proof.Machine

/-- Agreement but in the OTHER class. -/
@[simp] abbrev PathUnit.SameButOther (x y : PathUnit) : Prop :=
    y.mode = x.mode ∧ y.waiting = x.waiting ∧ y.pass = x.pass ∧ y.hold = x.hold ∧
    y.egress = x.egress ∧ y.lastSide = x.lastSide ∧ y.guard = x.guard ∧
    y.forwarded = x.forwarded ∧ y.ownOut = x.ownOut

/-- Agreement but in the two classes of own requests. -/
@[simp] abbrev PathUnit.SameButOwn (x y : PathUnit) : Prop :=
    y.mode = x.mode ∧ y.waiting = x.waiting ∧ y.pass = x.pass ∧ y.hold = x.hold ∧
    y.lastSide = x.lastSide ∧ y.guard = x.guard ∧ y.forwarded = x.forwarded ∧
    y.ownOut = x.ownOut

/-- Agreement but in the EGRESS class. -/
@[simp] abbrev PathUnit.SameButEgress (x y : PathUnit) : Prop :=
    y.mode = x.mode ∧ y.waiting = x.waiting ∧ y.pass = x.pass ∧ y.hold = x.hold ∧
    y.other = x.other ∧ y.lastSide = x.lastSide ∧ y.guard = x.guard ∧ y.forwarded = x.forwarded ∧
    y.ownOut = x.ownOut

/-- Agreement but in the pass and hold queues and the guard fault record. -/
@[simp] abbrev PathUnit.SameButQueues (x y : PathUnit) : Prop :=
    y.mode = x.mode ∧ y.waiting = x.waiting ∧ y.egress = x.egress ∧ y.other = x.other ∧
    y.lastSide = x.lastSide ∧ y.forwarded = x.forwarded ∧ y.ownOut = x.ownOut

/-- Agreement but in the requests waiting at the port, the pass and hold queues and the guard fault record. -/
@[simp] abbrev PathUnit.SameButTaken (x y : PathUnit) : Prop :=
    y.mode = x.mode ∧ y.egress = x.egress ∧ y.other = x.other ∧ y.lastSide = x.lastSide ∧
    y.forwarded = x.forwarded ∧ y.ownOut = x.ownOut

/-- Agreement but in the video queue. -/
@[simp] abbrev Scheduler.SameButQueue (x y : Scheduler) : Prop :=
    y.active = x.active ∧ y.staged = x.staged ∧ y.state = x.state ∧ y.hold = x.hold ∧
    y.window = x.window ∧ y.nextJob = x.nextJob ∧ y.nextParcel = x.nextParcel

/-- Agreement but in the video queue and the next job number. -/
@[simp] abbrev Scheduler.SameButAppend (x y : Scheduler) : Prop :=
    y.active = x.active ∧ y.staged = x.staged ∧ y.state = x.state ∧ y.hold = x.hold ∧
    y.window = x.window ∧ y.nextParcel = x.nextParcel

/-- Agreement but in the video queue and the window. -/
@[simp] abbrev Scheduler.SameButDrop (x y : Scheduler) : Prop :=
    y.active = x.active ∧ y.staged = x.staged ∧ y.state = x.state ∧ y.hold = x.hold ∧
    y.nextJob = x.nextJob ∧ y.nextParcel = x.nextParcel

/-- Agreement but in the video queue, the hold timers and the window. -/
@[simp] abbrev Scheduler.SameButSession (x y : Scheduler) : Prop :=
    y.active = x.active ∧ y.staged = x.staged ∧ y.state = x.state ∧ y.nextJob = x.nextJob ∧
    y.nextParcel = x.nextParcel

/-- Agreement but in the video queue, the window and the next parcel number. -/
@[simp] abbrev Scheduler.SameButPlaced (x y : Scheduler) : Prop :=
    y.active = x.active ∧ y.staged = x.staged ∧ y.state = x.state ∧ y.hold = x.hold ∧
    y.nextJob = x.nextJob

/-- Agreement but in the video queue, the window, the next parcel number, the staged schedule and the state. -/
@[simp] abbrev Scheduler.SameButBuilt (x y : Scheduler) : Prop :=
    y.active = x.active ∧ y.hold = x.hold ∧ y.nextJob = x.nextJob

/-- Agreement but in the pending change. -/
@[simp] abbrev LinkUnit.SameButChange (x y : LinkUnit) : Prop :=
    y.state = x.state ∧ y.enabled = x.enabled ∧ y.ceiling = x.ceiling ∧ y.rate = x.rate ∧
    y.splitF = x.splitF ∧ y.splitRt = x.splitRt ∧ y.count = x.count ∧ y.lossRun = x.lossRun ∧
    y.probeFrames = x.probeFrames ∧ y.probeCycles = x.probeCycles ∧ y.trialRate = x.trialRate ∧
    y.trialFrame = x.trialFrame ∧ y.trialBaseErrors = x.trialBaseErrors ∧
    y.trialOwnErrors = x.trialOwnErrors ∧ y.monitorFrames = x.monitorFrames ∧
    y.monitorErrors = x.monitorErrors ∧ y.lastDropped = x.lastDropped ∧
    y.dropCount = x.dropCount ∧ y.dropRepeat = x.dropRepeat ∧ y.tally = x.tally ∧
    y.move = x.move ∧ y.returnTaken = x.returnTaken ∧ y.cells = x.cells

/-- Agreement but in the drop report. -/
@[simp] abbrev LinkUnit.SameButDrop (x y : LinkUnit) : Prop :=
    y.state = x.state ∧ y.enabled = x.enabled ∧ y.ceiling = x.ceiling ∧ y.rate = x.rate ∧
    y.splitF = x.splitF ∧ y.splitRt = x.splitRt ∧ y.count = x.count ∧ y.lossRun = x.lossRun ∧
    y.probeFrames = x.probeFrames ∧ y.probeCycles = x.probeCycles ∧ y.trialRate = x.trialRate ∧
    y.trialFrame = x.trialFrame ∧ y.trialBaseErrors = x.trialBaseErrors ∧
    y.trialOwnErrors = x.trialOwnErrors ∧ y.monitorFrames = x.monitorFrames ∧
    y.monitorErrors = x.monitorErrors ∧ y.change = x.change ∧ y.tally = x.tally ∧
    y.move = x.move ∧ y.returnTaken = x.returnTaken ∧ y.cells = x.cells

/-- Agreement but in the monitor and the pending change. -/
@[simp] abbrev LinkUnit.SameButMonitor (x y : LinkUnit) : Prop :=
    y.state = x.state ∧ y.enabled = x.enabled ∧ y.ceiling = x.ceiling ∧ y.rate = x.rate ∧
    y.splitF = x.splitF ∧ y.splitRt = x.splitRt ∧ y.count = x.count ∧ y.lossRun = x.lossRun ∧
    y.probeFrames = x.probeFrames ∧ y.probeCycles = x.probeCycles ∧ y.trialRate = x.trialRate ∧
    y.trialFrame = x.trialFrame ∧ y.trialBaseErrors = x.trialBaseErrors ∧
    y.trialOwnErrors = x.trialOwnErrors ∧ y.lastDropped = x.lastDropped ∧
    y.dropCount = x.dropCount ∧ y.dropRepeat = x.dropRepeat ∧ y.tally = x.tally ∧
    y.move = x.move ∧ y.returnTaken = x.returnTaken ∧ y.cells = x.cells

/-- Agreement but in the link state, its counts, the pending change and the move. -/
@[simp] abbrev LinkUnit.SameButSession (x y : LinkUnit) : Prop :=
    y.enabled = x.enabled ∧ y.ceiling = x.ceiling ∧ y.rate = x.rate ∧ y.splitF = x.splitF ∧
    y.splitRt = x.splitRt ∧ y.count = x.count ∧ y.lastDropped = x.lastDropped ∧
    y.dropCount = x.dropCount ∧ y.dropRepeat = x.dropRepeat ∧ y.tally = x.tally ∧
    y.returnTaken = x.returnTaken ∧ y.cells = x.cells

/-- Agreement but in the drop repeat. -/
@[simp] abbrev LinkUnit.SameButRepeat (x y : LinkUnit) : Prop :=
    y.state = x.state ∧ y.enabled = x.enabled ∧ y.ceiling = x.ceiling ∧ y.rate = x.rate ∧
    y.splitF = x.splitF ∧ y.splitRt = x.splitRt ∧ y.count = x.count ∧ y.lossRun = x.lossRun ∧
    y.probeFrames = x.probeFrames ∧ y.probeCycles = x.probeCycles ∧ y.trialRate = x.trialRate ∧
    y.trialFrame = x.trialFrame ∧ y.trialBaseErrors = x.trialBaseErrors ∧
    y.trialOwnErrors = x.trialOwnErrors ∧ y.monitorFrames = x.monitorFrames ∧
    y.monitorErrors = x.monitorErrors ∧ y.change = x.change ∧ y.lastDropped = x.lastDropped ∧
    y.dropCount = x.dropCount ∧ y.tally = x.tally ∧ y.move = x.move ∧
    y.returnTaken = x.returnTaken ∧ y.cells = x.cells

/-- Agreement but in what the next link frame start does. -/
@[simp] abbrev LinkUnit.SameButMove (x y : LinkUnit) : Prop :=
    y.state = x.state ∧ y.enabled = x.enabled ∧ y.ceiling = x.ceiling ∧ y.rate = x.rate ∧
    y.splitF = x.splitF ∧ y.splitRt = x.splitRt ∧ y.count = x.count ∧ y.lossRun = x.lossRun ∧
    y.probeFrames = x.probeFrames ∧ y.probeCycles = x.probeCycles ∧ y.trialRate = x.trialRate ∧
    y.trialFrame = x.trialFrame ∧ y.trialBaseErrors = x.trialBaseErrors ∧
    y.trialOwnErrors = x.trialOwnErrors ∧ y.monitorFrames = x.monitorFrames ∧
    y.monitorErrors = x.monitorErrors ∧ y.change = x.change ∧ y.lastDropped = x.lastDropped ∧
    y.dropCount = x.dropCount ∧ y.dropRepeat = x.dropRepeat ∧ y.tally = x.tally ∧
    y.returnTaken = x.returnTaken ∧ y.cells = x.cells

/-- Agreement but in the monitor errors. -/
@[simp] abbrev LinkUnit.SameButErrors (x y : LinkUnit) : Prop :=
    y.state = x.state ∧ y.enabled = x.enabled ∧ y.ceiling = x.ceiling ∧ y.rate = x.rate ∧
    y.splitF = x.splitF ∧ y.splitRt = x.splitRt ∧ y.count = x.count ∧ y.lossRun = x.lossRun ∧
    y.probeFrames = x.probeFrames ∧ y.probeCycles = x.probeCycles ∧ y.trialRate = x.trialRate ∧
    y.trialFrame = x.trialFrame ∧ y.trialBaseErrors = x.trialBaseErrors ∧
    y.trialOwnErrors = x.trialOwnErrors ∧ y.monitorFrames = x.monitorFrames ∧
    y.change = x.change ∧ y.lastDropped = x.lastDropped ∧ y.dropCount = x.dropCount ∧
    y.dropRepeat = x.dropRepeat ∧ y.tally = x.tally ∧ y.move = x.move ∧
    y.returnTaken = x.returnTaken ∧ y.cells = x.cells

/-- Agreement but in the running command. -/
@[simp] abbrev Mailbox.SameButRunning (x y : Mailbox) : Prop :=
    y.slots = x.slots ∧ y.staging = x.staging ∧ y.abortNote = x.abortNote

/-- Agreement but in the counters. -/
@[simp] abbrev StatusUnit.SameButCounters (x y : StatusUnit) : Prop :=
    y.events = x.events ∧ y.enable = x.enable ∧ y.launchLost = x.launchLost ∧
    y.paramTorn = x.paramTorn ∧ y.inboundFull = x.inboundFull ∧ y.due = x.due ∧
    y.snapshot = x.snapshot

/-- Agreement but in the pending events. -/
@[simp] abbrev StatusUnit.SameButEvents (x y : StatusUnit) : Prop :=
    y.enable = x.enable ∧ y.launchLost = x.launchLost ∧ y.paramTorn = x.paramTorn ∧
    y.inboundFull = x.inboundFull ∧ y.due = x.due ∧ y.counters = x.counters ∧
    y.snapshot = x.snapshot

/-- Agreement but in the pending events and the counters. -/
@[simp] abbrev StatusUnit.SameButRaised (x y : StatusUnit) : Prop :=
    y.enable = x.enable ∧ y.launchLost = x.launchLost ∧ y.paramTorn = x.paramTorn ∧
    y.inboundFull = x.inboundFull ∧ y.due = x.due ∧ y.snapshot = x.snapshot

/-- Agreement in the settings. -/
@[simp] abbrev LinkUnit.SameSettings (x y : LinkUnit) : Prop :=
    y.enabled = x.enabled ∧ y.ceiling = x.ceiling ∧ y.splitF = x.splitF ∧ y.splitRt = x.splitRt

/-- Agreement in the drop report. -/
@[simp] abbrev LinkUnit.SameDrop (x y : LinkUnit) : Prop :=
    y.lastDropped = x.lastDropped ∧ y.dropCount = x.dropCount ∧ y.dropRepeat = x.dropRepeat

/-- Agreement in the probe counts. -/
@[simp] abbrev LinkUnit.SameProbe (x y : LinkUnit) : Prop :=
    y.probeFrames = x.probeFrames ∧ y.probeCycles = x.probeCycles

/-- Agreement in the trial. -/
@[simp] abbrev LinkUnit.SameTrial (x y : LinkUnit) : Prop :=
    y.trialRate = x.trialRate ∧ y.trialFrame = x.trialFrame ∧
    y.trialBaseErrors = x.trialBaseErrors ∧ y.trialOwnErrors = x.trialOwnErrors

/-- Agreement in the monitor. -/
@[simp] abbrev LinkUnit.SameMonitor (x y : LinkUnit) : Prop :=
    y.monitorFrames = x.monitorFrames ∧ y.monitorErrors = x.monitorErrors

/-- Agreement in the schedules. -/
@[simp] abbrev Scheduler.SamePlan (x y : Scheduler) : Prop :=
    y.active = x.active ∧ y.staged = x.staged ∧ y.state = x.state

/-- Agreement in the next numbers. -/
@[simp] abbrev Scheduler.SameNumbers (x y : Scheduler) : Prop :=
    y.nextJob = x.nextJob ∧ y.nextParcel = x.nextParcel

/-- Agreement in the sticky flags. -/
@[simp] abbrev StatusUnit.SameFlags (x y : StatusUnit) : Prop :=
    y.launchLost = x.launchLost ∧ y.paramTorn = x.paramTorn ∧ y.inboundFull = x.inboundFull

/-- Agreement in the mode and the requests not yet forwarded. -/
@[simp] abbrev PathUnit.SameFlow (x y : PathUnit) : Prop :=
    y.mode = x.mode ∧ y.waiting = x.waiting ∧ y.pass = x.pass ∧ y.hold = x.hold

/-- Agreement in the last side and the outstanding requests. -/
@[simp] abbrev PathUnit.SameOut (x y : PathUnit) : Prop :=
    y.lastSide = x.lastSide ∧ y.forwarded = x.forwarded ∧ y.ownOut = x.ownOut

/-- What SameStatus says, part by part. -/
@[simp] theorem sameStatus_iff (s t : State) : SameStatus s t ↔
    t.status.events = s.status.events ∧ t.status.enable = s.status.enable ∧
      t.status.launchLost = s.status.launchLost ∧ t.status.paramTorn = s.status.paramTorn ∧
      t.status.inboundFull = s.status.inboundFull ∧ t.status.counters = s.status.counters ∧
      t.status.snapshot = s.status.snapshot := by
  unfold SameStatus
  cases h : t.status
  simp

/-- What StatusCounts says, part by part. -/
@[simp] theorem statusCounts_iff (u s t : State) : StatusCounts u s t ↔
    t.status.events = s.status.events ∧ t.status.enable = s.status.enable ∧
      t.status.launchLost = s.status.launchLost ∧ t.status.paramTorn = s.status.paramTorn ∧
      t.status.inboundFull = s.status.inboundFull ∧ t.status.counters = u.status.counters ∧
      t.status.snapshot = s.status.snapshot := by
  unfold StatusCounts
  cases h : t.status
  simp


end Sys2Proof.Machine
end

