-- ==== Sys2Proof/Laws/State.lean ====
section
/-!
SUPPORT. One lemma for each field under each update of a block of the state, each true by rfl.
-/

namespace Sys2Proof.Machine

section updPath
variable (f : PathUnit → PathUnit) (s : State)
@[simp] theorem updPath_straps : (s.updPath f).straps = s.straps := rfl
@[simp] theorem updPath_path : (s.updPath f).path = f s.path := rfl
@[simp] theorem updPath_map : (s.updPath f).map = s.map := rfl
@[simp] theorem updPath_tracker : (s.updPath f).tracker = s.tracker := rfl
@[simp] theorem updPath_stitch : (s.updPath f).stitch = s.stitch := rfl
@[simp] theorem updPath_sched : (s.updPath f).sched = s.sched := rfl
@[simp] theorem updPath_rings : (s.updPath f).rings = s.rings := rfl
@[simp] theorem updPath_link : (s.updPath f).link = s.link := rfl
@[simp] theorem updPath_mbox : (s.updPath f).mbox = s.mbox := rfl
@[simp] theorem updPath_status : (s.updPath f).status = s.status := rfl
@[simp] theorem updPath_free : (s.updPath f).free = s.free := rfl
@[simp] theorem updPath_out : (s.updPath f).out = s.out := rfl
@[simp] theorem updPath_pending : (s.updPath f).pending = s.pending := rfl
end updPath

section updMap
variable (f : RegionMap → RegionMap) (s : State)
@[simp] theorem updMap_straps : (s.updMap f).straps = s.straps := rfl
@[simp] theorem updMap_path : (s.updMap f).path = s.path := rfl
@[simp] theorem updMap_map : (s.updMap f).map = f s.map := rfl
@[simp] theorem updMap_tracker : (s.updMap f).tracker = s.tracker := rfl
@[simp] theorem updMap_stitch : (s.updMap f).stitch = s.stitch := rfl
@[simp] theorem updMap_sched : (s.updMap f).sched = s.sched := rfl
@[simp] theorem updMap_rings : (s.updMap f).rings = s.rings := rfl
@[simp] theorem updMap_link : (s.updMap f).link = s.link := rfl
@[simp] theorem updMap_mbox : (s.updMap f).mbox = s.mbox := rfl
@[simp] theorem updMap_status : (s.updMap f).status = s.status := rfl
@[simp] theorem updMap_free : (s.updMap f).free = s.free := rfl
@[simp] theorem updMap_out : (s.updMap f).out = s.out := rfl
@[simp] theorem updMap_pending : (s.updMap f).pending = s.pending := rfl
end updMap

section updTracker
variable (f : Tracker → Tracker) (s : State)
@[simp] theorem updTracker_straps : (s.updTracker f).straps = s.straps := rfl
@[simp] theorem updTracker_path : (s.updTracker f).path = s.path := rfl
@[simp] theorem updTracker_map : (s.updTracker f).map = s.map := rfl
@[simp] theorem updTracker_tracker : (s.updTracker f).tracker = f s.tracker := rfl
@[simp] theorem updTracker_stitch : (s.updTracker f).stitch = s.stitch := rfl
@[simp] theorem updTracker_sched : (s.updTracker f).sched = s.sched := rfl
@[simp] theorem updTracker_rings : (s.updTracker f).rings = s.rings := rfl
@[simp] theorem updTracker_link : (s.updTracker f).link = s.link := rfl
@[simp] theorem updTracker_mbox : (s.updTracker f).mbox = s.mbox := rfl
@[simp] theorem updTracker_status : (s.updTracker f).status = s.status := rfl
@[simp] theorem updTracker_free : (s.updTracker f).free = s.free := rfl
@[simp] theorem updTracker_out : (s.updTracker f).out = s.out := rfl
@[simp] theorem updTracker_pending : (s.updTracker f).pending = s.pending := rfl
end updTracker

section updStitch
variable (f : StitchUnit → StitchUnit) (s : State)
@[simp] theorem updStitch_straps : (s.updStitch f).straps = s.straps := rfl
@[simp] theorem updStitch_path : (s.updStitch f).path = s.path := rfl
@[simp] theorem updStitch_map : (s.updStitch f).map = s.map := rfl
@[simp] theorem updStitch_tracker : (s.updStitch f).tracker = s.tracker := rfl
@[simp] theorem updStitch_stitch : (s.updStitch f).stitch = f s.stitch := rfl
@[simp] theorem updStitch_sched : (s.updStitch f).sched = s.sched := rfl
@[simp] theorem updStitch_rings : (s.updStitch f).rings = s.rings := rfl
@[simp] theorem updStitch_link : (s.updStitch f).link = s.link := rfl
@[simp] theorem updStitch_mbox : (s.updStitch f).mbox = s.mbox := rfl
@[simp] theorem updStitch_status : (s.updStitch f).status = s.status := rfl
@[simp] theorem updStitch_free : (s.updStitch f).free = s.free := rfl
@[simp] theorem updStitch_out : (s.updStitch f).out = s.out := rfl
@[simp] theorem updStitch_pending : (s.updStitch f).pending = s.pending := rfl
end updStitch

section updSched
variable (f : Scheduler → Scheduler) (s : State)
@[simp] theorem updSched_straps : (s.updSched f).straps = s.straps := rfl
@[simp] theorem updSched_path : (s.updSched f).path = s.path := rfl
@[simp] theorem updSched_map : (s.updSched f).map = s.map := rfl
@[simp] theorem updSched_tracker : (s.updSched f).tracker = s.tracker := rfl
@[simp] theorem updSched_stitch : (s.updSched f).stitch = s.stitch := rfl
@[simp] theorem updSched_sched : (s.updSched f).sched = f s.sched := rfl
@[simp] theorem updSched_rings : (s.updSched f).rings = s.rings := rfl
@[simp] theorem updSched_link : (s.updSched f).link = s.link := rfl
@[simp] theorem updSched_mbox : (s.updSched f).mbox = s.mbox := rfl
@[simp] theorem updSched_status : (s.updSched f).status = s.status := rfl
@[simp] theorem updSched_free : (s.updSched f).free = s.free := rfl
@[simp] theorem updSched_out : (s.updSched f).out = s.out := rfl
@[simp] theorem updSched_pending : (s.updSched f).pending = s.pending := rfl
end updSched

section updRings
variable (f : RingUnit → RingUnit) (s : State)
@[simp] theorem updRings_straps : (s.updRings f).straps = s.straps := rfl
@[simp] theorem updRings_path : (s.updRings f).path = s.path := rfl
@[simp] theorem updRings_map : (s.updRings f).map = s.map := rfl
@[simp] theorem updRings_tracker : (s.updRings f).tracker = s.tracker := rfl
@[simp] theorem updRings_stitch : (s.updRings f).stitch = s.stitch := rfl
@[simp] theorem updRings_sched : (s.updRings f).sched = s.sched := rfl
@[simp] theorem updRings_rings : (s.updRings f).rings = f s.rings := rfl
@[simp] theorem updRings_link : (s.updRings f).link = s.link := rfl
@[simp] theorem updRings_mbox : (s.updRings f).mbox = s.mbox := rfl
@[simp] theorem updRings_status : (s.updRings f).status = s.status := rfl
@[simp] theorem updRings_free : (s.updRings f).free = s.free := rfl
@[simp] theorem updRings_out : (s.updRings f).out = s.out := rfl
@[simp] theorem updRings_pending : (s.updRings f).pending = s.pending := rfl
end updRings

section updLink
variable (f : LinkUnit → LinkUnit) (s : State)
@[simp] theorem updLink_straps : (s.updLink f).straps = s.straps := rfl
@[simp] theorem updLink_path : (s.updLink f).path = s.path := rfl
@[simp] theorem updLink_map : (s.updLink f).map = s.map := rfl
@[simp] theorem updLink_tracker : (s.updLink f).tracker = s.tracker := rfl
@[simp] theorem updLink_stitch : (s.updLink f).stitch = s.stitch := rfl
@[simp] theorem updLink_sched : (s.updLink f).sched = s.sched := rfl
@[simp] theorem updLink_rings : (s.updLink f).rings = s.rings := rfl
@[simp] theorem updLink_link : (s.updLink f).link = f s.link := rfl
@[simp] theorem updLink_mbox : (s.updLink f).mbox = s.mbox := rfl
@[simp] theorem updLink_status : (s.updLink f).status = s.status := rfl
@[simp] theorem updLink_free : (s.updLink f).free = s.free := rfl
@[simp] theorem updLink_out : (s.updLink f).out = s.out := rfl
@[simp] theorem updLink_pending : (s.updLink f).pending = s.pending := rfl
end updLink

section updMbox
variable (f : Mailbox → Mailbox) (s : State)
@[simp] theorem updMbox_straps : (s.updMbox f).straps = s.straps := rfl
@[simp] theorem updMbox_path : (s.updMbox f).path = s.path := rfl
@[simp] theorem updMbox_map : (s.updMbox f).map = s.map := rfl
@[simp] theorem updMbox_tracker : (s.updMbox f).tracker = s.tracker := rfl
@[simp] theorem updMbox_stitch : (s.updMbox f).stitch = s.stitch := rfl
@[simp] theorem updMbox_sched : (s.updMbox f).sched = s.sched := rfl
@[simp] theorem updMbox_rings : (s.updMbox f).rings = s.rings := rfl
@[simp] theorem updMbox_link : (s.updMbox f).link = s.link := rfl
@[simp] theorem updMbox_mbox : (s.updMbox f).mbox = f s.mbox := rfl
@[simp] theorem updMbox_status : (s.updMbox f).status = s.status := rfl
@[simp] theorem updMbox_free : (s.updMbox f).free = s.free := rfl
@[simp] theorem updMbox_out : (s.updMbox f).out = s.out := rfl
@[simp] theorem updMbox_pending : (s.updMbox f).pending = s.pending := rfl
end updMbox

section updStatus
variable (f : StatusUnit → StatusUnit) (s : State)
@[simp] theorem updStatus_straps : (s.updStatus f).straps = s.straps := rfl
@[simp] theorem updStatus_path : (s.updStatus f).path = s.path := rfl
@[simp] theorem updStatus_map : (s.updStatus f).map = s.map := rfl
@[simp] theorem updStatus_tracker : (s.updStatus f).tracker = s.tracker := rfl
@[simp] theorem updStatus_stitch : (s.updStatus f).stitch = s.stitch := rfl
@[simp] theorem updStatus_sched : (s.updStatus f).sched = s.sched := rfl
@[simp] theorem updStatus_rings : (s.updStatus f).rings = s.rings := rfl
@[simp] theorem updStatus_link : (s.updStatus f).link = s.link := rfl
@[simp] theorem updStatus_mbox : (s.updStatus f).mbox = s.mbox := rfl
@[simp] theorem updStatus_status : (s.updStatus f).status = f s.status := rfl
@[simp] theorem updStatus_free : (s.updStatus f).free = s.free := rfl
@[simp] theorem updStatus_out : (s.updStatus f).out = s.out := rfl
@[simp] theorem updStatus_pending : (s.updStatus f).pending = s.pending := rfl
end updStatus

section emit
variable (o : Output) (s : State)
@[simp] theorem emit_straps : (s.emit o).straps = s.straps := rfl
@[simp] theorem emit_path : (s.emit o).path = s.path := rfl
@[simp] theorem emit_map : (s.emit o).map = s.map := rfl
@[simp] theorem emit_tracker : (s.emit o).tracker = s.tracker := rfl
@[simp] theorem emit_stitch : (s.emit o).stitch = s.stitch := rfl
@[simp] theorem emit_sched : (s.emit o).sched = s.sched := rfl
@[simp] theorem emit_rings : (s.emit o).rings = s.rings := rfl
@[simp] theorem emit_link : (s.emit o).link = s.link := rfl
@[simp] theorem emit_mbox : (s.emit o).mbox = s.mbox := rfl
@[simp] theorem emit_status : (s.emit o).status = s.status := rfl
@[simp] theorem emit_free : (s.emit o).free = s.free := rfl
@[simp] theorem emit_out : (s.emit o).out = s.out ++ [o] := rfl
@[simp] theorem emit_pending : (s.emit o).pending = s.pending := rfl
end emit

end Sys2Proof.Machine
end

