-- ==== Sys2Proof/Laws/Ops.lean ====
section
/-!
SUPPORT. What each shared operation can do, said once: the fields it leaves as they were, and the value
of the one it changes.
-/

namespace Sys2Proof.Machine

section countBy
variable (c : Counter) (n : Nat) (s : State)
@[simp] theorem countBy_straps : (s.countBy c n).straps = s.straps := rfl
@[simp] theorem countBy_path : (s.countBy c n).path = s.path := rfl
@[simp] theorem countBy_map : (s.countBy c n).map = s.map := rfl
@[simp] theorem countBy_tracker : (s.countBy c n).tracker = s.tracker := rfl
@[simp] theorem countBy_stitch : (s.countBy c n).stitch = s.stitch := rfl
@[simp] theorem countBy_sched : (s.countBy c n).sched = s.sched := rfl
@[simp] theorem countBy_rings : (s.countBy c n).rings = s.rings := rfl
@[simp] theorem countBy_link : (s.countBy c n).link = s.link := rfl
@[simp] theorem countBy_mbox : (s.countBy c n).mbox = s.mbox := rfl
@[simp] theorem countBy_free : (s.countBy c n).free = s.free := rfl
@[simp] theorem countBy_out : (s.countBy c n).out = s.out := rfl
@[simp] theorem countBy_pending : (s.countBy c n).pending = s.pending := rfl
@[simp] theorem countBy_events : (s.countBy c n).status.events = s.status.events := rfl
@[simp] theorem countBy_enable : (s.countBy c n).status.enable = s.status.enable := rfl
@[simp] theorem countBy_launchLost : (s.countBy c n).status.launchLost = s.status.launchLost := rfl
@[simp] theorem countBy_paramTorn : (s.countBy c n).status.paramTorn = s.status.paramTorn := rfl
@[simp] theorem countBy_inboundFull : (s.countBy c n).status.inboundFull = s.status.inboundFull := rfl
@[simp] theorem countBy_due : (s.countBy c n).status.due = s.status.due := rfl
@[simp] theorem countBy_snapshot : (s.countBy c n).status.snapshot = s.status.snapshot := rfl
@[simp] theorem countBy_counters : (s.countBy c n).status.counters =
    s.status.counters.set c.index (saturate s.status.counters[c.index] n) := rfl
end countBy

section count
variable (c : Counter) (s : State)
@[simp] theorem count_straps : (s.count c).straps = s.straps := rfl
@[simp] theorem count_path : (s.count c).path = s.path := rfl
@[simp] theorem count_map : (s.count c).map = s.map := rfl
@[simp] theorem count_tracker : (s.count c).tracker = s.tracker := rfl
@[simp] theorem count_stitch : (s.count c).stitch = s.stitch := rfl
@[simp] theorem count_sched : (s.count c).sched = s.sched := rfl
@[simp] theorem count_rings : (s.count c).rings = s.rings := rfl
@[simp] theorem count_link : (s.count c).link = s.link := rfl
@[simp] theorem count_mbox : (s.count c).mbox = s.mbox := rfl
@[simp] theorem count_free : (s.count c).free = s.free := rfl
@[simp] theorem count_out : (s.count c).out = s.out := rfl
@[simp] theorem count_pending : (s.count c).pending = s.pending := rfl
@[simp] theorem count_events : (s.count c).status.events = s.status.events := rfl
@[simp] theorem count_enable : (s.count c).status.enable = s.status.enable := rfl
@[simp] theorem count_launchLost : (s.count c).status.launchLost = s.status.launchLost := rfl
@[simp] theorem count_paramTorn : (s.count c).status.paramTorn = s.status.paramTorn := rfl
@[simp] theorem count_inboundFull : (s.count c).status.inboundFull = s.status.inboundFull := rfl
@[simp] theorem count_due : (s.count c).status.due = s.status.due := rfl
@[simp] theorem count_snapshot : (s.count c).status.snapshot = s.status.snapshot := rfl
@[simp] theorem count_counters : (s.count c).status.counters =
    s.status.counters.set c.index (saturate s.status.counters[c.index] 1) := rfl
end count

section raise
variable (e : Event) (s : State)
@[simp] theorem raise_straps : (s.raise e).straps = s.straps := rfl
@[simp] theorem raise_path : (s.raise e).path = s.path := rfl
@[simp] theorem raise_map : (s.raise e).map = s.map := rfl
@[simp] theorem raise_tracker : (s.raise e).tracker = s.tracker := rfl
@[simp] theorem raise_stitch : (s.raise e).stitch = s.stitch := rfl
@[simp] theorem raise_sched : (s.raise e).sched = s.sched := rfl
@[simp] theorem raise_rings : (s.raise e).rings = s.rings := rfl
@[simp] theorem raise_link : (s.raise e).link = s.link := rfl
@[simp] theorem raise_mbox : (s.raise e).mbox = s.mbox := rfl
@[simp] theorem raise_free : (s.raise e).free = s.free := rfl
@[simp] theorem raise_out : (s.raise e).out = s.out := rfl
@[simp] theorem raise_pending : (s.raise e).pending = s.pending := rfl
@[simp] theorem raise_enable : (s.raise e).status.enable = s.status.enable := rfl
@[simp] theorem raise_launchLost : (s.raise e).status.launchLost = s.status.launchLost := rfl
@[simp] theorem raise_paramTorn : (s.raise e).status.paramTorn = s.status.paramTorn := rfl
@[simp] theorem raise_inboundFull : (s.raise e).status.inboundFull = s.status.inboundFull := rfl
@[simp] theorem raise_due : (s.raise e).status.due = s.status.due := rfl
@[simp] theorem raise_counters : (s.raise e).status.counters = s.status.counters := rfl
@[simp] theorem raise_snapshot : (s.raise e).status.snapshot = s.status.snapshot := rfl
@[simp] theorem raise_events : (s.raise e).status.events = s.status.events ||| e.mask := rfl
end raise

section issueEgress
variable (o : Owner) (a n : Nat) (s : State)
@[simp] theorem issueEgress_straps : (s.issueEgress o a n).straps = s.straps := rfl
@[simp] theorem issueEgress_map : (s.issueEgress o a n).map = s.map := rfl
@[simp] theorem issueEgress_tracker : (s.issueEgress o a n).tracker = s.tracker := rfl
@[simp] theorem issueEgress_stitch : (s.issueEgress o a n).stitch = s.stitch := rfl
@[simp] theorem issueEgress_sched : (s.issueEgress o a n).sched = s.sched := rfl
@[simp] theorem issueEgress_rings : (s.issueEgress o a n).rings = s.rings := rfl
@[simp] theorem issueEgress_link : (s.issueEgress o a n).link = s.link := rfl
@[simp] theorem issueEgress_mbox : (s.issueEgress o a n).mbox = s.mbox := rfl
@[simp] theorem issueEgress_status : (s.issueEgress o a n).status = s.status := rfl
@[simp] theorem issueEgress_free : (s.issueEgress o a n).free = s.free := rfl
@[simp] theorem issueEgress_out : (s.issueEgress o a n).out = s.out := rfl
@[simp] theorem issueEgress_pending : (s.issueEgress o a n).pending = s.pending := rfl
@[simp] theorem issueEgress_mode : (s.issueEgress o a n).path.mode = s.path.mode := rfl
@[simp] theorem issueEgress_waiting : (s.issueEgress o a n).path.waiting = s.path.waiting := rfl
@[simp] theorem issueEgress_pass : (s.issueEgress o a n).path.pass = s.path.pass := rfl
@[simp] theorem issueEgress_hold : (s.issueEgress o a n).path.hold = s.path.hold := rfl
@[simp] theorem issueEgress_other : (s.issueEgress o a n).path.other = s.path.other := rfl
@[simp] theorem issueEgress_lastSide : (s.issueEgress o a n).path.lastSide = s.path.lastSide := rfl
@[simp] theorem issueEgress_guard : (s.issueEgress o a n).path.guard = s.path.guard := rfl
@[simp] theorem issueEgress_forwarded : (s.issueEgress o a n).path.forwarded = s.path.forwarded := rfl
@[simp] theorem issueEgress_ownOut : (s.issueEgress o a n).path.ownOut = s.path.ownOut := rfl
@[simp] theorem issueEgress_egress : (s.issueEgress o a n).path.egress =
    s.path.egress ++ [{ owner := o, addr := a, access := .read n, live := true }] := rfl
end issueEgress

section issueRead
variable (o : Owner) (a n : Nat) (s : State)
@[simp] theorem issueRead_straps : (s.issueRead o a n).straps = s.straps := rfl
@[simp] theorem issueRead_map : (s.issueRead o a n).map = s.map := rfl
@[simp] theorem issueRead_tracker : (s.issueRead o a n).tracker = s.tracker := rfl
@[simp] theorem issueRead_stitch : (s.issueRead o a n).stitch = s.stitch := rfl
@[simp] theorem issueRead_sched : (s.issueRead o a n).sched = s.sched := rfl
@[simp] theorem issueRead_rings : (s.issueRead o a n).rings = s.rings := rfl
@[simp] theorem issueRead_link : (s.issueRead o a n).link = s.link := rfl
@[simp] theorem issueRead_mbox : (s.issueRead o a n).mbox = s.mbox := rfl
@[simp] theorem issueRead_status : (s.issueRead o a n).status = s.status := rfl
@[simp] theorem issueRead_free : (s.issueRead o a n).free = s.free := rfl
@[simp] theorem issueRead_out : (s.issueRead o a n).out = s.out := rfl
@[simp] theorem issueRead_pending : (s.issueRead o a n).pending = s.pending := rfl
@[simp] theorem issueRead_mode : (s.issueRead o a n).path.mode = s.path.mode := rfl
@[simp] theorem issueRead_waiting : (s.issueRead o a n).path.waiting = s.path.waiting := rfl
@[simp] theorem issueRead_pass : (s.issueRead o a n).path.pass = s.path.pass := rfl
@[simp] theorem issueRead_hold : (s.issueRead o a n).path.hold = s.path.hold := rfl
@[simp] theorem issueRead_egress : (s.issueRead o a n).path.egress = s.path.egress := rfl
@[simp] theorem issueRead_lastSide : (s.issueRead o a n).path.lastSide = s.path.lastSide := rfl
@[simp] theorem issueRead_guard : (s.issueRead o a n).path.guard = s.path.guard := rfl
@[simp] theorem issueRead_forwarded : (s.issueRead o a n).path.forwarded = s.path.forwarded := rfl
@[simp] theorem issueRead_ownOut : (s.issueRead o a n).path.ownOut = s.path.ownOut := rfl
@[simp] theorem issueRead_other : (s.issueRead o a n).path.other =
    s.path.other ++ [{ owner := o, addr := a, access := .read n, live := true }] := rfl
end issueRead

section issueWrite
variable (o : Owner) (a : Nat) (d : List Byte) (s : State)
@[simp] theorem issueWrite_straps : (s.issueWrite o a d).straps = s.straps := rfl
@[simp] theorem issueWrite_map : (s.issueWrite o a d).map = s.map := rfl
@[simp] theorem issueWrite_tracker : (s.issueWrite o a d).tracker = s.tracker := rfl
@[simp] theorem issueWrite_stitch : (s.issueWrite o a d).stitch = s.stitch := rfl
@[simp] theorem issueWrite_sched : (s.issueWrite o a d).sched = s.sched := rfl
@[simp] theorem issueWrite_rings : (s.issueWrite o a d).rings = s.rings := rfl
@[simp] theorem issueWrite_link : (s.issueWrite o a d).link = s.link := rfl
@[simp] theorem issueWrite_mbox : (s.issueWrite o a d).mbox = s.mbox := rfl
@[simp] theorem issueWrite_status : (s.issueWrite o a d).status = s.status := rfl
@[simp] theorem issueWrite_free : (s.issueWrite o a d).free = s.free := rfl
@[simp] theorem issueWrite_out : (s.issueWrite o a d).out = s.out := rfl
@[simp] theorem issueWrite_pending : (s.issueWrite o a d).pending = s.pending := rfl
@[simp] theorem issueWrite_mode : (s.issueWrite o a d).path.mode = s.path.mode := rfl
@[simp] theorem issueWrite_waiting : (s.issueWrite o a d).path.waiting = s.path.waiting := rfl
@[simp] theorem issueWrite_pass : (s.issueWrite o a d).path.pass = s.path.pass := rfl
@[simp] theorem issueWrite_hold : (s.issueWrite o a d).path.hold = s.path.hold := rfl
@[simp] theorem issueWrite_egress : (s.issueWrite o a d).path.egress = s.path.egress := rfl
@[simp] theorem issueWrite_lastSide : (s.issueWrite o a d).path.lastSide = s.path.lastSide := rfl
@[simp] theorem issueWrite_guard : (s.issueWrite o a d).path.guard = s.path.guard := rfl
@[simp] theorem issueWrite_forwarded : (s.issueWrite o a d).path.forwarded = s.path.forwarded := rfl
@[simp] theorem issueWrite_ownOut : (s.issueWrite o a d).path.ownOut = s.path.ownOut := rfl
@[simp] theorem issueWrite_other : (s.issueWrite o a d).path.other =
    s.path.other ++ [{ owner := o, addr := a, access := .write d, live := true }] := rfl
end issueWrite

section issueStatus
variable (w : Fin 32) (s : State)
@[simp] theorem issueStatus_straps : (s.issueStatus w).straps = s.straps := rfl
@[simp] theorem issueStatus_map : (s.issueStatus w).map = s.map := rfl
@[simp] theorem issueStatus_tracker : (s.issueStatus w).tracker = s.tracker := rfl
@[simp] theorem issueStatus_stitch : (s.issueStatus w).stitch = s.stitch := rfl
@[simp] theorem issueStatus_sched : (s.issueStatus w).sched = s.sched := rfl
@[simp] theorem issueStatus_rings : (s.issueStatus w).rings = s.rings := rfl
@[simp] theorem issueStatus_link : (s.issueStatus w).link = s.link := rfl
@[simp] theorem issueStatus_mbox : (s.issueStatus w).mbox = s.mbox := rfl
@[simp] theorem issueStatus_status : (s.issueStatus w).status = s.status := rfl
@[simp] theorem issueStatus_free : (s.issueStatus w).free = s.free := rfl
@[simp] theorem issueStatus_out : (s.issueStatus w).out = s.out := rfl
@[simp] theorem issueStatus_pending : (s.issueStatus w).pending = s.pending := rfl
@[simp] theorem issueStatus_mode : (s.issueStatus w).path.mode = s.path.mode := rfl
@[simp] theorem issueStatus_waiting : (s.issueStatus w).path.waiting = s.path.waiting := rfl
@[simp] theorem issueStatus_pass : (s.issueStatus w).path.pass = s.path.pass := rfl
@[simp] theorem issueStatus_hold : (s.issueStatus w).path.hold = s.path.hold := rfl
@[simp] theorem issueStatus_egress : (s.issueStatus w).path.egress = s.path.egress := rfl
@[simp] theorem issueStatus_lastSide : (s.issueStatus w).path.lastSide = s.path.lastSide := rfl
@[simp] theorem issueStatus_guard : (s.issueStatus w).path.guard = s.path.guard := rfl
@[simp] theorem issueStatus_forwarded : (s.issueStatus w).path.forwarded = s.path.forwarded := rfl
@[simp] theorem issueStatus_ownOut : (s.issueStatus w).path.ownOut = s.path.ownOut := rfl
end issueStatus

section issueResult
variable (st : ResultStatus) (c : CommandTag) (e : ErrorCode) (b : Bool) (s : State)
@[simp] theorem issueResult_straps : (s.issueResult st c e b).straps = s.straps := rfl
@[simp] theorem issueResult_map : (s.issueResult st c e b).map = s.map := rfl
@[simp] theorem issueResult_tracker : (s.issueResult st c e b).tracker = s.tracker := rfl
@[simp] theorem issueResult_stitch : (s.issueResult st c e b).stitch = s.stitch := rfl
@[simp] theorem issueResult_sched : (s.issueResult st c e b).sched = s.sched := rfl
@[simp] theorem issueResult_rings : (s.issueResult st c e b).rings = s.rings := rfl
@[simp] theorem issueResult_link : (s.issueResult st c e b).link = s.link := rfl
@[simp] theorem issueResult_mbox : (s.issueResult st c e b).mbox = s.mbox := rfl
@[simp] theorem issueResult_status : (s.issueResult st c e b).status = s.status := rfl
@[simp] theorem issueResult_free : (s.issueResult st c e b).free = s.free := rfl
@[simp] theorem issueResult_out : (s.issueResult st c e b).out = s.out := rfl
@[simp] theorem issueResult_pending : (s.issueResult st c e b).pending = s.pending := rfl
@[simp] theorem issueResult_mode : (s.issueResult st c e b).path.mode = s.path.mode := rfl
@[simp] theorem issueResult_waiting : (s.issueResult st c e b).path.waiting = s.path.waiting := rfl
@[simp] theorem issueResult_pass : (s.issueResult st c e b).path.pass = s.path.pass := rfl
@[simp] theorem issueResult_hold : (s.issueResult st c e b).path.hold = s.path.hold := rfl
@[simp] theorem issueResult_egress : (s.issueResult st c e b).path.egress = s.path.egress := rfl
@[simp] theorem issueResult_lastSide : (s.issueResult st c e b).path.lastSide = s.path.lastSide := rfl
@[simp] theorem issueResult_guard : (s.issueResult st c e b).path.guard = s.path.guard := rfl
@[simp] theorem issueResult_forwarded : (s.issueResult st c e b).path.forwarded = s.path.forwarded := rfl
@[simp] theorem issueResult_ownOut : (s.issueResult st c e b).path.ownOut = s.path.ownOut := rfl
end issueResult

section issueData
variable (d : List Word) (s : State)
@[simp] theorem issueData_straps : (s.issueData d).straps = s.straps := rfl
@[simp] theorem issueData_map : (s.issueData d).map = s.map := rfl
@[simp] theorem issueData_tracker : (s.issueData d).tracker = s.tracker := rfl
@[simp] theorem issueData_stitch : (s.issueData d).stitch = s.stitch := rfl
@[simp] theorem issueData_sched : (s.issueData d).sched = s.sched := rfl
@[simp] theorem issueData_rings : (s.issueData d).rings = s.rings := rfl
@[simp] theorem issueData_link : (s.issueData d).link = s.link := rfl
@[simp] theorem issueData_mbox : (s.issueData d).mbox = s.mbox := rfl
@[simp] theorem issueData_status : (s.issueData d).status = s.status := rfl
@[simp] theorem issueData_free : (s.issueData d).free = s.free := rfl
@[simp] theorem issueData_out : (s.issueData d).out = s.out := rfl
@[simp] theorem issueData_pending : (s.issueData d).pending = s.pending := rfl
@[simp] theorem issueData_mode : (s.issueData d).path.mode = s.path.mode := rfl
@[simp] theorem issueData_waiting : (s.issueData d).path.waiting = s.path.waiting := rfl
@[simp] theorem issueData_pass : (s.issueData d).path.pass = s.path.pass := rfl
@[simp] theorem issueData_hold : (s.issueData d).path.hold = s.path.hold := rfl
@[simp] theorem issueData_egress : (s.issueData d).path.egress = s.path.egress := rfl
@[simp] theorem issueData_lastSide : (s.issueData d).path.lastSide = s.path.lastSide := rfl
@[simp] theorem issueData_guard : (s.issueData d).path.guard = s.path.guard := rfl
@[simp] theorem issueData_forwarded : (s.issueData d).path.forwarded = s.path.forwarded := rfl
@[simp] theorem issueData_ownOut : (s.issueData d).path.ownOut = s.path.ownOut := rfl
end issueData

section noteChanges
variable (o : List (Fin 32)) (s t : State)
/-- While INITIALIZING a change puts nothing on the due list (R162). -/
theorem noteChanges_initializing (h : t.path.mode = .initializing) : noteChanges o s t = t := by
  unfold noteChanges; rw [h]

/-- While READY the changed words join the due list (R162). -/
theorem noteChanges_ready (h : t.path.mode = .ready) :
    noteChanges o s t =
      { t with status := { t.status with due := (changedWords o s t).foldl joinDue t.status.due } } := by
  unfold noteChanges; rw [h]; unfold State.updStatus; rfl

/-- Noting changes touches the due list alone (R162). -/
theorem noteChanges_eq : ∃ due, noteChanges o s t = { t with status := { t.status with due := due } } := by
  cases h : t.path.mode with
  | initializing => exact ⟨t.status.due, noteChanges_initializing o s t h⟩
  | ready => exact ⟨_, noteChanges_ready o s t h⟩

@[simp] theorem noteChanges_straps : (noteChanges o s t).straps = t.straps := by
  obtain ⟨d, h⟩ := noteChanges_eq o s t
  rw [h]
@[simp] theorem noteChanges_path : (noteChanges o s t).path = t.path := by
  obtain ⟨d, h⟩ := noteChanges_eq o s t
  rw [h]
@[simp] theorem noteChanges_map : (noteChanges o s t).map = t.map := by
  obtain ⟨d, h⟩ := noteChanges_eq o s t
  rw [h]
@[simp] theorem noteChanges_tracker : (noteChanges o s t).tracker = t.tracker := by
  obtain ⟨d, h⟩ := noteChanges_eq o s t
  rw [h]
@[simp] theorem noteChanges_stitch : (noteChanges o s t).stitch = t.stitch := by
  obtain ⟨d, h⟩ := noteChanges_eq o s t
  rw [h]
@[simp] theorem noteChanges_sched : (noteChanges o s t).sched = t.sched := by
  obtain ⟨d, h⟩ := noteChanges_eq o s t
  rw [h]
@[simp] theorem noteChanges_rings : (noteChanges o s t).rings = t.rings := by
  obtain ⟨d, h⟩ := noteChanges_eq o s t
  rw [h]
@[simp] theorem noteChanges_link : (noteChanges o s t).link = t.link := by
  obtain ⟨d, h⟩ := noteChanges_eq o s t
  rw [h]
@[simp] theorem noteChanges_mbox : (noteChanges o s t).mbox = t.mbox := by
  obtain ⟨d, h⟩ := noteChanges_eq o s t
  rw [h]
@[simp] theorem noteChanges_free : (noteChanges o s t).free = t.free := by
  obtain ⟨d, h⟩ := noteChanges_eq o s t
  rw [h]
@[simp] theorem noteChanges_out : (noteChanges o s t).out = t.out := by
  obtain ⟨d, h⟩ := noteChanges_eq o s t
  rw [h]
@[simp] theorem noteChanges_pending : (noteChanges o s t).pending = t.pending := by
  obtain ⟨d, h⟩ := noteChanges_eq o s t
  rw [h]
@[simp] theorem noteChanges_events : (noteChanges o s t).status.events = t.status.events := by
  obtain ⟨d, h⟩ := noteChanges_eq o s t
  rw [h]
@[simp] theorem noteChanges_enable : (noteChanges o s t).status.enable = t.status.enable := by
  obtain ⟨d, h⟩ := noteChanges_eq o s t
  rw [h]
@[simp] theorem noteChanges_launchLost : (noteChanges o s t).status.launchLost = t.status.launchLost := by
  obtain ⟨d, h⟩ := noteChanges_eq o s t
  rw [h]
@[simp] theorem noteChanges_paramTorn : (noteChanges o s t).status.paramTorn = t.status.paramTorn := by
  obtain ⟨d, h⟩ := noteChanges_eq o s t
  rw [h]
@[simp] theorem noteChanges_inboundFull : (noteChanges o s t).status.inboundFull = t.status.inboundFull := by
  obtain ⟨d, h⟩ := noteChanges_eq o s t
  rw [h]
@[simp] theorem noteChanges_counters : (noteChanges o s t).status.counters = t.status.counters := by
  obtain ⟨d, h⟩ := noteChanges_eq o s t
  rw [h]
@[simp] theorem noteChanges_snapshot : (noteChanges o s t).status.snapshot = t.status.snapshot := by
  obtain ⟨d, h⟩ := noteChanges_eq o s t
  rw [h]
end noteChanges

section mirroredIn
variable (o : WordOrder) (f : State → State) (s : State)
@[simp] theorem mirroredIn_straps : (mirroredIn o f s).straps = (f s).straps :=
  noteChanges_straps _ s (f s)
@[simp] theorem mirroredIn_path : (mirroredIn o f s).path = (f s).path :=
  noteChanges_path _ s (f s)
@[simp] theorem mirroredIn_map : (mirroredIn o f s).map = (f s).map :=
  noteChanges_map _ s (f s)
@[simp] theorem mirroredIn_tracker : (mirroredIn o f s).tracker = (f s).tracker :=
  noteChanges_tracker _ s (f s)
@[simp] theorem mirroredIn_stitch : (mirroredIn o f s).stitch = (f s).stitch :=
  noteChanges_stitch _ s (f s)
@[simp] theorem mirroredIn_sched : (mirroredIn o f s).sched = (f s).sched :=
  noteChanges_sched _ s (f s)
@[simp] theorem mirroredIn_rings : (mirroredIn o f s).rings = (f s).rings :=
  noteChanges_rings _ s (f s)
@[simp] theorem mirroredIn_link : (mirroredIn o f s).link = (f s).link :=
  noteChanges_link _ s (f s)
@[simp] theorem mirroredIn_mbox : (mirroredIn o f s).mbox = (f s).mbox :=
  noteChanges_mbox _ s (f s)
@[simp] theorem mirroredIn_free : (mirroredIn o f s).free = (f s).free :=
  noteChanges_free _ s (f s)
@[simp] theorem mirroredIn_out : (mirroredIn o f s).out = (f s).out :=
  noteChanges_out _ s (f s)
@[simp] theorem mirroredIn_pending : (mirroredIn o f s).pending = (f s).pending :=
  noteChanges_pending _ s (f s)
@[simp] theorem mirroredIn_events : (mirroredIn o f s).status.events = (f s).status.events :=
  noteChanges_events _ s (f s)
@[simp] theorem mirroredIn_enable : (mirroredIn o f s).status.enable = (f s).status.enable :=
  noteChanges_enable _ s (f s)
@[simp] theorem mirroredIn_launchLost : (mirroredIn o f s).status.launchLost = (f s).status.launchLost :=
  noteChanges_launchLost _ s (f s)
@[simp] theorem mirroredIn_paramTorn : (mirroredIn o f s).status.paramTorn = (f s).status.paramTorn :=
  noteChanges_paramTorn _ s (f s)
@[simp] theorem mirroredIn_inboundFull : (mirroredIn o f s).status.inboundFull = (f s).status.inboundFull :=
  noteChanges_inboundFull _ s (f s)
@[simp] theorem mirroredIn_counters : (mirroredIn o f s).status.counters = (f s).status.counters :=
  noteChanges_counters _ s (f s)
@[simp] theorem mirroredIn_snapshot : (mirroredIn o f s).status.snapshot = (f s).status.snapshot :=
  noteChanges_snapshot _ s (f s)
end mirroredIn

/-- A change whose words no rule orders is one in the ascending order. -/
@[simp] theorem mirrored_eq (f : State → State) (s : State) : mirrored f s = mirroredIn ascending f s := rfl

/-- A command that is one change answers next. -/
@[simp] theorem changeIn_eq (o : WordOrder) (f : State → State) (s : State) :
    changeIn o f s = .next (mirroredIn o f s) := rfl

/-- A command that is one change is one in the ascending order. -/
@[simp] theorem change_eq (f : State → State) (s : State) : change f s = changeIn ascending f s := rfl

/-- A word that is on the due list keeps the list as it is, another joins its tail (R162). -/
theorem joinDue_nodup {due : List (Fin 32)} (h : due.Nodup) (w : Fin 32) : (joinDue due w).Nodup := by
  unfold joinDue
  split
  · exact h
  · next hw =>
    have : w ∉ due := by simpa using hw
    exact List.nodup_append.2 ⟨h, List.nodup_singleton w, by
      intro a ha b hb
      rw [List.mem_singleton] at hb
      subst hb
      exact fun hab => this (hab ▸ ha)⟩

/-- Noting changes keeps the due list without repeats (R162). -/
theorem noteChanges_due_nodup (o : List (Fin 32)) (s t : State) (h : t.status.due.Nodup) :
    (noteChanges o s t).status.due.Nodup := by
  cases hm : t.path.mode with
  | initializing => rw [noteChanges_initializing o s t hm]; exact h
  | ready =>
    rw [noteChanges_ready o s t hm]
    show ((changedWords o s t).foldl joinDue t.status.due).Nodup
    generalize changedWords o s t = ws
    generalize t.status.due = due at h
    induction ws generalizing due with
    | nil => exact h
    | cons w ws ih => exact ih _ (joinDue_nodup h w)

/-- A word joins the due list by joining once, and those on it stay (R162). -/
theorem mem_joinDue {due : List (Fin 32)} {v w : Fin 32} : w ∈ joinDue due v ↔ w ∈ due ∨ w = v := by
  unfold joinDue
  split
  · next h =>
    have : v ∈ due := by simpa using h
    constructor
    · exact Or.inl
    · rintro (h | rfl) <;> assumption
  · simp

/-- What the joining of words in turn puts on the due list (R162). -/
theorem mem_foldl_joinDue {ws due : List (Fin 32)} {w : Fin 32} :
    w ∈ ws.foldl joinDue due ↔ w ∈ due ∨ w ∈ ws := by
  induction ws generalizing due with
  | nil => simp
  | cons v ws ih => rw [List.foldl_cons, ih, mem_joinDue, List.mem_cons, or_assoc]

/-- While READY a word is on the due list after a change if it was on it, or if the change changed it, in
whatever order the words come (R162). -/
theorem mem_noteChanges_due (o : List (Fin 32)) (s t : State) (h : t.path.mode = .ready) (w : Fin 32)
    (hw : w ∈ mirroredWords) :
    w ∈ (noteChanges o s t).status.due ↔
      w ∈ t.status.due ∨ s.statusWord w.val ≠ t.statusWord w.val := by
  rw [noteChanges_ready o s t h]
  show w ∈ (changedWords o s t).foldl joinDue t.status.due ↔ _
  rw [mem_foldl_joinDue]
  simp only [changedWords, List.mem_filter, List.mem_append, hw, or_true, true_and, decide_eq_true_eq]

/-- A counter never goes down by counting (R169). -/
theorem saturate_ge (c : BitVec 32) (n : Nat) : c.toNat ≤ (saturate c n).toNat := by
  unfold saturate
  split
  · next h => rw [BitVec.toNat_ofNat, Nat.mod_eq_of_lt h]; omega
  · have := c.isLt
    show c.toNat ≤ 4294967295
    omega

/-- What `takeNth` takes satisfies the test, and stood in the list. -/
theorem takeNth_mem {α : Type} {p : α → Bool} {k : Nat} {l : List α} {x : α} {rest : List α}
    (h : takeNth p k l = some (x, rest)) : x ∈ l ∧ p x = true := by
  induction l generalizing k rest with
  | nil => simp [takeNth] at h
  | cons y ys ih =>
    unfold takeNth at h
    split at h
    · next hy =>
      cases k with
      | zero =>
        simp only [Option.some.injEq, Prod.mk.injEq] at h
        obtain ⟨rfl, rfl⟩ := h
        exact ⟨List.mem_cons_self, hy⟩
      | succ k =>
        simp only [Option.map_eq_some_iff] at h
        obtain ⟨r, hr, he⟩ := h
        obtain ⟨r1, r2⟩ := r
        simp only [Prod.mk.injEq] at he
        obtain ⟨rfl, -⟩ := he
        exact ⟨List.mem_cons_of_mem _ (ih hr).1, (ih hr).2⟩
    · simp only [Option.map_eq_some_iff] at h
      obtain ⟨r, hr, he⟩ := h
      obtain ⟨r1, r2⟩ := r
      simp only [Prod.mk.injEq] at he
      obtain ⟨rfl, -⟩ := he
      exact ⟨List.mem_cons_of_mem _ (ih hr).1, (ih hr).2⟩

end Sys2Proof.Machine
end

