-- ==== Sys2Proof/Laws/PathUnit.lean ====
section
/-!
SUPPORT. What each operation of the path unit and the operations that blocks share
leaves as it was: one lemma for an operation, with a rewriting rule for each part that it keeps.
-/

namespace Sys2Proof.Machine

@[simp] theorem issueSplit_frame (o : Owner) (a : Nat) (d : List Byte) (s : State) :
    SameOutside s (s.issueSplit o a d) ∧ SameCapture s (s.issueSplit o a d) ∧
      SameLink s (s.issueSplit o a d) ∧ PathUnit.SameButOther s.path (s.issueSplit o a d).path ∧
      (s.issueSplit o a d).mbox = s.mbox ∧ (s.issueSplit o a d).status = s.status := by
  and_intros <;> (unfold State.issueSplit; generalize chunks d.length a d.length = l; induction l generalizing s with
    | nil => rfl
    | cons x l ih => exact (ih _).trans (by simp))

@[simp] theorem issueIndex_frame (o : Owner) (w : Option Nat) (i : RingIndex) (s : State) :
    SameOutside s (s.issueIndex o w i) ∧ SameCapture s (s.issueIndex o w i) ∧
      SameLink s (s.issueIndex o w i) ∧ PathUnit.SameButOther s.path (s.issueIndex o w i).path ∧
      (s.issueIndex o w i).mbox = s.mbox ∧ (s.issueIndex o w i).status = s.status := by
  unfold State.issueIndex
  (repeat' split) <;> simp

@[simp] theorem finish_frame (e : ErrorCode) (d : List Word) (s : State) :
    SameOutside s (s.finish e d) ∧ SameCapture s (s.finish e d) ∧ SameLink s (s.finish e d) ∧
      PathUnit.SameButOther s.path (s.finish e d).path ∧
      Mailbox.SameButRunning s.mbox (s.finish e d).mbox ∧ (s.finish e d).status = s.status := by
  unfold State.finish
  (repeat' split) <;> simp

@[simp] theorem finishIf_frame (c : Command) (e : ErrorCode) (d : List Word) (s : State) :
    SameOutside s (s.finishIf c e d) ∧ SameCapture s (s.finishIf c e d) ∧
      SameLink s (s.finishIf c e d) ∧ PathUnit.SameButOther s.path (s.finishIf c e d).path ∧
      Mailbox.SameButRunning s.mbox (s.finishIf c e d).mbox ∧ (s.finishIf c e d).status = s.status := by
  unfold State.finishIf
  (repeat' split) <;> simp

@[simp] theorem block_frame (r : Request) (o : Origin) (s : State) :
    SameCapture s (s.block r o) ∧ SameLink s (s.block r o) ∧
      PathUnit.SameButQueues s.path (s.block r o).path ∧
      StatusUnit.SameButRaised s.status (s.block r o).status ∧ (s.block r o).straps = s.straps ∧
      (s.block r o).path.pass = s.path.pass ∧ (s.block r o).path.hold = s.path.hold ∧
      (s.block r o).mbox = s.mbox ∧ (s.block r o).free = s.free ∧
      (s.block r o).pending = s.pending := by
  and_intros <;> (unfold State.block; (repeat' split) <;> simp <;> (repeat' split) <;> rfl)

@[simp] theorem joinPass_frame (r : Request) (ts : List Tap) (s : State) :
    SameOutside s (s.joinPass r ts) ∧ SameCapture s (s.joinPass r ts) ∧
      SameLink s (s.joinPass r ts) ∧ PathUnit.SameButQueues s.path (s.joinPass r ts).path ∧
      (s.joinPass r ts).path.hold = s.path.hold ∧ (s.joinPass r ts).path.guard = s.path.guard ∧
      (s.joinPass r ts).mbox = s.mbox ∧ (s.joinPass r ts).status = s.status := by
  and_intros <;> rfl

@[simp] theorem joinHold_frame (r : Request) (ro : Role) (s : State) :
    SameOutside s (s.joinHold r ro) ∧ SameCapture s (s.joinHold r ro) ∧
      SameLink s (s.joinHold r ro) ∧ PathUnit.SameButQueues s.path (s.joinHold r ro).path ∧
      StatusUnit.SameButCounters s.status (s.joinHold r ro).status ∧
      (s.joinHold r ro).path.pass = s.path.pass ∧ (s.joinHold r ro).path.guard = s.path.guard ∧
      (s.joinHold r ro).mbox = s.mbox := by
  and_intros <;> rfl

@[simp] theorem leaveHold_frame (i : BitVec 4) (s : State) :
    SameOutside s (s.leaveHold i) ∧ SameCapture s (s.leaveHold i) ∧ SameLink s (s.leaveHold i) ∧
      PathUnit.SameButQueues s.path (s.leaveHold i).path ∧ (s.leaveHold i).path.pass = s.path.pass ∧
      (s.leaveHold i).path.guard = s.path.guard ∧ (s.leaveHold i).mbox = s.mbox ∧
      (s.leaveHold i).status = s.status := by
  and_intros <;> rfl

@[simp] theorem takeIn_frame (r : Request) (s : State) :
    SameCapture s (s.takeIn r) ∧ SameLink s (s.takeIn r) ∧
      PathUnit.SameButQueues s.path (s.takeIn r).path ∧
      StatusUnit.SameButRaised s.status (s.takeIn r).status ∧ (s.takeIn r).straps = s.straps ∧
      (s.takeIn r).mbox = s.mbox ∧ (s.takeIn r).free = s.free ∧ (s.takeIn r).pending = s.pending := by
  unfold State.takeIn
  (repeat' split) <;> simp

@[simp] theorem takeLoop_frame (n : Nat) (s : State) :
    SameCapture s (takeLoop n s) ∧ SameLink s (takeLoop n s) ∧
      PathUnit.SameButTaken s.path (takeLoop n s).path ∧
      StatusUnit.SameButRaised s.status (takeLoop n s).status ∧ (takeLoop n s).straps = s.straps ∧
      (takeLoop n s).mbox = s.mbox ∧ (takeLoop n s).free = s.free ∧
      (takeLoop n s).pending = s.pending := by
  and_intros <;> (induction n generalizing s with
    | zero => rfl
    | succ n ih => (unfold takeLoop; (repeat' split) <;> first | rfl | (simp [ih]; done)))

@[simp] theorem takeWaiting_frame (s : State) :
    SameCapture s s.takeWaiting ∧ SameLink s s.takeWaiting ∧
      PathUnit.SameButTaken s.path s.takeWaiting.path ∧
      StatusUnit.SameButRaised s.status s.takeWaiting.status ∧ s.takeWaiting.straps = s.straps ∧
      s.takeWaiting.mbox = s.mbox ∧ s.takeWaiting.free = s.free ∧
      s.takeWaiting.pending = s.pending := by
  unfold State.takeWaiting
  simp

@[simp] theorem expire_frame (h : Held) (s : State) :
    SameOutside s (s.expire h) ∧ SameCapture s (s.expire h) ∧ SameLink s (s.expire h) ∧
      PathUnit.SameButQueues s.path (s.expire h).path ∧
      StatusUnit.SameButCounters s.status (s.expire h).status ∧
      (s.expire h).path.guard = s.path.guard ∧ (s.expire h).mbox = s.mbox := by
  and_intros <;> rfl

@[simp] theorem promote_frame (i : BitVec 4) (s : State) :
    SameOutside s (s.promote i) ∧ SameCapture s (s.promote i) ∧ SameLink s (s.promote i) ∧
      PathUnit.SameButQueues s.path (s.promote i).path ∧ (s.promote i).path.pass = s.path.pass ∧
      (s.promote i).path.guard = s.path.guard ∧ (s.promote i).mbox = s.mbox ∧
      (s.promote i).status = s.status := by
  and_intros <;> rfl

@[simp] theorem chainLoop_frame (n : Nat) (i : BitVec 4) (s : State) :
    SameCapture s (chainLoop n i s) ∧ SameLink s (chainLoop n i s) ∧
      PathUnit.SameButQueues s.path (chainLoop n i s).path ∧
      StatusUnit.SameButRaised s.status (chainLoop n i s).status ∧
      (chainLoop n i s).straps = s.straps ∧ (chainLoop n i s).mbox = s.mbox ∧
      (chainLoop n i s).free = s.free ∧ (chainLoop n i s).pending = s.pending := by
  and_intros <;> (induction n generalizing s with
    | zero => rfl
    | succ n ih => (unfold chainLoop; (repeat' split) <;> first | rfl | (simp [ih]; done)))

@[simp] theorem workChain_frame (i : BitVec 4) (s : State) :
    SameCapture s (s.workChain i) ∧ SameLink s (s.workChain i) ∧
      PathUnit.SameButQueues s.path (s.workChain i).path ∧
      StatusUnit.SameButRaised s.status (s.workChain i).status ∧ (s.workChain i).straps = s.straps ∧
      (s.workChain i).mbox = s.mbox ∧ (s.workChain i).free = s.free ∧
      (s.workChain i).pending = s.pending := by
  unfold State.workChain
  simp

@[simp] theorem reclassifyLeader_frame (i : BitVec 4) (s : State) :
    SameCapture s (s.reclassifyLeader i) ∧ SameLink s (s.reclassifyLeader i) ∧
      PathUnit.SameButQueues s.path (s.reclassifyLeader i).path ∧
      StatusUnit.SameButRaised s.status (s.reclassifyLeader i).status ∧
      (s.reclassifyLeader i).straps = s.straps ∧ (s.reclassifyLeader i).mbox = s.mbox ∧
      (s.reclassifyLeader i).free = s.free ∧ (s.reclassifyLeader i).pending = s.pending := by
  unfold State.reclassifyLeader
  (repeat' split) <;> simp

@[simp] theorem reclassify_frame (s : State) :
    SameCapture s s.reclassify ∧ SameLink s s.reclassify ∧
      PathUnit.SameButQueues s.path s.reclassify.path ∧
      StatusUnit.SameButRaised s.status s.reclassify.status ∧ s.reclassify.straps = s.straps ∧
      s.reclassify.mbox = s.mbox ∧ s.reclassify.free = s.free ∧ s.reclassify.pending = s.pending := by
  and_intros <;> (unfold State.reclassify; generalize s.path.leaders = l; induction l generalizing s with
    | nil => rfl
    | cons x l ih => exact (ih _).trans (by simp))

@[simp] theorem grantOwn_frame (s : State) :
    SameCapture s s.grantOwn ∧ SameLink s s.grantOwn ∧ PathUnit.SameFlow s.path s.grantOwn.path ∧
      s.grantOwn.straps = s.straps ∧ s.grantOwn.path.guard = s.path.guard ∧
      s.grantOwn.path.forwarded = s.path.forwarded ∧ s.grantOwn.mbox = s.mbox ∧
      s.grantOwn.status = s.status ∧ s.grantOwn.free = s.free ∧ s.grantOwn.pending = s.pending := by
  unfold State.grantOwn
  (repeat' split) <;> simp

end Sys2Proof.Machine
end

