-- ==== Sys2Proof/Laws/RegionMap.lean ====
section
/-!
SUPPORT. What each operation of the commands of the region map, and OPEN STREAM
leaves as it was: one lemma for an operation, with a rewriting rule for each part that it keeps.
-/

namespace Sys2Proof.Machine

@[simp] theorem setWindow_frame (i : Nat) (w : Window) (s : State) :
    SameOutside s (s.setWindow i w) ∧ SameLink s (s.setWindow i w) ∧
      (s.setWindow i w).path = s.path ∧ (s.setWindow i w).map.cursor = s.map.cursor ∧
      (s.setWindow i w).tracker = s.tracker ∧ (s.setWindow i w).stitch = s.stitch ∧
      (s.setWindow i w).mbox = s.mbox ∧ (s.setWindow i w).status = s.status := by
  unfold State.setWindow
  (repeat' split) <;> simp

@[simp] theorem walkFrom_frame (n : Nat) (s : State) :
    SameOutside s (walkFrom n s).1 ∧ SameLink s (walkFrom n s).1 ∧
      (walkFrom n s).1.path = s.path ∧ (walkFrom n s).1.map.windows = s.map.windows ∧
      (walkFrom n s).1.tracker = s.tracker ∧ (walkFrom n s).1.stitch = s.stitch ∧
      (walkFrom n s).1.mbox = s.mbox ∧ (walkFrom n s).1.status = s.status := by
  unfold walkFrom
  (repeat' split) <;> simp

@[simp] theorem doMakeWindow_frame (p : Params) (s : State) :
    SameOutside s (doMakeWindow p s).1 ∧ SameLink s (doMakeWindow p s).1 ∧
      (doMakeWindow p s).1.path = s.path ∧ (doMakeWindow p s).1.map.cursor = s.map.cursor ∧
      (doMakeWindow p s).1.tracker = s.tracker ∧ (doMakeWindow p s).1.stitch = s.stitch ∧
      (doMakeWindow p s).1.mbox = s.mbox ∧ (doMakeWindow p s).1.status = s.status := by
  unfold doMakeWindow
  simp

@[simp] theorem doClearWindow_frame (p : Params) (s : State) :
    SameOutside s (doClearWindow p s).1 ∧ SameLink s (doClearWindow p s).1 ∧
      (doClearWindow p s).1.path = s.path ∧ (doClearWindow p s).1.map.cursor = s.map.cursor ∧
      (doClearWindow p s).1.tracker = s.tracker ∧ (doClearWindow p s).1.stitch = s.stitch ∧
      (doClearWindow p s).1.mbox = s.mbox ∧ (doClearWindow p s).1.status = s.status := by
  unfold doClearWindow
  simp

@[simp] theorem doLockWindow_frame (p : Params) (s : State) :
    SameOutside s (doLockWindow p s).1 ∧ SameLink s (doLockWindow p s).1 ∧
      (doLockWindow p s).1.path = s.path ∧ (doLockWindow p s).1.map.cursor = s.map.cursor ∧
      (doLockWindow p s).1.tracker = s.tracker ∧ (doLockWindow p s).1.stitch = s.stitch ∧
      (doLockWindow p s).1.mbox = s.mbox ∧ (doLockWindow p s).1.status = s.status := by
  unfold doLockWindow
  dsimp only
  (repeat' split) <;> simp

@[simp] theorem doReadFirst_frame (s : State) :
    SameOutside s (doReadFirst s).1 ∧ SameLink s (doReadFirst s).1 ∧
      (doReadFirst s).1.path = s.path ∧ (doReadFirst s).1.map.windows = s.map.windows ∧
      (doReadFirst s).1.tracker = s.tracker ∧ (doReadFirst s).1.stitch = s.stitch ∧
      (doReadFirst s).1.mbox = s.mbox ∧ (doReadFirst s).1.status = s.status := by
  unfold doReadFirst
  simp

@[simp] theorem doReadNext_frame (s : State) :
    SameOutside s (doReadNext s).1 ∧ SameLink s (doReadNext s).1 ∧
      (doReadNext s).1.path = s.path ∧ (doReadNext s).1.map.windows = s.map.windows ∧
      (doReadNext s).1.tracker = s.tracker ∧ (doReadNext s).1.stitch = s.stitch ∧
      (doReadNext s).1.mbox = s.mbox ∧ (doReadNext s).1.status = s.status := by
  unfold doReadNext
  simp

@[simp] theorem doOpenStream_frame (p : Params) (s : State) :
    SameOutside s (doOpenStream p s).1 ∧ SameLink s (doOpenStream p s).1 ∧
      (doOpenStream p s).1.path = s.path ∧ (doOpenStream p s).1.map = s.map ∧
      (doOpenStream p s).1.stitch.nextEntry = s.stitch.nextEntry ∧
      (doOpenStream p s).1.mbox = s.mbox ∧ (doOpenStream p s).1.status = s.status := by
  and_intros <;> rfl

end Sys2Proof.Machine
end

