-- ==== Sys2Proof/Laws/VideoQueue.lean ====
section
/-!
SUPPORT. What each operation of the video queue
leaves as it was: one lemma for an operation, with a rewriting rule for each part that it keeps.
-/

namespace Sys2Proof.Machine

@[simp] theorem finishLines_frame (f : FrameNumber) (sl : Fin 4) (n : Nat) (s : State) :
    SameOutside s (s.finishLines f sl n) ∧ SameLink s (s.finishLines f sl n) ∧
      (s.finishLines f sl n).path = s.path ∧ (s.finishLines f sl n).map = s.map ∧
      (s.finishLines f sl n).tracker.stream = s.tracker.stream ∧
      (s.finishLines f sl n).tracker.frames = s.tracker.frames ∧
      (s.finishLines f sl n).tracker.newest = s.tracker.newest ∧
      (s.finishLines f sl n).stitch = s.stitch ∧ (s.finishLines f sl n).mbox = s.mbox ∧
      (s.finishLines f sl n).status = s.status := by
  and_intros <;> (unfold State.finishLines; (repeat' split) <;> simp <;> (repeat' split) <;> rfl)

@[simp] theorem drainTest_frame (s : State) :
    SameOutside s s.drainTest ∧ SameLink s s.drainTest ∧
      PathUnit.SameButOther s.path s.drainTest.path ∧
      Mailbox.SameButRunning s.mbox s.drainTest.mbox ∧
      StatusUnit.SameButEvents s.status s.drainTest.status ∧ s.drainTest.map = s.map ∧
      s.drainTest.tracker.frames = s.tracker.frames ∧
      s.drainTest.tracker.newest = s.tracker.newest ∧ s.drainTest.stitch = s.stitch := by
  unfold State.drainTest
  (repeat' split) <;> simp

@[simp] theorem sink_frame (j : Job) (s : State) :
    SameOutside s (s.sink j) ∧ SameLink s (s.sink j) ∧
      StatusUnit.SameButCounters s.status (s.sink j).status ∧ (s.sink j).path = s.path ∧
      (s.sink j).map = s.map ∧ (s.sink j).tracker.stream = s.tracker.stream ∧
      (s.sink j).tracker.frames = s.tracker.frames ∧ (s.sink j).tracker.newest = s.tracker.newest ∧
      (s.sink j).stitch = s.stitch ∧ (s.sink j).mbox = s.mbox := by
  unfold State.sink
  simp

@[simp] theorem appendJob_frame (f : FrameNumber) (sl : Fin 4) (b : JobBody) (s : State) :
    SameOutside s (s.appendJob f sl b) ∧
      Scheduler.SameButAppend s.sched (s.appendJob f sl b).sched ∧
      StatusUnit.SameButCounters s.status (s.appendJob f sl b).status ∧
      (s.appendJob f sl b).path = s.path ∧ (s.appendJob f sl b).map = s.map ∧
      (s.appendJob f sl b).tracker.stream = s.tracker.stream ∧
      (s.appendJob f sl b).tracker.frames = s.tracker.frames ∧
      (s.appendJob f sl b).tracker.newest = s.tracker.newest ∧
      (s.appendJob f sl b).stitch = s.stitch ∧ (s.appendJob f sl b).rings = s.rings ∧
      (s.appendJob f sl b).link = s.link ∧ (s.appendJob f sl b).mbox = s.mbox := by
  unfold State.appendJob
  (repeat' split) <;> simp

@[simp] theorem foldl_sink_frame (l : List Job) (s : State) :
    SameOutside s (l.foldl (fun t j => t.sink j) s) ∧
      SameLink s (l.foldl (fun t j => t.sink j) s) ∧
      StatusUnit.SameButCounters s.status (l.foldl (fun t j => t.sink j) s).status ∧
      (l.foldl (fun t j => t.sink j) s).path = s.path ∧
      (l.foldl (fun t j => t.sink j) s).map = s.map ∧
      (l.foldl (fun t j => t.sink j) s).tracker.stream = s.tracker.stream ∧
      (l.foldl (fun t j => t.sink j) s).tracker.frames = s.tracker.frames ∧
      (l.foldl (fun t j => t.sink j) s).tracker.newest = s.tracker.newest ∧
      (l.foldl (fun t j => t.sink j) s).stitch = s.stitch ∧
      (l.foldl (fun t j => t.sink j) s).mbox = s.mbox := by
  and_intros <;> (induction l generalizing s with
    | nil => rfl
    | cons x l ih => exact (ih _).trans (by simp))

@[simp] theorem sinkAll_frame (s : State) :
    SameOutside s s.sinkAll ∧ Scheduler.SameButQueue s.sched s.sinkAll.sched ∧
      StatusUnit.SameButCounters s.status s.sinkAll.status ∧ s.sinkAll.path = s.path ∧
      s.sinkAll.map = s.map ∧ s.sinkAll.tracker.stream = s.tracker.stream ∧
      s.sinkAll.tracker.frames = s.tracker.frames ∧ s.sinkAll.tracker.newest = s.tracker.newest ∧
      s.sinkAll.stitch = s.stitch ∧ s.sinkAll.rings = s.rings ∧ s.sinkAll.link = s.link ∧
      s.sinkAll.mbox = s.mbox := by
  unfold State.sinkAll
  simp

/-- After the queue is sunk it holds no job (R79). -/
theorem sinkAll_queue (s : State) : s.sinkAll.sched.queue = [] := by
  unfold State.sinkAll
  simp

@[simp] theorem dropJobs_frame (f : FrameNumber) (sl : Fin 4) (s : State) :
    SameOutside s (s.dropJobs f sl) ∧ SameCapture s (s.dropJobs f sl) ∧
      Scheduler.SameButDrop s.sched (s.dropJobs f sl).sched ∧ (s.dropJobs f sl).path = s.path ∧
      (s.dropJobs f sl).rings = s.rings ∧ (s.dropJobs f sl).link = s.link ∧
      (s.dropJobs f sl).mbox = s.mbox ∧ (s.dropJobs f sl).status = s.status := by
  and_intros <;> rfl

@[simp] theorem abandonJob_frame (n : Nat) (s : State) :
    SameOutside s (s.abandonJob n) ∧ SameCapture s (s.abandonJob n) ∧
      Scheduler.SameButQueue s.sched (s.abandonJob n).sched ∧ (s.abandonJob n).path = s.path ∧
      (s.abandonJob n).rings = s.rings ∧ (s.abandonJob n).link = s.link ∧
      (s.abandonJob n).mbox = s.mbox ∧ (s.abandonJob n).status = s.status := by
  and_intros <;> rfl

@[simp] theorem jobSent_frame (n : Nat) (s : State) :
    SameOutside s (s.jobSent n) ∧ PathUnit.SameButOther s.path (s.jobSent n).path ∧
      Scheduler.SameButQueue s.sched (s.jobSent n).sched ∧
      Mailbox.SameButRunning s.mbox (s.jobSent n).mbox ∧
      StatusUnit.SameButEvents s.status (s.jobSent n).status ∧ (s.jobSent n).map = s.map ∧
      (s.jobSent n).tracker.frames = s.tracker.frames ∧
      (s.jobSent n).tracker.newest = s.tracker.newest ∧ (s.jobSent n).stitch = s.stitch ∧
      (s.jobSent n).rings = s.rings ∧ (s.jobSent n).link = s.link := by
  unfold State.jobSent
  (repeat' split) <;> simp

end Sys2Proof.Machine
end

