-- ==== Sys2Proof/Laws/StitchTable.lean ====
section
/-!
SUPPORT. What each operation of the stitch table
leaves as it was: one lemma for an operation, with a rewriting rule for each part that it keeps.
-/

namespace Sys2Proof.Machine

@[simp] theorem addEntry_frame (e : LineEntry) (s : State) :
    SameOutside s (s.addEntry e) ∧ SameLink s (s.addEntry e) ∧ (s.addEntry e).path = s.path ∧
      (s.addEntry e).map = s.map ∧ (s.addEntry e).tracker = s.tracker ∧
      (s.addEntry e).mbox = s.mbox ∧ (s.addEntry e).status = s.status := by
  and_intros <;> rfl

@[simp] theorem putEntry_frame (e : LineEntry) (s : State) :
    SameOutside s (s.putEntry e) ∧ SameLink s (s.putEntry e) ∧ (s.putEntry e).path = s.path ∧
      (s.putEntry e).map = s.map ∧ (s.putEntry e).tracker = s.tracker ∧
      (s.putEntry e).stitch.nextEntry = s.stitch.nextEntry ∧ (s.putEntry e).mbox = s.mbox ∧
      (s.putEntry e).status = s.status := by
  and_intros <;> rfl

@[simp] theorem ensureHead_frame (s : State) :
    SameOutside s s.ensureHead ∧ SameLink s s.ensureHead ∧ s.ensureHead.path = s.path ∧
      s.ensureHead.map = s.map ∧ s.ensureHead.tracker = s.tracker ∧ s.ensureHead.mbox = s.mbox ∧
      s.ensureHead.status = s.status := by
  unfold State.ensureHead
  (repeat' split) <;> simp

@[simp] theorem countEffect_frame (k : Fin 6) (x : SegmentEffect) (s : State) :
    SameOutside s (s.countEffect k x) ∧ SameCapture s (s.countEffect k x) ∧
      SameLink s (s.countEffect k x) ∧
      StatusUnit.SameButCounters s.status (s.countEffect k x).status ∧
      (s.countEffect k x).path = s.path ∧ (s.countEffect k x).mbox = s.mbox := by
  unfold State.countEffect
  (repeat' split) <;> simp

@[simp] theorem applyWrite_frame (e : LineEntry) (w : Fin 32) (k : Fin 6) (b n : Nat) (s : State) :
    SameOutside s (s.applyWrite e w k b n) ∧ SameLink s (s.applyWrite e w k b n) ∧
      StatusUnit.SameButCounters s.status (s.applyWrite e w k b n).status ∧
      (s.applyWrite e w k b n).path = s.path ∧ (s.applyWrite e w k b n).map = s.map ∧
      (s.applyWrite e w k b n).tracker = s.tracker ∧
      (s.applyWrite e w k b n).stitch.nextEntry = s.stitch.nextEntry ∧
      (s.applyWrite e w k b n).mbox = s.mbox := by
  unfold State.applyWrite
  simp

@[simp] theorem handOn_frame (f : FrameNumber) (sl : Fin 4) (l : Nat) (w : Fin 32) (k : Fin 6) (b n : Nat) (s : State) :
    SameOutside s (s.handOn f sl l w k b n).1 ∧ SameLink s (s.handOn f sl l w k b n).1 ∧
      StatusUnit.SameButCounters s.status (s.handOn f sl l w k b n).1.status ∧
      (s.handOn f sl l w k b n).1.path = s.path ∧ (s.handOn f sl l w k b n).1.map = s.map ∧
      (s.handOn f sl l w k b n).1.tracker = s.tracker ∧ (s.handOn f sl l w k b n).1.mbox = s.mbox := by
  unfold State.handOn
  dsimp only
  (repeat' split) <;> simp

@[simp] theorem capture_frame (w : Fin 32) (k : Fin 6) (r : Request) (s : State) :
    SameOutside s (s.capture w k r).1 ∧ SameLink s (s.capture w k r).1 ∧
      StatusUnit.SameButCounters s.status (s.capture w k r).1.status ∧
      (s.capture w k r).1.path = s.path ∧ (s.capture w k r).1.map = s.map ∧
      (s.capture w k r).1.tracker = s.tracker ∧ (s.capture w k r).1.mbox = s.mbox := by
  unfold State.capture
  dsimp only
  (repeat' split) <;> simp

@[simp] theorem damage_frame (a : Applied) (s : State) :
    SameOutside s (s.damage a) ∧ SameLink s (s.damage a) ∧
      StatusUnit.SameButCounters s.status (s.damage a).status ∧ (s.damage a).path = s.path ∧
      (s.damage a).map = s.map ∧ (s.damage a).tracker = s.tracker ∧
      (s.damage a).stitch.nextEntry = s.stitch.nextEntry ∧ (s.damage a).mbox = s.mbox := by
  unfold State.damage
  dsimp only
  (repeat' split) <;> simp

@[simp] theorem updHead_frame (f : FrameRecord → FrameRecord) (s : State) :
    SameOutside s (s.updHead f) ∧ SameLink s (s.updHead f) ∧ (s.updHead f).path = s.path ∧
      (s.updHead f).map = s.map ∧ (s.updHead f).tracker.stream = s.tracker.stream ∧
      (s.updHead f).tracker.slots = s.tracker.slots ∧
      (s.updHead f).tracker.newest = s.tracker.newest ∧ (s.updHead f).stitch = s.stitch ∧
      (s.updHead f).mbox = s.mbox ∧ (s.updHead f).status = s.status := by
  and_intros <;> (unfold State.updHead; (repeat' split) <;> simp <;> (repeat' split) <;> rfl)

@[simp] theorem removeLines_frame (f : FrameNumber) (sl : Fin 4) (a n : Nat) (s : State) :
    SameOutside s (s.removeLines f sl a n) ∧ SameLink s (s.removeLines f sl a n) ∧
      (s.removeLines f sl a n).path = s.path ∧ (s.removeLines f sl a n).map = s.map ∧
      (s.removeLines f sl a n).tracker = s.tracker ∧
      (s.removeLines f sl a n).stitch.nextEntry = s.stitch.nextEntry ∧
      (s.removeLines f sl a n).mbox = s.mbox ∧ (s.removeLines f sl a n).status = s.status := by
  and_intros <;> rfl

@[simp] theorem advance_frame (f : FrameRecord) (n : Nat) (u : FrameRecord → FrameRecord) (s : State) :
    SameLink s (s.advance f n u) ∧ PathUnit.SameButQueues s.path (s.advance f n u).path ∧
      StatusUnit.SameButRaised s.status (s.advance f n u).status ∧
      (s.advance f n u).straps = s.straps ∧ (s.advance f n u).map = s.map ∧
      (s.advance f n u).tracker.stream = s.tracker.stream ∧
      (s.advance f n u).tracker.slots = s.tracker.slots ∧
      (s.advance f n u).tracker.newest = s.tracker.newest ∧ (s.advance f n u).mbox = s.mbox ∧
      (s.advance f n u).free = s.free ∧ (s.advance f n u).pending = s.pending := by
  unfold State.advance
  simp

@[simp] theorem releaseHead_frame (f : FrameRecord) (e : LineEntry) (s : State) :
    PathUnit.SameButQueues s.path (s.releaseHead f e).path ∧
      Scheduler.SameButAppend s.sched (s.releaseHead f e).sched ∧
      StatusUnit.SameButRaised s.status (s.releaseHead f e).status ∧
      (s.releaseHead f e).straps = s.straps ∧ (s.releaseHead f e).map = s.map ∧
      (s.releaseHead f e).tracker.stream = s.tracker.stream ∧
      (s.releaseHead f e).tracker.newest = s.tracker.newest ∧ (s.releaseHead f e).rings = s.rings ∧
      (s.releaseHead f e).link = s.link ∧ (s.releaseHead f e).mbox = s.mbox ∧
      (s.releaseHead f e).free = s.free ∧ (s.releaseHead f e).pending = s.pending := by
  unfold State.releaseHead
  (repeat' split) <;> simp

@[simp] theorem release_frame (s : State) :
    Scheduler.SameButAppend s.sched s.release.sched ∧
      Mailbox.SameButRunning s.mbox s.release.mbox ∧
      StatusUnit.SameButRaised s.status s.release.status ∧ PathUnit.SameOut s.path s.release.path ∧
      s.release.straps = s.straps ∧ s.release.path.mode = s.path.mode ∧
      s.release.path.egress = s.path.egress ∧ s.release.map = s.map ∧
      s.release.tracker.newest = s.tracker.newest ∧ s.release.rings = s.rings ∧
      s.release.link = s.link ∧ s.release.free = s.free ∧ s.release.pending = s.pending := by
  unfold State.release
  (repeat' split) <;> simp

@[simp] theorem endHead_frame (f : FrameRecord) (s : State) :
    Scheduler.SameButAppend s.sched (s.endHead f).sched ∧
      Mailbox.SameButRunning s.mbox (s.endHead f).mbox ∧
      StatusUnit.SameButRaised s.status (s.endHead f).status ∧
      PathUnit.SameOut s.path (s.endHead f).path ∧ (s.endHead f).straps = s.straps ∧
      (s.endHead f).path.mode = s.path.mode ∧ (s.endHead f).path.waiting = s.path.waiting ∧
      (s.endHead f).path.egress = s.path.egress ∧ (s.endHead f).map = s.map ∧
      (s.endHead f).tracker.newest = s.tracker.newest ∧ (s.endHead f).rings = s.rings ∧
      (s.endHead f).link = s.link ∧ (s.endHead f).free = s.free ∧
      (s.endHead f).pending = s.pending := by
  unfold State.endHead
  simp

@[simp] theorem endFrame_frame (s : State) :
    Scheduler.SameButAppend s.sched s.endFrame.sched ∧
      Mailbox.SameButRunning s.mbox s.endFrame.mbox ∧
      StatusUnit.SameButRaised s.status s.endFrame.status ∧
      PathUnit.SameOut s.path s.endFrame.path ∧ s.endFrame.straps = s.straps ∧
      s.endFrame.path.mode = s.path.mode ∧ s.endFrame.path.egress = s.path.egress ∧
      s.endFrame.map = s.map ∧ s.endFrame.tracker.newest = s.tracker.newest ∧
      s.endFrame.rings = s.rings ∧ s.endFrame.link = s.link ∧ s.endFrame.free = s.free ∧
      s.endFrame.pending = s.pending := by
  unfold State.endFrame
  (repeat' split) <;> simp

@[simp] theorem reportDrop_frame (f : FrameNumber) (s : State) :
    SameOutside s (s.reportDrop f) ∧ SameCapture s (s.reportDrop f) ∧
      LinkUnit.SameButDrop s.link (s.reportDrop f).link ∧ (s.reportDrop f).path = s.path ∧
      (s.reportDrop f).sched = s.sched ∧ (s.reportDrop f).rings = s.rings ∧
      (s.reportDrop f).mbox = s.mbox ∧ (s.reportDrop f).status = s.status := by
  and_intros <;> rfl

@[simp] theorem dropFrame_frame (f : FrameNumber) (sl : Fin 4) (s : State) :
    SameOutside s (s.dropFrame f sl) ∧ Scheduler.SameButDrop s.sched (s.dropFrame f sl).sched ∧
      LinkUnit.SameButDrop s.link (s.dropFrame f sl).link ∧
      StatusUnit.SameButRaised s.status (s.dropFrame f sl).status ∧
      (s.dropFrame f sl).path = s.path ∧ (s.dropFrame f sl).map = s.map ∧
      (s.dropFrame f sl).tracker.stream = s.tracker.stream ∧
      (s.dropFrame f sl).tracker.newest = s.tracker.newest ∧ (s.dropFrame f sl).rings = s.rings ∧
      (s.dropFrame f sl).mbox = s.mbox := by
  unfold State.dropFrame
  simp

@[simp] theorem endFinished_frame (sl : Fin 4) (s : State) :
    Scheduler.SameButAppend s.sched (s.endFinished sl).sched ∧
      Mailbox.SameButRunning s.mbox (s.endFinished sl).mbox ∧
      StatusUnit.SameButRaised s.status (s.endFinished sl).status ∧
      PathUnit.SameOut s.path (s.endFinished sl).path ∧ (s.endFinished sl).straps = s.straps ∧
      (s.endFinished sl).path.mode = s.path.mode ∧
      (s.endFinished sl).path.waiting = s.path.waiting ∧
      (s.endFinished sl).path.egress = s.path.egress ∧ (s.endFinished sl).map = s.map ∧
      (s.endFinished sl).tracker.newest = s.tracker.newest ∧ (s.endFinished sl).rings = s.rings ∧
      (s.endFinished sl).link = s.link ∧ (s.endFinished sl).free = s.free ∧
      (s.endFinished sl).pending = s.pending := by
  unfold State.endFinished
  (repeat' split) <;> simp

@[simp] theorem acceptMark_frame (f : FrameNumber) (sl : Fin 4) (s : State) :
    LinkUnit.SameButDrop s.link (s.acceptMark f sl).link ∧
      Mailbox.SameButRunning s.mbox (s.acceptMark f sl).mbox ∧
      StatusUnit.SameButRaised s.status (s.acceptMark f sl).status ∧
      Scheduler.SamePlan s.sched (s.acceptMark f sl).sched ∧
      PathUnit.SameOut s.path (s.acceptMark f sl).path ∧ (s.acceptMark f sl).straps = s.straps ∧
      (s.acceptMark f sl).path.mode = s.path.mode ∧
      (s.acceptMark f sl).path.waiting = s.path.waiting ∧
      (s.acceptMark f sl).path.egress = s.path.egress ∧ (s.acceptMark f sl).map = s.map ∧
      (s.acceptMark f sl).sched.hold = s.sched.hold ∧
      (s.acceptMark f sl).sched.nextParcel = s.sched.nextParcel ∧
      (s.acceptMark f sl).rings = s.rings ∧ (s.acceptMark f sl).free = s.free ∧
      (s.acceptMark f sl).pending = s.pending := by
  unfold State.acceptMark
  dsimp only
  (repeat' split) <;> simp

@[simp] theorem frameMark_frame (a : Nat) (v : Word) (s : State) :
    LinkUnit.SameButDrop s.link (s.frameMark a v).link ∧
      Mailbox.SameButRunning s.mbox (s.frameMark a v).mbox ∧
      StatusUnit.SameButRaised s.status (s.frameMark a v).status ∧
      Scheduler.SamePlan s.sched (s.frameMark a v).sched ∧
      PathUnit.SameOut s.path (s.frameMark a v).path ∧ (s.frameMark a v).straps = s.straps ∧
      (s.frameMark a v).path.mode = s.path.mode ∧ (s.frameMark a v).path.waiting = s.path.waiting ∧
      (s.frameMark a v).path.egress = s.path.egress ∧ (s.frameMark a v).map = s.map ∧
      (s.frameMark a v).sched.hold = s.sched.hold ∧
      (s.frameMark a v).sched.nextParcel = s.sched.nextParcel ∧ (s.frameMark a v).rings = s.rings ∧
      (s.frameMark a v).free = s.free ∧ (s.frameMark a v).pending = s.pending := by
  unfold State.frameMark
  dsimp only
  (repeat' split) <;> simp

end Sys2Proof.Machine
end

