-- ==== Sys2Proof/Laws/Rings.lean ====
section
/-!
SUPPORT. What each operation of the ring unit
leaves as it was: one lemma for an operation, with a rewriting rule for each part that it keeps.
-/

namespace Sys2Proof.Machine

@[simp] theorem updOut_frame (r : Fin 4) (f : OutRing → OutRing) (s : State) :
    SameOutside s (s.updOut r f) ∧ SameCapture s (s.updOut r f) ∧ (s.updOut r f).path = s.path ∧
      (s.updOut r f).sched = s.sched ∧ (s.updOut r f).rings.inbound = s.rings.inbound ∧
      (s.updOut r f).rings.ret = s.rings.ret ∧
      (s.updOut r f).rings.nextSerial = s.rings.nextSerial ∧ (s.updOut r f).link = s.link ∧
      (s.updOut r f).mbox = s.mbox ∧ (s.updOut r f).status = s.status := by
  and_intros <;> rfl

@[simp] theorem updIn_frame (r : Fin 2) (f : InRing → InRing) (s : State) :
    SameOutside s (s.updIn r f) ∧ SameCapture s (s.updIn r f) ∧ (s.updIn r f).path = s.path ∧
      (s.updIn r f).sched = s.sched ∧ (s.updIn r f).rings.outbound = s.rings.outbound ∧
      (s.updIn r f).rings.ret = s.rings.ret ∧ (s.updIn r f).rings.nextSerial = s.rings.nextSerial ∧
      (s.updIn r f).link = s.link ∧ (s.updIn r f).mbox = s.mbox ∧ (s.updIn r f).status = s.status := by
  and_intros <;> rfl

@[simp] theorem updRet_frame (f : ReturnBinding → ReturnBinding) (s : State) :
    SameOutside s (s.updRet f) ∧ SameCapture s (s.updRet f) ∧ (s.updRet f).path = s.path ∧
      (s.updRet f).sched = s.sched ∧ (s.updRet f).rings.outbound = s.rings.outbound ∧
      (s.updRet f).rings.inbound = s.rings.inbound ∧
      (s.updRet f).rings.nextSerial = s.rings.nextSerial ∧ (s.updRet f).link = s.link ∧
      (s.updRet f).mbox = s.mbox ∧ (s.updRet f).status = s.status := by
  and_intros <;> rfl

@[simp] theorem bumpSerial_frame (s : State) :
    SameOutside s s.bumpSerial ∧ SameCapture s s.bumpSerial ∧ s.bumpSerial.path = s.path ∧
      s.bumpSerial.sched = s.sched ∧ s.bumpSerial.rings.outbound = s.rings.outbound ∧
      s.bumpSerial.rings.inbound = s.rings.inbound ∧ s.bumpSerial.rings.ret = s.rings.ret ∧
      s.bumpSerial.link = s.link ∧ s.bumpSerial.mbox = s.mbox ∧ s.bumpSerial.status = s.status := by
  and_intros <;> rfl

@[simp] theorem tryFetch_frame (r : Fin 4) (s : State) :
    SameOutside s (s.tryFetch r) ∧ SameCapture s (s.tryFetch r) ∧
      PathUnit.SameButEgress s.path (s.tryFetch r).path ∧ (s.tryFetch r).sched = s.sched ∧
      (s.tryFetch r).rings.inbound = s.rings.inbound ∧ (s.tryFetch r).rings.ret = s.rings.ret ∧
      (s.tryFetch r).link = s.link ∧ (s.tryFetch r).mbox = s.mbox ∧
      (s.tryFetch r).status = s.status := by
  unfold State.tryFetch
  dsimp only
  (repeat' split) <;> simp

@[simp] theorem haltOut_frame (r : Fin 4) (c : HaltCause) (w : RingIndex) (s : State) :
    SameOutside s (s.haltOut r c w) ∧ SameCapture s (s.haltOut r c w) ∧
      StatusUnit.SameButEvents s.status (s.haltOut r c w).status ∧ (s.haltOut r c w).path = s.path ∧
      (s.haltOut r c w).sched = s.sched ∧ (s.haltOut r c w).rings.inbound = s.rings.inbound ∧
      (s.haltOut r c w).rings.ret = s.rings.ret ∧
      (s.haltOut r c w).rings.nextSerial = s.rings.nextSerial ∧ (s.haltOut r c w).link = s.link ∧
      (s.haltOut r c w).mbox = s.mbox := by
  and_intros <;> rfl

@[simp] theorem producerWrite_frame (r : Fin 4) (v : Word) (s : State) :
    SameOutside s (s.producerWrite r v) ∧ SameCapture s (s.producerWrite r v) ∧
      PathUnit.SameButEgress s.path (s.producerWrite r v).path ∧
      StatusUnit.SameButEvents s.status (s.producerWrite r v).status ∧
      (s.producerWrite r v).sched = s.sched ∧
      (s.producerWrite r v).rings.inbound = s.rings.inbound ∧
      (s.producerWrite r v).rings.ret = s.rings.ret ∧ (s.producerWrite r v).link = s.link ∧
      (s.producerWrite r v).mbox = s.mbox := by
  unfold State.producerWrite
  dsimp only
  (repeat' split) <;> simp

@[simp] theorem takeAttempts_frame (n : Nat) (s : State) :
    SameCapture s (s.takeAttempts n) ∧ SameLink s (s.takeAttempts n) ∧
      (s.takeAttempts n).straps = s.straps ∧ (s.takeAttempts n).path = s.path ∧
      (s.takeAttempts n).mbox = s.mbox ∧ (s.takeAttempts n).status = s.status ∧
      (s.takeAttempts n).out = s.out ∧ (s.takeAttempts n).pending = s.pending := by
  unfold State.takeAttempts
  (repeat' split) <;> simp

@[simp] theorem issueRecordStatus_frame (o : OutRing) (sr : SendRecord) (st : RecordStatus) (s : State) :
    SameCapture s (s.issueRecordStatus o sr st) ∧ SameLink s (s.issueRecordStatus o sr st) ∧
      PathUnit.SameButOther s.path (s.issueRecordStatus o sr st).path ∧
      (s.issueRecordStatus o sr st).straps = s.straps ∧
      (s.issueRecordStatus o sr st).mbox = s.mbox ∧
      (s.issueRecordStatus o sr st).status = s.status ∧ (s.issueRecordStatus o sr st).out = s.out ∧
      (s.issueRecordStatus o sr st).pending = s.pending := by
  unfold State.issueRecordStatus
  simp

@[simp] theorem retire_frame (r : Fin 4) (sr : SendRecord) (st : RecordStatus) (s : State) :
    SameCapture s (s.retire r sr st) ∧ PathUnit.SameButOther s.path (s.retire r sr st).path ∧
      StatusUnit.SameButRaised s.status (s.retire r sr st).status ∧
      (s.retire r sr st).straps = s.straps ∧ (s.retire r sr st).sched = s.sched ∧
      (s.retire r sr st).rings.inbound = s.rings.inbound ∧
      (s.retire r sr st).rings.ret = s.rings.ret ∧
      (s.retire r sr st).rings.nextSerial = s.rings.nextSerial ∧ (s.retire r sr st).link = s.link ∧
      (s.retire r sr st).mbox = s.mbox ∧ (s.retire r sr st).out = s.out ∧
      (s.retire r sr st).pending = s.pending := by
  unfold State.retire
  (repeat' split) <;> simp

@[simp] theorem retireNext_frame (r : Fin 4) (sr : SendRecord) (st : RecordStatus) (s : State) :
    SameCapture s (s.retireNext r sr st) ∧
      PathUnit.SameButOwn s.path (s.retireNext r sr st).path ∧
      StatusUnit.SameButRaised s.status (s.retireNext r sr st).status ∧
      (s.retireNext r sr st).straps = s.straps ∧ (s.retireNext r sr st).sched = s.sched ∧
      (s.retireNext r sr st).rings.inbound = s.rings.inbound ∧
      (s.retireNext r sr st).rings.ret = s.rings.ret ∧ (s.retireNext r sr st).link = s.link ∧
      (s.retireNext r sr st).mbox = s.mbox ∧ (s.retireNext r sr st).out = s.out ∧
      (s.retireNext r sr st).pending = s.pending := by
  unfold State.retireNext
  simp

@[simp] theorem recordFetched_frame (r : Fin 4) (n : Nat) (e : Bool) (d : List Byte) (s : State) :
    SameCapture s (s.recordFetched r n e d) ∧
      PathUnit.SameButOwn s.path (s.recordFetched r n e d).path ∧
      StatusUnit.SameButRaised s.status (s.recordFetched r n e d).status ∧
      (s.recordFetched r n e d).straps = s.straps ∧ (s.recordFetched r n e d).sched = s.sched ∧
      (s.recordFetched r n e d).rings.inbound = s.rings.inbound ∧
      (s.recordFetched r n e d).rings.ret = s.rings.ret ∧ (s.recordFetched r n e d).link = s.link ∧
      (s.recordFetched r n e d).mbox = s.mbox ∧ (s.recordFetched r n e d).out = s.out ∧
      (s.recordFetched r n e d).pending = s.pending := by
  unfold State.recordFetched
  dsimp only
  (repeat' split) <;> simp

@[simp] theorem endSend_frame (r : Fin 4) (sr : SendRecord) (s : State) :
    SameCapture s (s.endSend r sr) ∧ PathUnit.SameButOther s.path (s.endSend r sr).path ∧
      StatusUnit.SameButRaised s.status (s.endSend r sr).status ∧
      (s.endSend r sr).straps = s.straps ∧ (s.endSend r sr).sched = s.sched ∧
      (s.endSend r sr).rings.inbound = s.rings.inbound ∧ (s.endSend r sr).rings.ret = s.rings.ret ∧
      (s.endSend r sr).rings.nextSerial = s.rings.nextSerial ∧ (s.endSend r sr).link = s.link ∧
      (s.endSend r sr).mbox = s.mbox ∧ (s.endSend r sr).out = s.out ∧
      (s.endSend r sr).pending = s.pending := by
  unfold State.endSend
  dsimp only
  (repeat' split) <;> simp

@[simp] theorem takeAnswer_frame (r : Fin 4) (a : Answer) (s : State) :
    SameCapture s (s.takeAnswer r a) ∧ PathUnit.SameButOwn s.path (s.takeAnswer r a).path ∧
      StatusUnit.SameButRaised s.status (s.takeAnswer r a).status ∧
      (s.takeAnswer r a).straps = s.straps ∧ (s.takeAnswer r a).sched = s.sched ∧
      (s.takeAnswer r a).rings.inbound = s.rings.inbound ∧
      (s.takeAnswer r a).rings.ret = s.rings.ret ∧ (s.takeAnswer r a).link = s.link ∧
      (s.takeAnswer r a).mbox = s.mbox ∧ (s.takeAnswer r a).out = s.out ∧
      (s.takeAnswer r a).pending = s.pending := by
  unfold State.takeAnswer
  dsimp only
  (repeat' split) <;> simp

@[simp] theorem ackTimeout_frame (r : Fin 4) (s : State) :
    SameCapture s (s.ackTimeout r) ∧ PathUnit.SameButOther s.path (s.ackTimeout r).path ∧
      StatusUnit.SameButRaised s.status (s.ackTimeout r).status ∧
      (s.ackTimeout r).straps = s.straps ∧ (s.ackTimeout r).sched = s.sched ∧
      (s.ackTimeout r).rings.inbound = s.rings.inbound ∧ (s.ackTimeout r).rings.ret = s.rings.ret ∧
      (s.ackTimeout r).rings.nextSerial = s.rings.nextSerial ∧ (s.ackTimeout r).link = s.link ∧
      (s.ackTimeout r).mbox = s.mbox ∧ (s.ackTimeout r).out = s.out ∧
      (s.ackTimeout r).pending = s.pending := by
  unfold State.ackTimeout
  dsimp only
  (repeat' split) <;> simp

@[simp] theorem parcelFetched_frame (r : Fin 4) (n : Nat) (e : Bool) (s : State) :
    SameCapture s (s.parcelFetched r n e) ∧
      PathUnit.SameButOwn s.path (s.parcelFetched r n e).path ∧
      StatusUnit.SameButRaised s.status (s.parcelFetched r n e).status ∧
      (s.parcelFetched r n e).straps = s.straps ∧ (s.parcelFetched r n e).sched = s.sched ∧
      (s.parcelFetched r n e).rings.inbound = s.rings.inbound ∧
      (s.parcelFetched r n e).rings.ret = s.rings.ret ∧ (s.parcelFetched r n e).link = s.link ∧
      (s.parcelFetched r n e).mbox = s.mbox ∧ (s.parcelFetched r n e).out = s.out ∧
      (s.parcelFetched r n e).pending = s.pending := by
  unfold State.parcelFetched
  dsimp only
  (repeat' split) <;> simp

@[simp] theorem consumerWrite_frame (r : Fin 2) (v : Word) (s : State) :
    SameOutside s (s.consumerWrite r v) ∧ SameCapture s (s.consumerWrite r v) ∧
      StatusUnit.SameButEvents s.status (s.consumerWrite r v).status ∧
      (s.consumerWrite r v).path = s.path ∧ (s.consumerWrite r v).sched = s.sched ∧
      (s.consumerWrite r v).rings.outbound = s.rings.outbound ∧
      (s.consumerWrite r v).rings.ret = s.rings.ret ∧
      (s.consumerWrite r v).rings.nextSerial = s.rings.nextSerial ∧
      (s.consumerWrite r v).link = s.link ∧ (s.consumerWrite r v).mbox = s.mbox := by
  unfold State.consumerWrite
  dsimp only
  (repeat' split) <;> simp

@[simp] theorem land_frame (r : Fin 2) (m : Cmsg) (s : State) :
    SameOutside s (s.land r m) ∧ SameCapture s (s.land r m) ∧
      PathUnit.SameButOther s.path (s.land r m).path ∧ (s.land r m).sched = s.sched ∧
      (s.land r m).rings.outbound = s.rings.outbound ∧ (s.land r m).rings.ret = s.rings.ret ∧
      (s.land r m).link = s.link ∧ (s.land r m).mbox = s.mbox ∧ (s.land r m).status = s.status := by
  unfold State.land
  simp

@[simp] theorem takeCmsg_frame (r : Fin 2) (m : Cmsg) (s : State) :
    SameOutside s (s.takeCmsg r m) ∧ SameCapture s (s.takeCmsg r m) ∧
      PathUnit.SameButOther s.path (s.takeCmsg r m).path ∧ (s.takeCmsg r m).sched = s.sched ∧
      (s.takeCmsg r m).rings.outbound = s.rings.outbound ∧
      (s.takeCmsg r m).rings.ret = s.rings.ret ∧ (s.takeCmsg r m).link = s.link ∧
      (s.takeCmsg r m).mbox = s.mbox ∧ (s.takeCmsg r m).status.events = s.status.events ∧
      (s.takeCmsg r m).status.enable = s.status.enable ∧
      (s.takeCmsg r m).status.launchLost = s.status.launchLost ∧
      (s.takeCmsg r m).status.paramTorn = s.status.paramTorn ∧
      (s.takeCmsg r m).status.due = s.status.due ∧
      (s.takeCmsg r m).status.snapshot = s.status.snapshot := by
  unfold State.takeCmsg
  dsimp only
  (repeat' split) <;> simp

@[simp] theorem landingAccepted_frame (r : Fin 2) (n : Nat) (s : State) :
    SameOutside s (s.landingAccepted r n) ∧ SameCapture s (s.landingAccepted r n) ∧
      (s.landingAccepted r n).path = s.path ∧ (s.landingAccepted r n).sched = s.sched ∧
      (s.landingAccepted r n).rings.outbound = s.rings.outbound ∧
      (s.landingAccepted r n).rings.ret = s.rings.ret ∧
      (s.landingAccepted r n).rings.nextSerial = s.rings.nextSerial ∧
      (s.landingAccepted r n).link = s.link ∧ (s.landingAccepted r n).mbox = s.mbox ∧
      (s.landingAccepted r n).status = s.status := by
  and_intros <;> rfl

@[simp] theorem doneTest_frame (b : Bool) (s : State) :
    SameCapture s (s.doneTest b) ∧ PathUnit.SameButOther s.path (s.doneTest b).path ∧
      (s.doneTest b).straps = s.straps ∧ (s.doneTest b).sched = s.sched ∧
      (s.doneTest b).rings.outbound = s.rings.outbound ∧
      (s.doneTest b).rings.inbound = s.rings.inbound ∧
      (s.doneTest b).rings.nextSerial = s.rings.nextSerial ∧ (s.doneTest b).link = s.link ∧
      (s.doneTest b).mbox = s.mbox ∧ (s.doneTest b).status = s.status ∧ (s.doneTest b).out = s.out ∧
      (s.doneTest b).pending = s.pending := by
  unfold State.doneTest
  dsimp only
  (repeat' split) <;> simp

@[simp] theorem takePiece_frame (p : Piece) (s : State) :
    SameOutside s (s.takePiece p) ∧ SameCapture s (s.takePiece p) ∧
      PathUnit.SameButOther s.path (s.takePiece p).path ∧
      StatusUnit.SameButCounters s.status (s.takePiece p).status ∧ (s.takePiece p).sched = s.sched ∧
      (s.takePiece p).rings.outbound = s.rings.outbound ∧
      (s.takePiece p).rings.inbound = s.rings.inbound ∧
      (s.takePiece p).rings.nextSerial = s.rings.nextSerial ∧ (s.takePiece p).link = s.link ∧
      (s.takePiece p).mbox = s.mbox := by
  unfold State.takePiece
  dsimp only
  (repeat' split) <;> simp

@[simp] theorem takeReturnEnd_frame (b : Bool) (f : BitVec 16) (p : Bool) (s : State) :
    SameCapture s (s.takeReturnEnd b f p) ∧
      PathUnit.SameButOther s.path (s.takeReturnEnd b f p).path ∧
      (s.takeReturnEnd b f p).straps = s.straps ∧ (s.takeReturnEnd b f p).sched = s.sched ∧
      (s.takeReturnEnd b f p).rings.outbound = s.rings.outbound ∧
      (s.takeReturnEnd b f p).rings.inbound = s.rings.inbound ∧
      (s.takeReturnEnd b f p).rings.nextSerial = s.rings.nextSerial ∧
      (s.takeReturnEnd b f p).link = s.link ∧ (s.takeReturnEnd b f p).mbox = s.mbox ∧
      (s.takeReturnEnd b f p).status = s.status ∧ (s.takeReturnEnd b f p).out = s.out ∧
      (s.takeReturnEnd b f p).pending = s.pending := by
  unfold State.takeReturnEnd
  (repeat' split) <;> simp

@[simp] theorem returnAccepted_frame (b : Bool) (n : Nat) (s : State) :
    SameCapture s (s.returnAccepted b n) ∧
      PathUnit.SameButOther s.path (s.returnAccepted b n).path ∧
      (s.returnAccepted b n).straps = s.straps ∧ (s.returnAccepted b n).sched = s.sched ∧
      (s.returnAccepted b n).rings.outbound = s.rings.outbound ∧
      (s.returnAccepted b n).rings.inbound = s.rings.inbound ∧
      (s.returnAccepted b n).rings.nextSerial = s.rings.nextSerial ∧
      (s.returnAccepted b n).link = s.link ∧ (s.returnAccepted b n).mbox = s.mbox ∧
      (s.returnAccepted b n).status = s.status ∧ (s.returnAccepted b n).out = s.out ∧
      (s.returnAccepted b n).pending = s.pending := by
  unfold State.returnAccepted
  (repeat' split) <;> simp

@[simp] theorem doBindRing_frame (p : Params) (s : State) :
    SameOutside s (doBindRing p s).1 ∧ SameCapture s (doBindRing p s).1 ∧
      PathUnit.SameButOther s.path (doBindRing p s).1.path ∧ (doBindRing p s).1.sched = s.sched ∧
      (doBindRing p s).1.rings.ret = s.rings.ret ∧
      (doBindRing p s).1.rings.nextSerial = s.rings.nextSerial ∧ (doBindRing p s).1.link = s.link ∧
      (doBindRing p s).1.mbox = s.mbox ∧ (doBindRing p s).1.status = s.status := by
  unfold doBindRing
  dsimp only
  (repeat' split) <;> simp

@[simp] theorem doBindReturn_frame (p : Params) (s : State) :
    SameOutside s (doBindReturn p s).1 ∧ SameCapture s (doBindReturn p s).1 ∧
      (doBindReturn p s).1.path = s.path ∧ (doBindReturn p s).1.sched = s.sched ∧
      (doBindReturn p s).1.rings.outbound = s.rings.outbound ∧
      (doBindReturn p s).1.rings.inbound = s.rings.inbound ∧ (doBindReturn p s).1.link = s.link ∧
      (doBindReturn p s).1.mbox = s.mbox ∧ (doBindReturn p s).1.status = s.status := by
  and_intros <;> rfl

@[simp] theorem doUnbind_frame (p : Params) (s : State) :
    SameOutside s (doUnbind p s).1 ∧ SameCapture s (doUnbind p s).1 ∧
      (doUnbind p s).1.path = s.path ∧ (doUnbind p s).1.sched = s.sched ∧
      (doUnbind p s).1.rings.nextSerial = s.rings.nextSerial ∧ (doUnbind p s).1.link = s.link ∧
      (doUnbind p s).1.mbox = s.mbox ∧ (doUnbind p s).1.status = s.status := by
  unfold doUnbind
  dsimp only
  (repeat' split) <;> simp

@[simp] theorem failResumeRing_frame (p : Params) (s : State) :
    SameOutside s (failResumeRing p s) ∧ SameCapture s (failResumeRing p s) ∧
      (failResumeRing p s).path = s.path ∧ (failResumeRing p s).sched = s.sched ∧
      (failResumeRing p s).rings.inbound = s.rings.inbound ∧
      (failResumeRing p s).rings.ret = s.rings.ret ∧
      (failResumeRing p s).rings.nextSerial = s.rings.nextSerial ∧
      (failResumeRing p s).link = s.link ∧ (failResumeRing p s).mbox = s.mbox ∧
      (failResumeRing p s).status = s.status := by
  unfold failResumeRing
  dsimp only
  (repeat' split) <;> simp

@[simp] theorem doResumeRing_frame (p : Params) (s : State) :
    SameOutside s (doResumeRing p s).1 ∧ SameCapture s (doResumeRing p s).1 ∧
      PathUnit.SameButEgress s.path (doResumeRing p s).1.path ∧
      (doResumeRing p s).1.sched = s.sched ∧ (doResumeRing p s).1.rings.ret = s.rings.ret ∧
      (doResumeRing p s).1.link = s.link ∧ (doResumeRing p s).1.mbox = s.mbox ∧
      (doResumeRing p s).1.status = s.status := by
  unfold doResumeRing
  dsimp only
  (repeat' split) <;> simp

@[simp] theorem ringsLeaveUp_frame (s : State) :
    SameOutside s s.ringsLeaveUp ∧ SameCapture s s.ringsLeaveUp ∧ s.ringsLeaveUp.path = s.path ∧
      s.ringsLeaveUp.sched = s.sched ∧ s.ringsLeaveUp.rings.ret = s.rings.ret ∧
      s.ringsLeaveUp.rings.nextSerial = s.rings.nextSerial ∧ s.ringsLeaveUp.link = s.link ∧
      s.ringsLeaveUp.mbox = s.mbox ∧ s.ringsLeaveUp.status = s.status := by
  and_intros <;> rfl

end Sys2Proof.Machine
end

