-- ==== Sys2Proof/Laws/Scheduler.lean ====
section
/-!
SUPPORT. What each operation of the forward scheduler
leaves as it was: one lemma for an operation, with a rewriting rule for each part that it keeps.
-/

namespace Sys2Proof.Machine

@[simp] theorem doLoadSchedule_frame (p : Params) (s : State) :
    SameOutside s (doLoadSchedule p s) ∧ SameCapture s (doLoadSchedule p s) ∧
      SameLink s (doLoadSchedule p s) ∧ PathUnit.SameButOther s.path (doLoadSchedule p s).path ∧
      (doLoadSchedule p s).mbox = s.mbox ∧ (doLoadSchedule p s).status = s.status := by
  and_intros <;> rfl

@[simp] theorem imageArrived_frame (e : Bool) (d : List Byte) (s : State) :
    SameOutside s (s.imageArrived e d) ∧ SameCapture s (s.imageArrived e d) ∧
      PathUnit.SameButOther s.path (s.imageArrived e d).path ∧
      Scheduler.SameButBuilt s.sched (s.imageArrived e d).sched ∧
      Mailbox.SameButRunning s.mbox (s.imageArrived e d).mbox ∧
      (s.imageArrived e d).sched.queue = s.sched.queue ∧
      (s.imageArrived e d).sched.state = s.sched.state ∧
      (s.imageArrived e d).sched.window = s.sched.window ∧
      (s.imageArrived e d).sched.nextParcel = s.sched.nextParcel ∧
      (s.imageArrived e d).rings = s.rings ∧ (s.imageArrived e d).link = s.link ∧
      (s.imageArrived e d).status = s.status := by
  unfold State.imageArrived
  (repeat' split) <;> simp

@[simp] theorem place_frame (b : ParcelBody) (s : State) :
    SameOutside s (s.place b) ∧ SameCapture s (s.place b) ∧
      Scheduler.SameButPlaced s.sched (s.place b).sched ∧ (s.place b).path = s.path ∧
      (s.place b).sched.queue = s.sched.queue ∧ (s.place b).rings = s.rings ∧
      (s.place b).link = s.link ∧ (s.place b).mbox = s.mbox ∧ (s.place b).status = s.status := by
  and_intros <;> rfl

@[simp] theorem putJob_frame (j : Job) (s : State) :
    SameOutside s (s.putJob j) ∧ SameCapture s (s.putJob j) ∧
      Scheduler.SameButQueue s.sched (s.putJob j).sched ∧ (s.putJob j).path = s.path ∧
      (s.putJob j).rings = s.rings ∧ (s.putJob j).link = s.link ∧ (s.putJob j).mbox = s.mbox ∧
      (s.putJob j).status = s.status := by
  and_intros <;> rfl

theorem cutPiece_frame (j : Job) (l : Nat) (k : LineKind) (ps : List (Fin 6)) (q : Fin 6) (of b : Nat) (s : State) (x : State × Nat)
    (h : s.cutPiece j l k ps q of b = some x) :
    SameOutside s x.1 ∧ SameCapture s x.1 ∧ Scheduler.SameButPlaced s.sched x.1.sched ∧
      x.1.path = s.path ∧ x.1.rings = s.rings ∧ x.1.link = s.link ∧ x.1.mbox = s.mbox ∧
      x.1.status = s.status := by
  and_intros <;> (unfold State.cutPiece at h; dsimp only at h; split at h <;> cases h <;> simp)

theorem nextVideo_frame (b : Nat) (s : State) (x : State × Nat) (h : s.nextVideo b = some x) :
    SameOutside s x.1 ∧ SameCapture s x.1 ∧ Scheduler.SameButPlaced s.sched x.1.sched ∧
      x.1.path = s.path ∧ x.1.rings = s.rings ∧ x.1.link = s.link ∧ x.1.mbox = s.mbox ∧
      x.1.status = s.status := by
  and_intros <;> (unfold State.nextVideo at h; (repeat' split at h) <;> first | (cases h; done) | (cases h; simp; done) | (simp [cutPiece_frame _ _ _ _ _ _ _ _ _ h]; done))

@[simp] theorem serveVideo_frame (n b : Nat) (s : State) :
    SameOutside s (serveVideo n b s).1 ∧ SameCapture s (serveVideo n b s).1 ∧
      Scheduler.SameButPlaced s.sched (serveVideo n b s).1.sched ∧
      (serveVideo n b s).1.path = s.path ∧ (serveVideo n b s).1.rings = s.rings ∧
      (serveVideo n b s).1.link = s.link ∧ (serveVideo n b s).1.mbox = s.mbox ∧
      (serveVideo n b s).1.status = s.status := by
  and_intros <;> (induction n generalizing b s with
    | zero => rfl
    | succ n ih => (unfold serveVideo; split <;> first | rfl | (rename_i h; have hf := nextVideo_frame _ _ _ h; dsimp only at hf; simp [ih, hf]; done)))

@[simp] theorem serveRing_frame (r : Fin 4) (c b : Nat) (s : State) :
    SameCapture s (s.serveRing r c b).1 ∧ PathUnit.SameButOwn s.path (s.serveRing r c b).1.path ∧
      Scheduler.SameButPlaced s.sched (s.serveRing r c b).1.sched ∧
      StatusUnit.SameButRaised s.status (s.serveRing r c b).1.status ∧
      (s.serveRing r c b).1.straps = s.straps ∧ (s.serveRing r c b).1.sched.queue = s.sched.queue ∧
      (s.serveRing r c b).1.rings.inbound = s.rings.inbound ∧
      (s.serveRing r c b).1.rings.ret = s.rings.ret ∧ (s.serveRing r c b).1.link = s.link ∧
      (s.serveRing r c b).1.mbox = s.mbox ∧ (s.serveRing r c b).1.out = s.out ∧
      (s.serveRing r c b).1.pending = s.pending := by
  unfold State.serveRing
  dsimp only
  (repeat' split) <;> simp

@[simp] theorem haltSchedule_frame (s : State) :
    SameOutside s s.haltSchedule ∧ SameCapture s s.haltSchedule ∧
      Scheduler.SameButBuilt s.sched s.haltSchedule.sched ∧
      StatusUnit.SameButEvents s.status s.haltSchedule.status ∧ s.haltSchedule.path = s.path ∧
      s.haltSchedule.sched.queue = s.sched.queue ∧ s.haltSchedule.sched.window = s.sched.window ∧
      s.haltSchedule.sched.nextParcel = s.sched.nextParcel ∧ s.haltSchedule.rings = s.rings ∧
      s.haltSchedule.link = s.link ∧ s.haltSchedule.mbox = s.mbox := by
  and_intros <;> rfl

@[simp] theorem walkEntries_frame (c : Nat) (l : List ServiceEntry) (b : Nat) (s : State) :
    SameCapture s (walkEntries c l b s).1 ∧
      PathUnit.SameButOwn s.path (walkEntries c l b s).1.path ∧
      Scheduler.SameButBuilt s.sched (walkEntries c l b s).1.sched ∧
      StatusUnit.SameButRaised s.status (walkEntries c l b s).1.status ∧
      (walkEntries c l b s).1.straps = s.straps ∧
      (walkEntries c l b s).1.rings.inbound = s.rings.inbound ∧
      (walkEntries c l b s).1.rings.ret = s.rings.ret ∧ (walkEntries c l b s).1.link = s.link ∧
      (walkEntries c l b s).1.mbox = s.mbox ∧ (walkEntries c l b s).1.out = s.out ∧
      (walkEntries c l b s).1.pending = s.pending := by
  and_intros <;> (induction l generalizing b s with
    | nil => rfl
    | cons e l ih => (unfold walkEntries; dsimp only; (repeat' split) <;> simp [ih]))

@[simp] theorem issueFetch_frame (p : Parcel) (s : State) :
    SameOutside s (s.issueFetch p) ∧ SameCapture s (s.issueFetch p) ∧
      SameLink s (s.issueFetch p) ∧ PathUnit.SameButEgress s.path (s.issueFetch p).path ∧
      (s.issueFetch p).mbox = s.mbox ∧ (s.issueFetch p).status = s.status := by
  and_intros <;> (unfold State.issueFetch; dsimp only; generalize chunks _ _ _ = l; induction l generalizing s with
    | nil => rfl
    | cons x l ih => exact (ih _).trans (by simp))

@[simp] theorem foldl_issueFetch_frame (l : List Parcel) (s : State) :
    SameOutside s (l.foldl (fun t p => t.issueFetch p) s) ∧
      SameCapture s (l.foldl (fun t p => t.issueFetch p) s) ∧
      SameLink s (l.foldl (fun t p => t.issueFetch p) s) ∧
      PathUnit.SameButEgress s.path (l.foldl (fun t p => t.issueFetch p) s).path ∧
      (l.foldl (fun t p => t.issueFetch p) s).mbox = s.mbox ∧
      (l.foldl (fun t p => t.issueFetch p) s).status = s.status := by
  and_intros <;> (induction l generalizing s with
    | nil => rfl
    | cons x l ih => exact (ih _).trans (by simp))

@[simp] theorem buildWindow_frame (s : State) :
    SameCapture s s.buildWindow.1 ∧ PathUnit.SameButOwn s.path s.buildWindow.1.path ∧
      Scheduler.SameButBuilt s.sched s.buildWindow.1.sched ∧
      StatusUnit.SameButRaised s.status s.buildWindow.1.status ∧ s.buildWindow.1.straps = s.straps ∧
      s.buildWindow.1.rings.inbound = s.rings.inbound ∧ s.buildWindow.1.rings.ret = s.rings.ret ∧
      s.buildWindow.1.link = s.link ∧ s.buildWindow.1.mbox = s.mbox ∧ s.buildWindow.1.out = s.out ∧
      s.buildWindow.1.pending = s.pending := by
  unfold State.buildWindow
  (repeat' split) <;> simp

@[simp] theorem takeHold_frame (l : List (Fin 5)) (c : Byte) (s : State) :
    SameOutside s (s.takeHold l c) ∧ SameCapture s (s.takeHold l c) ∧
      Scheduler.SameButSession s.sched (s.takeHold l c).sched ∧ (s.takeHold l c).path = s.path ∧
      (s.takeHold l c).sched.queue = s.sched.queue ∧
      (s.takeHold l c).sched.window = s.sched.window ∧ (s.takeHold l c).rings = s.rings ∧
      (s.takeHold l c).link = s.link ∧ (s.takeHold l c).mbox = s.mbox ∧
      (s.takeHold l c).status = s.status := by
  and_intros <;> rfl

@[simp] theorem schedLeaveUp_frame (s : State) :
    SameOutside s s.schedLeaveUp ∧ PathUnit.SameButOther s.path s.schedLeaveUp.path ∧
      Scheduler.SameButSession s.sched s.schedLeaveUp.sched ∧
      Mailbox.SameButRunning s.mbox s.schedLeaveUp.mbox ∧
      StatusUnit.SameButRaised s.status s.schedLeaveUp.status ∧ s.schedLeaveUp.map = s.map ∧
      s.schedLeaveUp.tracker.frames = s.tracker.frames ∧
      s.schedLeaveUp.tracker.newest = s.tracker.newest ∧ s.schedLeaveUp.stitch = s.stitch ∧
      s.schedLeaveUp.rings = s.rings ∧ s.schedLeaveUp.link = s.link := by
  unfold State.schedLeaveUp
  simp

@[simp] theorem fetchOutcome_frame (b : ParcelBody) (e : Bool) (s : State) :
    SameCapture s (s.fetchOutcome b e) ∧ PathUnit.SameButOwn s.path (s.fetchOutcome b e).path ∧
      Scheduler.SameButQueue s.sched (s.fetchOutcome b e).sched ∧
      StatusUnit.SameButRaised s.status (s.fetchOutcome b e).status ∧
      (s.fetchOutcome b e).straps = s.straps ∧
      (s.fetchOutcome b e).rings.inbound = s.rings.inbound ∧
      (s.fetchOutcome b e).rings.ret = s.rings.ret ∧ (s.fetchOutcome b e).link = s.link ∧
      (s.fetchOutcome b e).mbox = s.mbox ∧ (s.fetchOutcome b e).out = s.out ∧
      (s.fetchOutcome b e).pending = s.pending := by
  unfold State.fetchOutcome
  (repeat' split) <;> simp

@[simp] theorem payloadArrived_frame (n : Nat) (e : Bool) (d : List Byte) (s : State) :
    SameCapture s (s.payloadArrived n e d) ∧
      PathUnit.SameButOwn s.path (s.payloadArrived n e d).path ∧
      Scheduler.SameButDrop s.sched (s.payloadArrived n e d).sched ∧
      StatusUnit.SameButRaised s.status (s.payloadArrived n e d).status ∧
      (s.payloadArrived n e d).straps = s.straps ∧
      (s.payloadArrived n e d).rings.inbound = s.rings.inbound ∧
      (s.payloadArrived n e d).rings.ret = s.rings.ret ∧ (s.payloadArrived n e d).link = s.link ∧
      (s.payloadArrived n e d).mbox = s.mbox ∧ (s.payloadArrived n e d).out = s.out ∧
      (s.payloadArrived n e d).pending = s.pending := by
  unfold State.payloadArrived
  (repeat' split) <;> simp

@[simp] theorem countSent_frame (b : ParcelBody) (p : Bool) (s : State) :
    SameOutside s (s.countSent b p) ∧ SameCapture s (s.countSent b p) ∧
      SameLink s (s.countSent b p) ∧ StatusUnit.SameButCounters s.status (s.countSent b p).status ∧
      (s.countSent b p).path = s.path ∧ (s.countSent b p).mbox = s.mbox := by
  unfold State.countSent
  (repeat' split) <;> simp

@[simp] theorem transmit_frame (p : Parcel) (s : State) :
    SameCapture s (s.transmit p) ∧ PathUnit.SameButOwn s.path (s.transmit p).path ∧
      Scheduler.SameButDrop s.sched (s.transmit p).sched ∧
      StatusUnit.SameButRaised s.status (s.transmit p).status ∧ (s.transmit p).straps = s.straps ∧
      (s.transmit p).rings.inbound = s.rings.inbound ∧ (s.transmit p).rings.ret = s.rings.ret ∧
      (s.transmit p).link = s.link ∧ (s.transmit p).mbox = s.mbox ∧
      (s.transmit p).pending = s.pending := by
  unfold State.transmit
  (repeat' split) <;> simp

@[simp] theorem finishParcel_frame (p : Parcel) (s : State) :
    SameOutside s (s.finishParcel p) ∧ PathUnit.SameButOther s.path (s.finishParcel p).path ∧
      Scheduler.SameButQueue s.sched (s.finishParcel p).sched ∧
      Mailbox.SameButRunning s.mbox (s.finishParcel p).mbox ∧
      StatusUnit.SameButEvents s.status (s.finishParcel p).status ∧ (s.finishParcel p).map = s.map ∧
      (s.finishParcel p).tracker.frames = s.tracker.frames ∧
      (s.finishParcel p).tracker.newest = s.tracker.newest ∧ (s.finishParcel p).stitch = s.stitch ∧
      (s.finishParcel p).rings = s.rings ∧ (s.finishParcel p).link = s.link := by
  unfold State.finishParcel
  (repeat' split) <;> simp

@[simp] theorem sendNext_frame (s : State) :
    PathUnit.SameButOwn s.path s.sendNext.path ∧ Scheduler.SameButDrop s.sched s.sendNext.sched ∧
      Mailbox.SameButRunning s.mbox s.sendNext.mbox ∧
      StatusUnit.SameFlags s.status s.sendNext.status ∧ s.sendNext.straps = s.straps ∧
      s.sendNext.map = s.map ∧ s.sendNext.tracker.frames = s.tracker.frames ∧
      s.sendNext.tracker.newest = s.tracker.newest ∧ s.sendNext.stitch = s.stitch ∧
      s.sendNext.rings.inbound = s.rings.inbound ∧ s.sendNext.rings.ret = s.rings.ret ∧
      s.sendNext.link = s.link ∧ s.sendNext.status.enable = s.status.enable ∧
      s.sendNext.status.snapshot = s.status.snapshot ∧ s.sendNext.pending = s.pending := by
  unfold State.sendNext
  (repeat' split) <;> simp

end Sys2Proof.Machine
end

