-- ==== Sys2Proof/Laws/Link.lean ====
section
/-!
SUPPORT. What each operation of the link unit
leaves as it was: one lemma for an operation, with a rewriting rule for each part that it keeps.
-/

namespace Sys2Proof.Machine

@[simp] theorem setLink_frame (st : LinkState) (s : State) :
    SameOutside s (s.setLink st) ∧ SameCapture s (s.setLink st) ∧
      LinkUnit.SameButSession s.link (s.setLink st).link ∧
      StatusUnit.SameButEvents s.status (s.setLink st).status ∧
      LinkUnit.SameProbe s.link (s.setLink st).link ∧
      LinkUnit.SameTrial s.link (s.setLink st).link ∧
      LinkUnit.SameMonitor s.link (s.setLink st).link ∧ (s.setLink st).path = s.path ∧
      (s.setLink st).sched = s.sched ∧ (s.setLink st).rings = s.rings ∧
      (s.setLink st).link.lossRun = s.link.lossRun ∧ (s.setLink st).link.change = s.link.change ∧
      (s.setLink st).link.move = s.link.move ∧ (s.setLink st).mbox = s.mbox := by
  unfold State.setLink
  (repeat' split) <;> simp

@[simp] theorem endSetSplit_frame (e : ErrorCode) (s : State) :
    SameOutside s (s.endSetSplit e) ∧ SameCapture s (s.endSetSplit e) ∧
      SameLink s (s.endSetSplit e) ∧ PathUnit.SameButOther s.path (s.endSetSplit e).path ∧
      Mailbox.SameButRunning s.mbox (s.endSetSplit e).mbox ∧ (s.endSetSplit e).status = s.status := by
  unfold State.endSetSplit
  simp

@[simp] theorem cancelChange_frame (s : State) :
    SameOutside s s.cancelChange ∧ SameCapture s s.cancelChange ∧
      PathUnit.SameButOther s.path s.cancelChange.path ∧
      LinkUnit.SameButChange s.link s.cancelChange.link ∧
      Mailbox.SameButRunning s.mbox s.cancelChange.mbox ∧ s.cancelChange.sched = s.sched ∧
      s.cancelChange.rings = s.rings ∧ s.cancelChange.status = s.status := by
  unfold State.cancelChange
  (repeat' split) <;> simp

@[simp] theorem leaveUp_frame (s : State) :
    SameOutside s s.leaveUp ∧ PathUnit.SameButOther s.path s.leaveUp.path ∧
      Scheduler.SameButSession s.sched s.leaveUp.sched ∧
      LinkUnit.SameButMonitor s.link s.leaveUp.link ∧ Mailbox.SameButRunning s.mbox s.leaveUp.mbox ∧
      StatusUnit.SameButRaised s.status s.leaveUp.status ∧ s.leaveUp.map = s.map ∧
      s.leaveUp.tracker.frames = s.tracker.frames ∧ s.leaveUp.tracker.newest = s.tracker.newest ∧
      s.leaveUp.stitch = s.stitch ∧ s.leaveUp.rings.ret = s.rings.ret ∧
      s.leaveUp.rings.nextSerial = s.rings.nextSerial := by
  unfold State.leaveUp
  (repeat' split) <;> simp

@[simp] theorem enterProbing_frame (s : State) :
    SameOutside s s.enterProbing ∧ PathUnit.SameButOther s.path s.enterProbing.path ∧
      Scheduler.SameButSession s.sched s.enterProbing.sched ∧
      LinkUnit.SameButSession s.link s.enterProbing.link ∧
      Mailbox.SameButRunning s.mbox s.enterProbing.mbox ∧
      StatusUnit.SameButRaised s.status s.enterProbing.status ∧ s.enterProbing.map = s.map ∧
      s.enterProbing.tracker.frames = s.tracker.frames ∧
      s.enterProbing.tracker.newest = s.tracker.newest ∧ s.enterProbing.stitch = s.stitch ∧
      s.enterProbing.rings.ret = s.rings.ret ∧
      s.enterProbing.rings.nextSerial = s.rings.nextSerial := by
  and_intros <;> (simp [State.enterProbing, LinkUnit.noTrial])

@[simp] theorem enterDown_frame (s : State) :
    SameOutside s s.enterDown ∧ PathUnit.SameButOther s.path s.enterDown.path ∧
      Scheduler.SameButSession s.sched s.enterDown.sched ∧
      LinkUnit.SameButSession s.link s.enterDown.link ∧
      Mailbox.SameButRunning s.mbox s.enterDown.mbox ∧
      StatusUnit.SameButRaised s.status s.enterDown.status ∧
      LinkUnit.SameProbe s.link s.enterDown.link ∧ s.enterDown.map = s.map ∧
      s.enterDown.tracker.frames = s.tracker.frames ∧
      s.enterDown.tracker.newest = s.tracker.newest ∧ s.enterDown.stitch = s.stitch ∧
      s.enterDown.rings.ret = s.rings.ret ∧ s.enterDown.rings.nextSerial = s.rings.nextSerial ∧
      s.enterDown.link.lossRun = s.link.lossRun := by
  and_intros <;> (simp [State.enterDown, LinkUnit.noTrial])

@[simp] theorem lose_frame (s : State) :
    SameOutside s s.lose ∧ PathUnit.SameButOther s.path s.lose.path ∧
      Scheduler.SameButSession s.sched s.lose.sched ∧ LinkUnit.SameButSession s.link s.lose.link ∧
      Mailbox.SameButRunning s.mbox s.lose.mbox ∧ StatusUnit.SameButRaised s.status s.lose.status ∧
      s.lose.map = s.map ∧ s.lose.tracker.frames = s.tracker.frames ∧
      s.lose.tracker.newest = s.tracker.newest ∧ s.lose.stitch = s.stitch ∧
      s.lose.rings.ret = s.rings.ret ∧ s.lose.rings.nextSerial = s.rings.nextSerial := by
  unfold State.lose
  simp

@[simp] theorem judgeTrial_frame (s : State) :
    SameOutside s s.judgeTrial ∧ SameCapture s s.judgeTrial ∧
      LinkUnit.SameButMove s.link s.judgeTrial.link ∧
      StatusUnit.SameButCounters s.status s.judgeTrial.status ∧ s.judgeTrial.path = s.path ∧
      s.judgeTrial.sched = s.sched ∧ s.judgeTrial.rings = s.rings ∧ s.judgeTrial.mbox = s.mbox := by
  unfold State.judgeTrial
  dsimp only
  (repeat' split) <;> simp

@[simp] theorem becomeUp_frame (s : State) :
    SameOutside s s.becomeUp ∧ SameCapture s s.becomeUp ∧
      StatusUnit.SameButEvents s.status s.becomeUp.status ∧
      LinkUnit.SameSettings s.link s.becomeUp.link ∧ LinkUnit.SameProbe s.link s.becomeUp.link ∧
      s.becomeUp.path = s.path ∧ s.becomeUp.sched = s.sched ∧ s.becomeUp.rings = s.rings ∧
      s.becomeUp.link.count = s.link.count ∧ s.becomeUp.link.change = s.link.change ∧
      s.becomeUp.link.lastDropped = s.link.lastDropped ∧
      s.becomeUp.link.dropCount = s.link.dropCount ∧ s.becomeUp.link.tally = s.link.tally ∧
      s.becomeUp.link.returnTaken = s.link.returnTaken ∧ s.becomeUp.link.cells = s.link.cells ∧
      s.becomeUp.mbox = s.mbox := by
  and_intros <;> (simp [State.becomeUp, LinkUnit.noTrial])

@[simp] theorem createChange_frame (c : Change) (s : State) :
    SameOutside s (s.createChange c) ∧ SameCapture s (s.createChange c) ∧
      LinkUnit.SameButChange s.link (s.createChange c).link ∧ (s.createChange c).path = s.path ∧
      (s.createChange c).sched = s.sched ∧ (s.createChange c).rings = s.rings ∧
      (s.createChange c).mbox = s.mbox ∧ (s.createChange c).status = s.status := by
  and_intros <;> rfl

@[simp] theorem stepDown_frame (r : Rate) (s : State) :
    SameOutside s (s.stepDown r) ∧ SameCapture s (s.stepDown r) ∧
      PathUnit.SameButOther s.path (s.stepDown r).path ∧
      LinkUnit.SameButChange s.link (s.stepDown r).link ∧
      Mailbox.SameButRunning s.mbox (s.stepDown r).mbox ∧ (s.stepDown r).sched = s.sched ∧
      (s.stepDown r).rings = s.rings ∧ (s.stepDown r).status = s.status := by
  unfold State.stepDown
  (repeat' split) <;> simp

@[simp] theorem judgeBlock_frame (s : State) :
    SameOutside s s.judgeBlock ∧ SameCapture s s.judgeBlock ∧
      PathUnit.SameButOther s.path s.judgeBlock.path ∧
      LinkUnit.SameButMonitor s.link s.judgeBlock.link ∧
      Mailbox.SameButRunning s.mbox s.judgeBlock.mbox ∧ s.judgeBlock.sched = s.sched ∧
      s.judgeBlock.rings = s.rings ∧ s.judgeBlock.status = s.status := by
  unfold State.judgeBlock
  dsimp only
  (repeat' split) <;> simp

@[simp] theorem rateEffect_frame (s : State) :
    SameOutside s s.rateEffect ∧ SameCapture s s.rateEffect ∧
      StatusUnit.SameButRaised s.status s.rateEffect.status ∧
      LinkUnit.SameSettings s.link s.rateEffect.link ∧ LinkUnit.SameDrop s.link s.rateEffect.link ∧
      LinkUnit.SameProbe s.link s.rateEffect.link ∧ LinkUnit.SameTrial s.link s.rateEffect.link ∧
      LinkUnit.SameMonitor s.link s.rateEffect.link ∧ s.rateEffect.path = s.path ∧
      s.rateEffect.sched = s.sched ∧ s.rateEffect.rings = s.rings ∧
      s.rateEffect.link.state = s.link.state ∧ s.rateEffect.link.count = s.link.count ∧
      s.rateEffect.link.lossRun = s.link.lossRun ∧ s.rateEffect.link.tally = s.link.tally ∧
      s.rateEffect.link.move = s.link.move ∧ s.rateEffect.link.returnTaken = s.link.returnTaken ∧
      s.rateEffect.mbox = s.mbox := by
  and_intros <;> (unfold State.rateEffect; (repeat' split) <;> first | rfl | (simp [LinkUnit.enforce]; done))

@[simp] theorem splitEffect_frame (s : State) :
    SameOutside s s.splitEffect ∧ SameCapture s s.splitEffect ∧
      PathUnit.SameButOther s.path s.splitEffect.path ∧
      Mailbox.SameButRunning s.mbox s.splitEffect.mbox ∧
      StatusUnit.SameButEvents s.status s.splitEffect.status ∧
      LinkUnit.SameDrop s.link s.splitEffect.link ∧ LinkUnit.SameProbe s.link s.splitEffect.link ∧
      LinkUnit.SameTrial s.link s.splitEffect.link ∧
      LinkUnit.SameMonitor s.link s.splitEffect.link ∧ s.splitEffect.sched = s.sched ∧
      s.splitEffect.rings = s.rings ∧ s.splitEffect.link.state = s.link.state ∧
      s.splitEffect.link.enabled = s.link.enabled ∧ s.splitEffect.link.ceiling = s.link.ceiling ∧
      s.splitEffect.link.rate = s.link.rate ∧ s.splitEffect.link.count = s.link.count ∧
      s.splitEffect.link.lossRun = s.link.lossRun ∧ s.splitEffect.link.tally = s.link.tally ∧
      s.splitEffect.link.move = s.link.move ∧ s.splitEffect.link.returnTaken = s.link.returnTaken := by
  and_intros <;> (unfold State.splitEffect; (repeat' split) <;> first | rfl | (simp [LinkUnit.enforce]; done))

@[simp] theorem takeEcho_frame (e : Option (Change × Byte)) (s : State) :
    SameOutside s (s.takeEcho e) ∧ SameCapture s (s.takeEcho e) ∧
      LinkUnit.SameButChange s.link (s.takeEcho e).link ∧ (s.takeEcho e).path = s.path ∧
      (s.takeEcho e).sched = s.sched ∧ (s.takeEcho e).rings = s.rings ∧
      (s.takeEcho e).mbox = s.mbox ∧ (s.takeEcho e).status = s.status := by
  unfold State.takeEcho
  (repeat' split) <;> simp

@[simp] theorem headerBuilt_frame (s : State) :
    SameOutside s s.headerBuilt ∧ SameCapture s s.headerBuilt ∧
      LinkUnit.SameButRepeat s.link s.headerBuilt.link ∧ s.headerBuilt.path = s.path ∧
      s.headerBuilt.sched = s.sched ∧ s.headerBuilt.rings.outbound = s.rings.outbound ∧
      s.headerBuilt.rings.nextSerial = s.rings.nextSerial ∧ s.headerBuilt.mbox = s.mbox ∧
      s.headerBuilt.status = s.status := by
  and_intros <;> rfl

@[simp] theorem upWindow_frame (s : State) :
    SameCapture s s.upWindow ∧ PathUnit.SameButOwn s.path s.upWindow.path ∧
      Scheduler.SameButBuilt s.sched s.upWindow.sched ∧
      LinkUnit.SameButRepeat s.link s.upWindow.link ∧
      StatusUnit.SameButRaised s.status s.upWindow.status ∧ s.upWindow.straps = s.straps ∧
      s.upWindow.mbox = s.mbox ∧ s.upWindow.pending = s.pending := by
  unfold State.upWindow
  simp

@[simp] theorem foldl_emit_frame (l : List (List Byte)) (s : State) :
    SameCapture s (l.foldl (fun t b => t.emit (.parcel b)) s) ∧
      SameLink s (l.foldl (fun t b => t.emit (.parcel b)) s) ∧
      (l.foldl (fun t b => t.emit (.parcel b)) s).straps = s.straps ∧
      (l.foldl (fun t b => t.emit (.parcel b)) s).path = s.path ∧
      (l.foldl (fun t b => t.emit (.parcel b)) s).mbox = s.mbox ∧
      (l.foldl (fun t b => t.emit (.parcel b)) s).status = s.status ∧
      (l.foldl (fun t b => t.emit (.parcel b)) s).free = s.free ∧
      (l.foldl (fun t b => t.emit (.parcel b)) s).pending = s.pending := by
  and_intros <;> (induction l generalizing s with
    | nil => rfl
    | cons x l ih => exact (ih _).trans (by simp))

@[simp] theorem trainingWindow_frame (s : State) :
    SameCapture s s.trainingWindow ∧ SameLink s s.trainingWindow ∧
      s.trainingWindow.straps = s.straps ∧ s.trainingWindow.path = s.path ∧
      s.trainingWindow.mbox = s.mbox ∧ s.trainingWindow.status = s.status ∧
      s.trainingWindow.free = s.free ∧ s.trainingWindow.pending = s.pending := by
  unfold State.trainingWindow
  simp

@[simp] theorem probingWindow_frame (s : State) :
    SameCapture s s.probingWindow ∧ SameLink s s.probingWindow ∧
      s.probingWindow.straps = s.straps ∧ s.probingWindow.path = s.path ∧
      s.probingWindow.mbox = s.mbox ∧ s.probingWindow.status = s.status ∧
      s.probingWindow.free = s.free ∧ s.probingWindow.pending = s.pending := by
  and_intros <;> rfl

@[simp] theorem frameWindow_frame (s : State) :
    SameCapture s s.frameWindow ∧ PathUnit.SameButOwn s.path s.frameWindow.path ∧
      Scheduler.SameButBuilt s.sched s.frameWindow.sched ∧
      LinkUnit.SameButRepeat s.link s.frameWindow.link ∧
      StatusUnit.SameButRaised s.status s.frameWindow.status ∧ s.frameWindow.straps = s.straps ∧
      s.frameWindow.mbox = s.mbox ∧ s.frameWindow.pending = s.pending := by
  unfold State.frameWindow
  (repeat' split) <;> simp

@[simp] theorem tick_frame (s : State) :
    SameOutside s s.tick ∧ SameCapture s s.tick ∧ LinkUnit.SameSettings s.link s.tick.link ∧
      LinkUnit.SameDrop s.link s.tick.link ∧ LinkUnit.SameProbe s.link s.tick.link ∧
      LinkUnit.SameTrial s.link s.tick.link ∧ LinkUnit.SameMonitor s.link s.tick.link ∧
      s.tick.path = s.path ∧ s.tick.sched = s.sched ∧ s.tick.rings = s.rings ∧
      s.tick.link.state = s.link.state ∧ s.tick.link.rate = s.link.rate ∧
      s.tick.link.lossRun = s.link.lossRun ∧ s.tick.link.change = s.link.change ∧
      s.tick.link.tally = s.link.tally ∧ s.tick.link.move = s.link.move ∧
      s.tick.link.cells = s.link.cells ∧ s.tick.mbox = s.mbox ∧ s.tick.status = s.status := by
  and_intros <;> rfl

@[simp] theorem changeLink_frame (s : State) :
    SameOutside s s.changeLink ∧ PathUnit.SameButOther s.path s.changeLink.path ∧
      Scheduler.SameButSession s.sched s.changeLink.sched ∧
      Mailbox.SameButRunning s.mbox s.changeLink.mbox ∧
      StatusUnit.SameButRaised s.status s.changeLink.status ∧
      LinkUnit.SameSettings s.link s.changeLink.link ∧ s.changeLink.map = s.map ∧
      s.changeLink.tracker.frames = s.tracker.frames ∧
      s.changeLink.tracker.newest = s.tracker.newest ∧ s.changeLink.stitch = s.stitch ∧
      s.changeLink.rings.ret = s.rings.ret ∧ s.changeLink.rings.nextSerial = s.rings.nextSerial ∧
      s.changeLink.link.count = s.link.count ∧ s.changeLink.link.lastDropped = s.link.lastDropped ∧
      s.changeLink.link.dropCount = s.link.dropCount ∧ s.changeLink.link.tally = s.link.tally ∧
      s.changeLink.link.returnTaken = s.link.returnTaken ∧ s.changeLink.link.cells = s.link.cells := by
  and_intros <;> (unfold State.changeLink; (repeat' split) <;> first | rfl | (simp [LinkUnit.startTrial, LinkUnit.noTrial]; done))

@[simp] theorem moveLink_frame (s : State) :
    SameOutside s s.moveLink ∧ PathUnit.SameButOther s.path s.moveLink.path ∧
      Scheduler.SameButSession s.sched s.moveLink.sched ∧
      Mailbox.SameButRunning s.mbox s.moveLink.mbox ∧
      StatusUnit.SameButRaised s.status s.moveLink.status ∧
      LinkUnit.SameSettings s.link s.moveLink.link ∧ s.moveLink.map = s.map ∧
      s.moveLink.tracker.frames = s.tracker.frames ∧ s.moveLink.tracker.newest = s.tracker.newest ∧
      s.moveLink.stitch = s.stitch ∧ s.moveLink.rings.ret = s.rings.ret ∧
      s.moveLink.rings.nextSerial = s.rings.nextSerial ∧ s.moveLink.link.count = s.link.count ∧
      s.moveLink.link.lastDropped = s.link.lastDropped ∧
      s.moveLink.link.dropCount = s.link.dropCount ∧ s.moveLink.link.tally = s.link.tally ∧
      s.moveLink.link.returnTaken = s.link.returnTaken := by
  and_intros <;> (simp [State.moveLink, LinkUnit.enforce])

@[simp] theorem frameStart_frame (s : State) :
    PathUnit.SameButOwn s.path s.frameStart.path ∧
      Mailbox.SameButRunning s.mbox s.frameStart.mbox ∧
      StatusUnit.SameFlags s.status s.frameStart.status ∧ s.frameStart.straps = s.straps ∧
      s.frameStart.map = s.map ∧ s.frameStart.tracker.frames = s.tracker.frames ∧
      s.frameStart.tracker.newest = s.tracker.newest ∧ s.frameStart.stitch = s.stitch ∧
      s.frameStart.link.enabled = s.link.enabled ∧ s.frameStart.link.ceiling = s.link.ceiling ∧
      s.frameStart.link.lastDropped = s.link.lastDropped ∧
      s.frameStart.link.dropCount = s.link.dropCount ∧ s.frameStart.link.tally = s.link.tally ∧
      s.frameStart.status.enable = s.status.enable ∧
      s.frameStart.status.snapshot = s.status.snapshot ∧ s.frameStart.pending = s.pending := by
  unfold State.frameStart
  simp

@[simp] theorem takeTally_frame (t : Byte) (s : State) :
    SameOutside s (s.takeTally t) ∧ SameCapture s (s.takeTally t) ∧
      StatusUnit.SameButEvents s.status (s.takeTally t).status ∧
      LinkUnit.SameSettings s.link (s.takeTally t).link ∧
      LinkUnit.SameDrop s.link (s.takeTally t).link ∧
      LinkUnit.SameProbe s.link (s.takeTally t).link ∧
      LinkUnit.SameTrial s.link (s.takeTally t).link ∧
      LinkUnit.SameMonitor s.link (s.takeTally t).link ∧ (s.takeTally t).path = s.path ∧
      (s.takeTally t).sched = s.sched ∧ (s.takeTally t).rings = s.rings ∧
      (s.takeTally t).link.state = s.link.state ∧ (s.takeTally t).link.rate = s.link.rate ∧
      (s.takeTally t).link.count = s.link.count ∧ (s.takeTally t).link.lossRun = s.link.lossRun ∧
      (s.takeTally t).link.change = s.link.change ∧ (s.takeTally t).link.move = s.link.move ∧
      (s.takeTally t).link.returnTaken = s.link.returnTaken ∧
      (s.takeTally t).link.cells = s.link.cells ∧ (s.takeTally t).mbox = s.mbox := by
  unfold State.takeTally
  (repeat' split) <;> simp

@[simp] theorem endProbeCycle_frame (s : State) :
    SameOutside s s.endProbeCycle ∧ SameCapture s s.endProbeCycle ∧
      LinkUnit.SameButSession s.link s.endProbeCycle.link ∧
      LinkUnit.SameTrial s.link s.endProbeCycle.link ∧
      LinkUnit.SameMonitor s.link s.endProbeCycle.link ∧ s.endProbeCycle.path = s.path ∧
      s.endProbeCycle.sched = s.sched ∧ s.endProbeCycle.rings = s.rings ∧
      s.endProbeCycle.link.state = s.link.state ∧ s.endProbeCycle.link.lossRun = s.link.lossRun ∧
      s.endProbeCycle.link.change = s.link.change ∧ s.endProbeCycle.link.move = s.link.move ∧
      s.endProbeCycle.mbox = s.mbox ∧ s.endProbeCycle.status = s.status := by
  unfold State.endProbeCycle
  (repeat' split) <;> simp

@[simp] theorem arriveProbing_frame (h : Option (List Byte)) (s : State) :
    SameOutside s (s.arriveProbing h) ∧ SameCapture s (s.arriveProbing h) ∧
      LinkUnit.SameSettings s.link (s.arriveProbing h).link ∧
      LinkUnit.SameDrop s.link (s.arriveProbing h).link ∧
      LinkUnit.SameTrial s.link (s.arriveProbing h).link ∧
      LinkUnit.SameMonitor s.link (s.arriveProbing h).link ∧
      StatusUnit.SameFlags s.status (s.arriveProbing h).status ∧ (s.arriveProbing h).path = s.path ∧
      (s.arriveProbing h).sched = s.sched ∧ (s.arriveProbing h).rings = s.rings ∧
      (s.arriveProbing h).link.state = s.link.state ∧ (s.arriveProbing h).link.rate = s.link.rate ∧
      (s.arriveProbing h).link.count = s.link.count ∧
      (s.arriveProbing h).link.lossRun = s.link.lossRun ∧
      (s.arriveProbing h).link.change = s.link.change ∧
      (s.arriveProbing h).link.returnTaken = s.link.returnTaken ∧
      (s.arriveProbing h).link.cells = s.link.cells ∧ (s.arriveProbing h).mbox = s.mbox ∧
      (s.arriveProbing h).status.enable = s.status.enable ∧
      (s.arriveProbing h).status.counters = s.status.counters ∧
      (s.arriveProbing h).status.snapshot = s.status.snapshot := by
  unfold State.arriveProbing
  dsimp only
  (repeat' split) <;> simp

@[simp] theorem trialErrors_frame (b n : Nat) (s : State) :
    SameOutside s (s.trialErrors b n) ∧ SameCapture s (s.trialErrors b n) ∧
      LinkUnit.SameButSession s.link (s.trialErrors b n).link ∧
      LinkUnit.SameProbe s.link (s.trialErrors b n).link ∧
      LinkUnit.SameMonitor s.link (s.trialErrors b n).link ∧ (s.trialErrors b n).path = s.path ∧
      (s.trialErrors b n).sched = s.sched ∧ (s.trialErrors b n).rings = s.rings ∧
      (s.trialErrors b n).link.state = s.link.state ∧
      (s.trialErrors b n).link.lossRun = s.link.lossRun ∧
      (s.trialErrors b n).link.trialRate = s.link.trialRate ∧
      (s.trialErrors b n).link.trialFrame = s.link.trialFrame ∧
      (s.trialErrors b n).link.change = s.link.change ∧
      (s.trialErrors b n).link.move = s.link.move ∧ (s.trialErrors b n).mbox = s.mbox ∧
      (s.trialErrors b n).status = s.status := by
  and_intros <;> rfl

@[simp] theorem monitorErrors_frame (n : Nat) (s : State) :
    SameOutside s (s.monitorErrors n) ∧ SameCapture s (s.monitorErrors n) ∧
      LinkUnit.SameButErrors s.link (s.monitorErrors n).link ∧ (s.monitorErrors n).path = s.path ∧
      (s.monitorErrors n).sched = s.sched ∧ (s.monitorErrors n).rings = s.rings ∧
      (s.monitorErrors n).mbox = s.mbox ∧ (s.monitorErrors n).status = s.status := by
  and_intros <;> rfl

@[simp] theorem testLoss_frame (s : State) :
    SameOutside s s.testLoss ∧ PathUnit.SameButOther s.path s.testLoss.path ∧
      Scheduler.SameButSession s.sched s.testLoss.sched ∧
      LinkUnit.SameButSession s.link s.testLoss.link ∧
      Mailbox.SameButRunning s.mbox s.testLoss.mbox ∧
      StatusUnit.SameButRaised s.status s.testLoss.status ∧ s.testLoss.map = s.map ∧
      s.testLoss.tracker.frames = s.tracker.frames ∧ s.testLoss.tracker.newest = s.tracker.newest ∧
      s.testLoss.stitch = s.stitch ∧ s.testLoss.rings.ret = s.rings.ret ∧
      s.testLoss.rings.nextSerial = s.rings.nextSerial := by
  unfold State.testLoss
  (repeat' split) <;> simp

@[simp] theorem testTrial_frame (s : State) :
    SameOutside s s.testTrial ∧ SameCapture s s.testTrial ∧
      LinkUnit.SameButMove s.link s.testTrial.link ∧
      StatusUnit.SameButCounters s.status s.testTrial.status ∧ s.testTrial.path = s.path ∧
      s.testTrial.sched = s.sched ∧ s.testTrial.rings = s.rings ∧ s.testTrial.mbox = s.mbox := by
  unfold State.testTrial
  (repeat' split) <;> simp

@[simp] theorem testBlock_frame (s : State) :
    SameOutside s s.testBlock ∧ SameCapture s s.testBlock ∧
      PathUnit.SameButOther s.path s.testBlock.path ∧
      LinkUnit.SameButMonitor s.link s.testBlock.link ∧
      Mailbox.SameButRunning s.mbox s.testBlock.mbox ∧ s.testBlock.sched = s.sched ∧
      s.testBlock.rings = s.rings ∧ s.testBlock.status = s.status := by
  unfold State.testBlock
  (repeat' split) <;> simp

@[simp] theorem monitorArrival_frame (s : State) :
    SameOutside s s.monitorArrival ∧ SameCapture s s.monitorArrival ∧
      PathUnit.SameButOther s.path s.monitorArrival.path ∧
      LinkUnit.SameButMonitor s.link s.monitorArrival.link ∧
      Mailbox.SameButRunning s.mbox s.monitorArrival.mbox ∧ s.monitorArrival.sched = s.sched ∧
      s.monitorArrival.rings = s.rings ∧ s.monitorArrival.status = s.status := by
  unfold State.monitorArrival
  (repeat' split) <;> simp

@[simp] theorem badWindow_frame (s : State) :
    SameOutside s s.badWindow ∧ SameCapture s s.badWindow ∧
      LinkUnit.SameButSession s.link s.badWindow.link ∧
      StatusUnit.SameButCounters s.status s.badWindow.status ∧
      LinkUnit.SameProbe s.link s.badWindow.link ∧ LinkUnit.SameTrial s.link s.badWindow.link ∧
      LinkUnit.SameMonitor s.link s.badWindow.link ∧ s.badWindow.path = s.path ∧
      s.badWindow.sched = s.sched ∧ s.badWindow.rings = s.rings ∧
      s.badWindow.link.state = s.link.state ∧ s.badWindow.link.change = s.link.change ∧
      s.badWindow.link.move = s.link.move ∧ s.badWindow.mbox = s.mbox := by
  and_intros <;> rfl

@[simp] theorem takeFound_frame (f : Found) (s : State) :
    SameCapture s (s.takeFound f) ∧ PathUnit.SameButOther s.path (s.takeFound f).path ∧
      LinkUnit.SameButErrors s.link (s.takeFound f).link ∧ (s.takeFound f).straps = s.straps ∧
      (s.takeFound f).sched = s.sched ∧ (s.takeFound f).rings.outbound = s.rings.outbound ∧
      (s.takeFound f).mbox = s.mbox ∧ (s.takeFound f).status.events = s.status.events ∧
      (s.takeFound f).status.enable = s.status.enable ∧
      (s.takeFound f).status.launchLost = s.status.launchLost ∧
      (s.takeFound f).status.paramTorn = s.status.paramTorn ∧
      (s.takeFound f).status.due = s.status.due ∧
      (s.takeFound f).status.snapshot = s.status.snapshot ∧ (s.takeFound f).out = s.out ∧
      (s.takeFound f).pending = s.pending := by
  unfold State.takeFound
  (repeat' split) <;> simp

@[simp] theorem foldl_takeAnswer_frame (g : Fin 4 → Answer) (l : List (Fin 4)) (s : State) :
    SameCapture s (l.foldl (fun t r => mirroredIn (failOrder r) (State.takeAnswer r (g r)) t) s) ∧
      PathUnit.SameButOwn s.path (l.foldl (fun t r => mirroredIn (failOrder r) (State.takeAnswer r (g r)) t) s).path ∧
      StatusUnit.SameFlags s.status (l.foldl (fun t r => mirroredIn (failOrder r) (State.takeAnswer r (g r)) t) s).status ∧
      (l.foldl (fun t r => mirroredIn (failOrder r) (State.takeAnswer r (g r)) t) s).straps = s.straps ∧
      (l.foldl (fun t r => mirroredIn (failOrder r) (State.takeAnswer r (g r)) t) s).sched = s.sched ∧
      (l.foldl (fun t r => mirroredIn (failOrder r) (State.takeAnswer r (g r)) t) s).rings.inbound = s.rings.inbound ∧
      (l.foldl (fun t r => mirroredIn (failOrder r) (State.takeAnswer r (g r)) t) s).rings.ret = s.rings.ret ∧
      (l.foldl (fun t r => mirroredIn (failOrder r) (State.takeAnswer r (g r)) t) s).link = s.link ∧
      (l.foldl (fun t r => mirroredIn (failOrder r) (State.takeAnswer r (g r)) t) s).mbox = s.mbox ∧
      (l.foldl (fun t r => mirroredIn (failOrder r) (State.takeAnswer r (g r)) t) s).status.enable = s.status.enable ∧
      (l.foldl (fun t r => mirroredIn (failOrder r) (State.takeAnswer r (g r)) t) s).status.snapshot = s.status.snapshot ∧
      (l.foldl (fun t r => mirroredIn (failOrder r) (State.takeAnswer r (g r)) t) s).out = s.out ∧
      (l.foldl (fun t r => mirroredIn (failOrder r) (State.takeAnswer r (g r)) t) s).pending = s.pending := by
  and_intros <;> (induction l generalizing s with
    | nil => rfl
    | cons x l ih => exact (ih _).trans (by simp))

@[simp] theorem foldl_takeFound_frame (l : List Found) (s : State) :
    SameCapture s (l.foldl (fun t f => mirroredIn ascending (State.takeFound f) t) s) ∧
      PathUnit.SameButOther s.path (l.foldl (fun t f => mirroredIn ascending (State.takeFound f) t) s).path ∧
      LinkUnit.SameButErrors s.link (l.foldl (fun t f => mirroredIn ascending (State.takeFound f) t) s).link ∧
      (l.foldl (fun t f => mirroredIn ascending (State.takeFound f) t) s).straps = s.straps ∧
      (l.foldl (fun t f => mirroredIn ascending (State.takeFound f) t) s).sched = s.sched ∧
      (l.foldl (fun t f => mirroredIn ascending (State.takeFound f) t) s).rings.outbound = s.rings.outbound ∧
      (l.foldl (fun t f => mirroredIn ascending (State.takeFound f) t) s).mbox = s.mbox ∧
      (l.foldl (fun t f => mirroredIn ascending (State.takeFound f) t) s).status.events = s.status.events ∧
      (l.foldl (fun t f => mirroredIn ascending (State.takeFound f) t) s).status.enable = s.status.enable ∧
      (l.foldl (fun t f => mirroredIn ascending (State.takeFound f) t) s).status.launchLost = s.status.launchLost ∧
      (l.foldl (fun t f => mirroredIn ascending (State.takeFound f) t) s).status.paramTorn = s.status.paramTorn ∧
      (l.foldl (fun t f => mirroredIn ascending (State.takeFound f) t) s).status.snapshot = s.status.snapshot ∧
      (l.foldl (fun t f => mirroredIn ascending (State.takeFound f) t) s).out = s.out ∧
      (l.foldl (fun t f => mirroredIn ascending (State.takeFound f) t) s).pending = s.pending := by
  and_intros <;> (induction l generalizing s with
    | nil => rfl
    | cons x l ih => exact (ih _).trans (by simp))

@[simp] theorem handOut_frame (h b : List Byte) (s : State) :
    SameCapture s (s.handOut h b) ∧ PathUnit.SameButOwn s.path (s.handOut h b).path ∧
      Scheduler.SameButSession s.sched (s.handOut h b).sched ∧
      LinkUnit.SameSettings s.link (s.handOut h b).link ∧
      LinkUnit.SameDrop s.link (s.handOut h b).link ∧
      LinkUnit.SameProbe s.link (s.handOut h b).link ∧
      LinkUnit.SameTrial s.link (s.handOut h b).link ∧ (s.handOut h b).straps = s.straps ∧
      (s.handOut h b).sched.queue = s.sched.queue ∧ (s.handOut h b).sched.window = s.sched.window ∧
      (s.handOut h b).link.state = s.link.state ∧ (s.handOut h b).link.rate = s.link.rate ∧
      (s.handOut h b).link.count = s.link.count ∧ (s.handOut h b).link.lossRun = s.link.lossRun ∧
      (s.handOut h b).link.monitorFrames = s.link.monitorFrames ∧
      (s.handOut h b).link.move = s.link.move ∧
      (s.handOut h b).link.returnTaken = s.link.returnTaken ∧
      (s.handOut h b).link.cells = s.link.cells ∧ (s.handOut h b).mbox = s.mbox ∧
      (s.handOut h b).status.enable = s.status.enable ∧
      (s.handOut h b).status.launchLost = s.status.launchLost ∧
      (s.handOut h b).status.paramTorn = s.status.paramTorn ∧
      (s.handOut h b).status.snapshot = s.status.snapshot ∧ (s.handOut h b).out = s.out ∧
      (s.handOut h b).pending = s.pending := by
  and_intros <;> (unfold State.handOut; simp)

@[simp] theorem arriveUp_frame (h : Option (List Byte)) (b : List Byte) (s : State) :
    PathUnit.SameButOwn s.path (s.arriveUp h b).path ∧
      Scheduler.SameButSession s.sched (s.arriveUp h b).sched ∧
      Mailbox.SameButRunning s.mbox (s.arriveUp h b).mbox ∧
      LinkUnit.SameSettings s.link (s.arriveUp h b).link ∧
      LinkUnit.SameDrop s.link (s.arriveUp h b).link ∧ (s.arriveUp h b).straps = s.straps ∧
      (s.arriveUp h b).map = s.map ∧ (s.arriveUp h b).tracker.frames = s.tracker.frames ∧
      (s.arriveUp h b).tracker.newest = s.tracker.newest ∧ (s.arriveUp h b).stitch = s.stitch ∧
      (s.arriveUp h b).link.rate = s.link.rate ∧ (s.arriveUp h b).link.count = s.link.count ∧
      (s.arriveUp h b).link.returnTaken = s.link.returnTaken ∧
      (s.arriveUp h b).link.cells = s.link.cells ∧
      (s.arriveUp h b).status.enable = s.status.enable ∧
      (s.arriveUp h b).status.launchLost = s.status.launchLost ∧
      (s.arriveUp h b).status.paramTorn = s.status.paramTorn ∧
      (s.arriveUp h b).status.snapshot = s.status.snapshot ∧ (s.arriveUp h b).out = s.out ∧
      (s.arriveUp h b).pending = s.pending := by
  unfold State.arriveUp
  (repeat' split) <;> simp

@[simp] theorem arriveTraining_frame (h : Option (List Byte)) (b : List Byte) (s : State) :
    SameOutside s (s.arriveTraining h b) ∧
      PathUnit.SameButOther s.path (s.arriveTraining h b).path ∧
      Scheduler.SameButSession s.sched (s.arriveTraining h b).sched ∧
      Mailbox.SameButRunning s.mbox (s.arriveTraining h b).mbox ∧
      LinkUnit.SameSettings s.link (s.arriveTraining h b).link ∧
      LinkUnit.SameDrop s.link (s.arriveTraining h b).link ∧
      StatusUnit.SameFlags s.status (s.arriveTraining h b).status ∧
      (s.arriveTraining h b).map = s.map ∧
      (s.arriveTraining h b).tracker.frames = s.tracker.frames ∧
      (s.arriveTraining h b).tracker.newest = s.tracker.newest ∧
      (s.arriveTraining h b).stitch = s.stitch ∧ (s.arriveTraining h b).rings.ret = s.rings.ret ∧
      (s.arriveTraining h b).rings.nextSerial = s.rings.nextSerial ∧
      (s.arriveTraining h b).link.rate = s.link.rate ∧
      (s.arriveTraining h b).link.count = s.link.count ∧
      (s.arriveTraining h b).link.returnTaken = s.link.returnTaken ∧
      (s.arriveTraining h b).link.cells = s.link.cells ∧
      (s.arriveTraining h b).status.enable = s.status.enable ∧
      (s.arriveTraining h b).status.snapshot = s.status.snapshot := by
  unfold State.arriveTraining
  (repeat' split) <;> simp

@[simp] theorem arrive_frame (h : Option (List Byte)) (b : List Byte) (s : State) :
    PathUnit.SameButOwn s.path (s.arrive h b).path ∧
      Scheduler.SameButSession s.sched (s.arrive h b).sched ∧
      Mailbox.SameButRunning s.mbox (s.arrive h b).mbox ∧
      LinkUnit.SameSettings s.link (s.arrive h b).link ∧
      LinkUnit.SameDrop s.link (s.arrive h b).link ∧ (s.arrive h b).straps = s.straps ∧
      (s.arrive h b).map = s.map ∧ (s.arrive h b).tracker.frames = s.tracker.frames ∧
      (s.arrive h b).tracker.newest = s.tracker.newest ∧ (s.arrive h b).stitch = s.stitch ∧
      (s.arrive h b).link.rate = s.link.rate ∧ (s.arrive h b).link.count = s.link.count ∧
      (s.arrive h b).link.cells = s.link.cells ∧ (s.arrive h b).status.enable = s.status.enable ∧
      (s.arrive h b).status.launchLost = s.status.launchLost ∧
      (s.arrive h b).status.paramTorn = s.status.paramTorn ∧
      (s.arrive h b).status.snapshot = s.status.snapshot ∧ (s.arrive h b).out = s.out ∧
      (s.arrive h b).pending = s.pending := by
  unfold State.arrive
  (repeat' split) <;> simp

@[simp] theorem doLinkControl_frame (p : Params) (s : State) :
    SameOutside s (doLinkControl p s).1 ∧
      PathUnit.SameButOther s.path (doLinkControl p s).1.path ∧
      Scheduler.SameButSession s.sched (doLinkControl p s).1.sched ∧
      Mailbox.SameButRunning s.mbox (doLinkControl p s).1.mbox ∧
      StatusUnit.SameButRaised s.status (doLinkControl p s).1.status ∧
      LinkUnit.SameDrop s.link (doLinkControl p s).1.link ∧ (doLinkControl p s).1.map = s.map ∧
      (doLinkControl p s).1.tracker.frames = s.tracker.frames ∧
      (doLinkControl p s).1.tracker.newest = s.tracker.newest ∧
      (doLinkControl p s).1.stitch = s.stitch ∧ (doLinkControl p s).1.rings.ret = s.rings.ret ∧
      (doLinkControl p s).1.rings.nextSerial = s.rings.nextSerial ∧
      (doLinkControl p s).1.link.rate = s.link.rate ∧
      (doLinkControl p s).1.link.splitF = s.link.splitF ∧
      (doLinkControl p s).1.link.splitRt = s.link.splitRt ∧
      (doLinkControl p s).1.link.count = s.link.count ∧
      (doLinkControl p s).1.link.tally = s.link.tally ∧
      (doLinkControl p s).1.link.returnTaken = s.link.returnTaken ∧
      (doLinkControl p s).1.link.cells = s.link.cells := by
  unfold doLinkControl
  (repeat' split) <;> simp

@[simp] theorem doSetSplit_frame (p : Params) (s : State) :
    SameOutside s (doSetSplit p s).1 ∧ SameCapture s (doSetSplit p s).1 ∧
      LinkUnit.SameDrop s.link (doSetSplit p s).1.link ∧
      LinkUnit.SameProbe s.link (doSetSplit p s).1.link ∧
      LinkUnit.SameTrial s.link (doSetSplit p s).1.link ∧
      LinkUnit.SameMonitor s.link (doSetSplit p s).1.link ∧ (doSetSplit p s).1.path = s.path ∧
      (doSetSplit p s).1.sched = s.sched ∧ (doSetSplit p s).1.rings = s.rings ∧
      (doSetSplit p s).1.link.state = s.link.state ∧
      (doSetSplit p s).1.link.enabled = s.link.enabled ∧
      (doSetSplit p s).1.link.ceiling = s.link.ceiling ∧
      (doSetSplit p s).1.link.rate = s.link.rate ∧ (doSetSplit p s).1.link.count = s.link.count ∧
      (doSetSplit p s).1.link.lossRun = s.link.lossRun ∧
      (doSetSplit p s).1.link.tally = s.link.tally ∧ (doSetSplit p s).1.link.move = s.link.move ∧
      (doSetSplit p s).1.link.returnTaken = s.link.returnTaken ∧
      (doSetSplit p s).1.link.cells = s.link.cells ∧ (doSetSplit p s).1.mbox = s.mbox ∧
      (doSetSplit p s).1.status = s.status := by
  unfold doSetSplit
  (repeat' split) <;> simp

end Sys2Proof.Machine
end

