-- ==== Sys2Proof/Laws/Mailbox.lean ====
section
/-!
SUPPORT. What each operation of the mailbox and status units, and forwarding
leaves as it was: one lemma for an operation, with a rewriting rule for each part that it keeps.
-/

namespace Sys2Proof.Machine

@[simp] theorem paramWrite_frame (i : Fin 8) (v : Option Word) (s : State) :
    SameOutside s (s.paramWrite i v) ∧ SameCapture s (s.paramWrite i v) ∧
      SameLink s (s.paramWrite i v) ∧ (s.paramWrite i v).path = s.path ∧
      (s.paramWrite i v).mbox.running = s.mbox.running ∧
      (s.paramWrite i v).mbox.staging = s.mbox.staging ∧
      (s.paramWrite i v).mbox.abortNote = s.mbox.abortNote ∧
      (s.paramWrite i v).status.events = s.status.events ∧
      (s.paramWrite i v).status.enable = s.status.enable ∧
      (s.paramWrite i v).status.launchLost = s.status.launchLost ∧
      (s.paramWrite i v).status.inboundFull = s.status.inboundFull ∧
      (s.paramWrite i v).status.due = s.status.due ∧
      (s.paramWrite i v).status.snapshot = s.status.snapshot := by
  unfold State.paramWrite
  (repeat' split) <;> simp

@[simp] theorem acknowledge_frame (v : Word) (s : State) :
    SameOutside s (s.acknowledge v) ∧ SameCapture s (s.acknowledge v) ∧
      SameLink s (s.acknowledge v) ∧ PathUnit.SameButQueues s.path (s.acknowledge v).path ∧
      (s.acknowledge v).path.pass = s.path.pass ∧ (s.acknowledge v).path.hold = s.path.hold ∧
      (s.acknowledge v).mbox = s.mbox ∧ (s.acknowledge v).status.enable = s.status.enable ∧
      (s.acknowledge v).status.due = s.status.due ∧
      (s.acknowledge v).status.counters = s.status.counters ∧
      (s.acknowledge v).status.snapshot = s.status.snapshot := by
  unfold State.acknowledge
  dsimp only
  (repeat' split) <;> simp

@[simp] theorem snapshotStep_frame (s : State) :
    SameOutside s s.snapshotStep ∧ SameCapture s s.snapshotStep ∧ SameLink s s.snapshotStep ∧
      PathUnit.SameButOther s.path s.snapshotStep.path ∧
      StatusUnit.SameFlags s.status s.snapshotStep.status ∧ s.snapshotStep.mbox = s.mbox ∧
      s.snapshotStep.status.events = s.status.events ∧
      s.snapshotStep.status.enable = s.status.enable ∧ s.snapshotStep.status.due = s.status.due := by
  unfold State.snapshotStep
  (repeat' split) <;> simp

@[simp] theorem doSnapshot_frame (p : Params) (s : State) :
    SameOutside s (doSnapshot p s) ∧ SameCapture s (doSnapshot p s) ∧
      SameLink s (doSnapshot p s) ∧ PathUnit.SameButOther s.path (doSnapshot p s).path ∧
      StatusUnit.SameFlags s.status (doSnapshot p s).status ∧
      (doSnapshot p s).mbox.slots = s.mbox.slots ∧ (doSnapshot p s).mbox.running = s.mbox.running ∧
      (doSnapshot p s).mbox.abortNote = s.mbox.abortNote ∧
      (doSnapshot p s).status.events = s.status.events ∧
      (doSnapshot p s).status.enable = s.status.enable ∧
      (doSnapshot p s).status.due = s.status.due := by
  and_intros <;> rfl

@[simp] theorem snapshotAccepted_frame (s : State) :
    SameOutside s s.snapshotAccepted ∧ SameCapture s s.snapshotAccepted ∧
      SameLink s s.snapshotAccepted ∧ PathUnit.SameButOther s.path s.snapshotAccepted.path ∧
      Mailbox.SameButRunning s.mbox s.snapshotAccepted.mbox ∧
      StatusUnit.SameFlags s.status s.snapshotAccepted.status ∧
      s.snapshotAccepted.status.events = s.status.events ∧
      s.snapshotAccepted.status.enable = s.status.enable ∧
      s.snapshotAccepted.status.due = s.status.due ∧
      s.snapshotAccepted.status.counters = s.status.counters := by
  unfold State.snapshotAccepted
  dsimp only
  (repeat' split) <;> simp

@[simp] theorem doSetEvents_frame (p : Params) (s : State) :
    SameOutside s (doSetEvents p s).1 ∧ SameCapture s (doSetEvents p s).1 ∧
      SameLink s (doSetEvents p s).1 ∧ StatusUnit.SameFlags s.status (doSetEvents p s).1.status ∧
      (doSetEvents p s).1.path = s.path ∧ (doSetEvents p s).1.mbox = s.mbox ∧
      (doSetEvents p s).1.status.events = s.status.events ∧
      (doSetEvents p s).1.status.due = s.status.due ∧
      (doSetEvents p s).1.status.counters = s.status.counters ∧
      (doSetEvents p s).1.status.snapshot = s.status.snapshot := by
  and_intros <;> rfl

@[simp] theorem commandFailed_frame (c : Command) (p : Params) (s : State) :
    SameOutside s (c.failed p s) ∧ SameCapture s (c.failed p s) ∧ (c.failed p s).path = s.path ∧
      (c.failed p s).sched = s.sched ∧ (c.failed p s).rings.inbound = s.rings.inbound ∧
      (c.failed p s).rings.ret = s.rings.ret ∧
      (c.failed p s).rings.nextSerial = s.rings.nextSerial ∧ (c.failed p s).link = s.link ∧
      (c.failed p s).mbox = s.mbox ∧ (c.failed p s).status = s.status := by
  unfold Command.failed
  (repeat' split) <;> simp

@[simp] theorem abort_frame (c : CommandTag) (s : State) :
    SameOutside s (s.abort c) ∧ SameCapture s (s.abort c) ∧ SameLink s (s.abort c) ∧
      PathUnit.SameButOther s.path (s.abort c).path ∧ (s.abort c).mbox = s.mbox ∧
      (s.abort c).status = s.status := by
  and_intros <;> rfl

@[simp] theorem staleAll_frame (s : State) :
    SameOutside s s.staleAll ∧ SameCapture s s.staleAll ∧ SameLink s s.staleAll ∧
      s.staleAll.path = s.path ∧ s.staleAll.mbox.running = s.mbox.running ∧
      s.staleAll.mbox.staging = s.mbox.staging ∧ s.staleAll.mbox.abortNote = s.mbox.abortNote ∧
      s.staleAll.status = s.status := by
  and_intros <;> rfl

@[simp] theorem failLaunch_frame (c : CommandTag) (e : ErrorCode) (s : State) :
    SameOutside s (s.failLaunch c e) ∧ SameCapture s (s.failLaunch c e) ∧
      SameLink s (s.failLaunch c e) ∧ PathUnit.SameButOther s.path (s.failLaunch c e).path ∧
      (s.failLaunch c e).mbox.running = s.mbox.running ∧
      (s.failLaunch c e).mbox.staging = s.mbox.staging ∧
      (s.failLaunch c e).mbox.abortNote = s.mbox.abortNote ∧ (s.failLaunch c e).status = s.status := by
  and_intros <;> rfl

@[simp] theorem flushOne_frame (h : Held) (s : State) :
    SameCapture s (s.flushOne h) ∧ SameLink s (s.flushOne h) ∧
      PathUnit.SameButQueues s.path (s.flushOne h).path ∧
      StatusUnit.SameButRaised s.status (s.flushOne h).status ∧ (s.flushOne h).straps = s.straps ∧
      (s.flushOne h).path.hold = s.path.hold ∧ (s.flushOne h).mbox = s.mbox ∧
      (s.flushOne h).free = s.free ∧ (s.flushOne h).pending = s.pending := by
  unfold State.flushOne
  (repeat' split) <;> simp

@[simp] theorem foldl_flushOne_frame (l : List Held) (s : State) :
    SameCapture s (l.foldl (fun t h => t.flushOne h) s) ∧
      SameLink s (l.foldl (fun t h => t.flushOne h) s) ∧
      PathUnit.SameButQueues s.path (l.foldl (fun t h => t.flushOne h) s).path ∧
      StatusUnit.SameButRaised s.status (l.foldl (fun t h => t.flushOne h) s).status ∧
      (l.foldl (fun t h => t.flushOne h) s).straps = s.straps ∧
      (l.foldl (fun t h => t.flushOne h) s).path.hold = s.path.hold ∧
      (l.foldl (fun t h => t.flushOne h) s).mbox = s.mbox ∧
      (l.foldl (fun t h => t.flushOne h) s).free = s.free ∧
      (l.foldl (fun t h => t.flushOne h) s).pending = s.pending := by
  and_intros <;> (induction l generalizing s with
    | nil => rfl
    | cons x l ih => exact (ih _).trans (by simp))

@[simp] theorem flushHold_frame (s : State) :
    SameCapture s s.flushHold ∧ SameLink s s.flushHold ∧
      PathUnit.SameButQueues s.path s.flushHold.path ∧
      StatusUnit.SameButRaised s.status s.flushHold.status ∧ s.flushHold.straps = s.straps ∧
      s.flushHold.mbox = s.mbox ∧ s.flushHold.free = s.free ∧ s.flushHold.pending = s.pending := by
  unfold State.flushHold
  simp

@[simp] theorem takeRestart_frame (s : State) :
    s.takeRestart.straps = s.straps ∧ s.takeRestart.stitch.nextEntry = s.stitch.nextEntry ∧
      s.takeRestart.free = s.free ∧ s.takeRestart.pending = s.pending := by
  unfold State.takeRestart
  simp

/-- Right after a restart word 0 of the status block is what `initWrite` writes (R162). -/
theorem issueStatus_zero_after_restart (s : State) (a : Bool) (c : FrameCount)
    (cs : Nat × Nat)
    (hm : s.path.mode = .initializing)
    (hl : s.link = { LinkUnit.cleared (if a then .probing else .down) a c with cells := cs }) :
    s.issueStatus 0 =
      s.updPath fun p => { p with other := p.other ++ [initWrite s.straps (if a then 1 else 0) a] } := by
  have hw : wordBytes (s.statusWord (0 : Fin 32).val) =
      [0, (if a then 1 else 0 : BitVec 8), if a then 1 else 0, 3, 0, 0, 0, 0] := by
    have : s.statusWord (0 : Fin 32).val = if a then 0x03010100 else 0x03000000 := by
      show State.statusWord s 0 = _
      unfold State.statusWord
      simp only [hm, hl]
      cases a <;> simp [LinkUnit.cleared, LinkState.code, Rate.code, flag, atBit]
    rw [this]; cases a <;> decide
  unfold State.issueStatus State.issueWrite initWrite
  rw [hw]; rfl

/-- What a restart makes of each block (R19, R33, R54, R76, R94, R120, R122, R145, R168). -/
@[simp] theorem takeRestart_blocks (s : State) :
    s.takeRestart.path.mode = .initializing ∧
      s.takeRestart.path.egress = (s.path.egress.filter (fun q => !q.isRead)).map OwnRequest.retired ∧
      s.takeRestart.path.other =
        (s.path.other.filter (fun q => !q.isRead)).map OwnRequest.retired ++
          [initWrite s.straps (if s.straps.autolink then 1 else 0) s.straps.autolink] ∧
      s.takeRestart.path.lastSide = .own ∧ s.takeRestart.path.forwarded = s.path.forwarded ∧
      s.takeRestart.path.ownOut = s.path.ownOut.map OwnRequest.retired ∧
      s.takeRestart.map = s.map.restarted ∧ s.takeRestart.tracker = Tracker.empty ∧
      s.takeRestart.stitch.entries = [] ∧
      s.takeRestart.sched = Scheduler.empty s.sched.nextJob s.sched.nextParcel ∧
      s.takeRestart.rings = RingUnit.empty s.rings.nextSerial ∧
      s.takeRestart.link = s.link.restarted s.straps.autolink ∧
      s.takeRestart.mbox = s.mbox.restarted ∧ s.takeRestart.status.enable = 0 ∧
      s.takeRestart.status.launchLost = false ∧ s.takeRestart.status.paramTorn = false ∧
      s.takeRestart.status.inboundFull = false ∧ s.takeRestart.status.due = [] ∧
      s.takeRestart.status.snapshot = none := by
  unfold State.takeRestart
  dsimp only
  rw [issueStatus_zero_after_restart _ s.straps.autolink s.link.count s.link.cells rfl
    (by simp [LinkUnit.restarted])]
  and_intros <;> simp [PathUnit.restarted, Mailbox.restarted, StatusUnit.empty]

@[simp] theorem launchRestart_frame (t : BitVec 8) (s : State) :
    (s.launchRestart t).straps = s.straps ∧
      (s.launchRestart t).stitch.nextEntry = s.stitch.nextEntry ∧
      (s.launchRestart t).free = s.free ∧ (s.launchRestart t).pending = s.pending := by
  unfold State.launchRestart
  (repeat' split) <;> simp

@[simp] theorem pinRestart_frame (s : State) :
    s.pinRestart.straps = s.straps ∧ s.pinRestart.stitch.nextEntry = s.stitch.nextEntry ∧
      s.pinRestart.free = s.free ∧ s.pinRestart.pending = s.pending := by
  unfold State.pinRestart
  (repeat' split) <;> simp

@[simp] theorem initDone_frame (s : State) :
    SameOutside s s.initDone ∧ SameCapture s s.initDone ∧ SameLink s s.initDone ∧
      StatusUnit.SameFlags s.status s.initDone.status ∧ PathUnit.SameOut s.path s.initDone.path ∧
      s.initDone.path.waiting = s.path.waiting ∧ s.initDone.path.pass = s.path.pass ∧
      s.initDone.path.hold = s.path.hold ∧ s.initDone.path.egress = s.path.egress ∧
      s.initDone.path.guard = s.path.guard ∧ s.initDone.mbox.slots = s.mbox.slots ∧
      s.initDone.mbox.staging = s.mbox.staging ∧ s.initDone.status.events = s.status.events ∧
      s.initDone.status.enable = s.status.enable ∧ s.initDone.status.counters = s.status.counters ∧
      s.initDone.status.snapshot = s.status.snapshot := by
  unfold State.initDone
  dsimp only
  (repeat' split) <;> simp

@[simp] theorem writeAccepted_frame (w : Owner) (s : State) :
    SameCapture s (s.writeAccepted w) ∧ PathUnit.SameButOther s.path (s.writeAccepted w).path ∧
      Mailbox.SameButRunning s.mbox (s.writeAccepted w).mbox ∧
      StatusUnit.SameFlags s.status (s.writeAccepted w).status ∧
      (s.writeAccepted w).straps = s.straps ∧ (s.writeAccepted w).sched = s.sched ∧
      (s.writeAccepted w).rings.outbound = s.rings.outbound ∧
      (s.writeAccepted w).rings.nextSerial = s.rings.nextSerial ∧
      (s.writeAccepted w).link = s.link ∧ (s.writeAccepted w).status.enable = s.status.enable ∧
      (s.writeAccepted w).status.due = s.status.due ∧
      (s.writeAccepted w).status.counters = s.status.counters ∧ (s.writeAccepted w).out = s.out ∧
      (s.writeAccepted w).pending = s.pending := by
  unfold State.writeAccepted
  (repeat' split) <;> simp

@[simp] theorem ownAnswered_frame (q : OwnRequest) (e : Bool) (s : State) :
    SameCapture s (s.ownAnswered q e) ∧ PathUnit.SameButOther s.path (s.ownAnswered q e).path ∧
      Mailbox.SameButRunning s.mbox (s.ownAnswered q e).mbox ∧
      StatusUnit.SameFlags s.status (s.ownAnswered q e).status ∧
      (s.ownAnswered q e).straps = s.straps ∧ (s.ownAnswered q e).sched = s.sched ∧
      (s.ownAnswered q e).rings.outbound = s.rings.outbound ∧
      (s.ownAnswered q e).rings.nextSerial = s.rings.nextSerial ∧
      (s.ownAnswered q e).link = s.link ∧ (s.ownAnswered q e).status.enable = s.status.enable ∧
      (s.ownAnswered q e).status.due = s.status.due ∧
      (s.ownAnswered q e).status.counters = s.status.counters ∧ (s.ownAnswered q e).out = s.out ∧
      (s.ownAnswered q e).pending = s.pending := by
  unfold State.ownAnswered
  (repeat' split) <;> simp

@[simp] theorem answered_frame (f : Forwarded) (e : Bool) (d : List Byte) (s : State) :
    SameLink s (s.answered f e d) ∧
      StatusUnit.SameButCounters s.status (s.answered f e d).status ∧
      (s.answered f e d).straps = s.straps ∧ (s.answered f e d).path = s.path ∧
      (s.answered f e d).map = s.map ∧ (s.answered f e d).tracker = s.tracker ∧
      (s.answered f e d).stitch.nextEntry = s.stitch.nextEntry ∧ (s.answered f e d).mbox = s.mbox ∧
      (s.answered f e d).free = s.free ∧ (s.answered f e d).pending = s.pending := by
  unfold State.answered
  (repeat' split) <;> simp

@[simp] theorem watchWrite_frame (a : Nat) (v : Word) (s : State) :
    LinkUnit.SameButDrop s.link (s.watchWrite a v).link ∧
      Mailbox.SameButRunning s.mbox (s.watchWrite a v).mbox ∧
      StatusUnit.SameButRaised s.status (s.watchWrite a v).status ∧
      Scheduler.SamePlan s.sched (s.watchWrite a v).sched ∧
      PathUnit.SameOut s.path (s.watchWrite a v).path ∧ (s.watchWrite a v).straps = s.straps ∧
      (s.watchWrite a v).path.mode = s.path.mode ∧
      (s.watchWrite a v).path.waiting = s.path.waiting ∧ (s.watchWrite a v).map = s.map ∧
      (s.watchWrite a v).sched.hold = s.sched.hold ∧
      (s.watchWrite a v).sched.nextParcel = s.sched.nextParcel ∧
      (s.watchWrite a v).rings.ret = s.rings.ret ∧ (s.watchWrite a v).free = s.free ∧
      (s.watchWrite a v).pending = s.pending := by
  unfold State.watchWrite
  (repeat' split) <;> simp

@[simp] theorem effect_frame (c : Command) (p : Params) (s : State) :
    SameOutside s (c.effect p s).1 ∧ PathUnit.SameButOwn s.path (c.effect p s).1.path ∧
      Scheduler.SameButSession s.sched (c.effect p s).1.sched ∧
      LinkUnit.SameDrop s.link (c.effect p s).1.link ∧
      StatusUnit.SameFlags s.status (c.effect p s).1.status ∧
      (c.effect p s).1.stitch.nextEntry = s.stitch.nextEntry ∧
      (c.effect p s).1.link.rate = s.link.rate ∧ (c.effect p s).1.link.count = s.link.count ∧
      (c.effect p s).1.link.tally = s.link.tally ∧
      (c.effect p s).1.link.returnTaken = s.link.returnTaken ∧
      (c.effect p s).1.link.cells = s.link.cells ∧ (c.effect p s).1.mbox.slots = s.mbox.slots ∧
      (c.effect p s).1.mbox.abortNote = s.mbox.abortNote ∧
      (c.effect p s).1.status.due = s.status.due := by
  and_intros <;> (unfold Command.effect; split <;> simp [completes])

@[simp] theorem accept_frame (c : Command) (t : BitVec 8) (s : State) :
    SameOutside s (s.accept c t) ∧ PathUnit.SameButOwn s.path (s.accept c t).path ∧
      Scheduler.SameButSession s.sched (s.accept c t).sched ∧
      LinkUnit.SameDrop s.link (s.accept c t).link ∧
      StatusUnit.SameFlags s.status (s.accept c t).status ∧
      (s.accept c t).stitch.nextEntry = s.stitch.nextEntry ∧
      (s.accept c t).link.rate = s.link.rate ∧ (s.accept c t).link.count = s.link.count ∧
      (s.accept c t).link.tally = s.link.tally ∧
      (s.accept c t).link.returnTaken = s.link.returnTaken ∧
      (s.accept c t).link.cells = s.link.cells ∧ (s.accept c t).mbox.abortNote = s.mbox.abortNote ∧
      (s.accept c t).status.due = s.status.due := by
  and_intros <;> (unfold State.accept; dsimp only; split <;> (rename_i u _ h; have hf := congrArg Prod.fst h; dsimp only at hf; subst hf; simp))

@[simp] theorem judge_frame (c : BitVec 8) (n : BitVec 4) (t : BitVec 8) (s : State) :
    (s.judge c n t).straps = s.straps ∧ (s.judge c n t).stitch.nextEntry = s.stitch.nextEntry ∧
      (s.judge c n t).free = s.free ∧ (s.judge c n t).pending = s.pending := by
  unfold State.judge
  (repeat' split) <;> simp

@[simp] theorem launch_frame (c : BitVec 8) (n : BitVec 4) (t : BitVec 8) (s : State) :
    (s.launch c n t).straps = s.straps ∧ (s.launch c n t).stitch.nextEntry = s.stitch.nextEntry ∧
      (s.launch c n t).free = s.free ∧ (s.launch c n t).pending = s.pending := by
  unfold State.launch
  (repeat' split) <;> simp

@[simp] theorem runTap_frame (r : Request) (t : Tap) (s : State) :
    (s.runTap r t).straps = s.straps ∧ (s.runTap r t).free = s.free ∧
      (s.runTap r t).pending = s.pending := by
  unfold State.runTap
  (repeat' split) <;> simp

@[simp] theorem runTaps_frame (r : Request) (l : List Tap) (s : State) :
    (runTaps r l s).straps = s.straps ∧ (runTaps r l s).free = s.free ∧
      (runTaps r l s).pending = s.pending := by
  and_intros <;> (induction l generalizing s with
    | nil => rfl
    | cons t l ih => (unfold runTaps; dsimp only; split <;> simp [ih]))

@[simp] theorem forwardHead_frame (s : State) :
    s.forwardHead.straps = s.straps ∧ s.forwardHead.free = s.free ∧
      s.forwardHead.pending = s.pending := by
  unfold State.forwardHead
  (repeat' split) <;> simp

end Sys2Proof.Machine
end

