-- ==== Sys2Proof/Laws/Launch.lean ====
section
/-!
SUPPORT. What a command that is one change answers, and what an accepted launch does: the equations that
a proof about a command of the mailbox begins with.
-/

namespace Sys2Proof.Machine

/-- A command that is one change answers that change, but for the due list. -/
theorem changeIn_answers (o : WordOrder) (f : State → State) (s : State) :
    ∃ due, changeIn o f s = .next { f s with status := { (f s).status with due := due } } := by
  obtain ⟨due, h⟩ := noteChanges_eq (o s (f s)) s (f s)
  exact ⟨due, by rw [changeIn_eq]; exact congrArg _ h⟩

/-- The same of a command whose words become due ascending. -/
theorem change_answers (f : State → State) (s : State) :
    ∃ due, change f s = .next { f s with status := { (f s).status with due := due } } :=
  changeIn_answers ascending f s

/-- While no request waits, the port takes none. -/
theorem takeWaiting_of_nil {s : State} (h : s.path.waiting = []) : s.takeWaiting = s := by
  unfold State.takeWaiting; rw [h]; rfl

/-- A status word reads the mode, the guard fault record, the capture and link sides, and the status unit's
events, enable set and flags, and nothing else (R161). -/
theorem statusWord_congr {s t : State} (n : Nat) (hm : t.path.mode = s.path.mode)
    (hg : t.path.guard = s.path.guard) (hk : t.tracker = s.tracker) (he : t.stitch = s.stitch)
    (hs : t.sched = s.sched) (hr : t.rings = s.rings) (hl : t.link = s.link)
    (hv : t.status.events = s.status.events) (hb : t.status.enable = s.status.enable)
    (h1 : t.status.launchLost = s.status.launchLost) (h2 : t.status.paramTorn = s.status.paramTorn)
    (h3 : t.status.inboundFull = s.status.inboundFull) : t.statusWord n = s.statusWord n := by
  unfold State.statusWord
  rw [hm, hg, hk, he, hs, hr, hl, hv, hb, h1, h2, h3]

/-- Each command's code is its own. -/
@[simp] theorem ofCode_code (c : Command) : Command.ofCode c.code = some c := by cases c <;> rfl

/-- No command has the code 0 (R148). -/
theorem code_ne_zero (c : Command) : c.code ≠ 0 := by cases c <;> decide

/-- The running command after a launch of `c`, if `c` is the one launched. -/
theorem isRunning_iff (s : State) (c : Command) :
    s.isRunning c = true ↔ ∃ r, s.mbox.running = some r ∧ r.code = c.code := by
  unfold State.isRunning
  cases s.mbox.running <;> simp

/-- A launch that is accepted is carried out (R150, R151). -/
theorem launch_of_accepts {s : State} {c : Command} {count : BitVec 4} (tag : BitVec 8)
    (h : s.Accepts c count) (hc : c ≠ .restart) : s.launch c.code count tag = s.accept c tag := by
  obtain ⟨hm, hr, hn, ha, hk⟩ := h
  have h0 : ¬(s.path.mode = .initializing ∨ c.code = 0) := fun h =>
    h.elim (by simp [hm]) (code_ne_zero c)
  unfold State.launch
  rw [if_neg h0, hr]
  unfold State.judge
  simp only [ofCode_code, hn, ne_eq, not_true_eq_false, if_false, ha, hk, Bool.false_eq_true]
  cases c <;> first | rfl | exact absurd rfl hc

/-- What an accepted launch has done before its command's effect: every slot STALE, the command RUNNING,
and its RUNNING result word (R151). -/
def State.begun (c : Command) (tag : BitVec 8) (s : State) : State :=
  { s with
    mbox := s.mbox.staled (some { code := c.code, tag })
    path := { s.path with other := s.path.other ++ [runningWrite s c tag] } }

/-- An accepted command is its effect on the begun state, and its end if it completes at once. -/
theorem accept_eq (c : Command) (tag : BitVec 8) (s : State) :
    s.accept c tag =
      match c.effect s.mbox.params (s.begun c tag) with
      | (u, some data) => u.finish .noError data
      | (u, none) => u := rfl

/-- A command that completes at once ends with its result data and DONE (R151, R152). -/
theorem accept_completes {c : Command} {tag : BitVec 8} {s u : State} {data : List Word}
    (h : c.effect s.mbox.params (s.begun c tag) = (u, some data))
    (hm : u.mbox = s.mbox.staled (some { code := c.code, tag })) (hs : u.straps = s.straps) :
    s.accept c tag =
      { u with
        mbox := s.mbox.staled none
        path := { u.path with other := u.path.other ++ finalWrites s c.code tag .noError data } } := by
  rw [accept_eq, h]
  show u.finish .noError data = _
  unfold State.finish
  rw [hm]
  show State.updMbox _ (State.issueResult _ _ _ _ (State.issueData data u)) = _
  simp only [State.issueData, State.issueResult, State.issueWrite, State.updPath, State.updMbox, hm, hs,
    finalWrites, resultDataWrite, resultWordWrite, Mailbox.staled, List.append_assoc, List.cons_append,
    List.nil_append, if_true]

end Sys2Proof.Machine
end

