-- ==== Sys2Proof/Tests/Slice0.lean ====
section
/-!
SUPPORT. Small checks of the model: the shape check refuses ill-formed commands, one or two steps for
each command on a small state, and for each statement with hypotheses a state and operands that meet
them.
-/

set_option Elab.async false

namespace Sys2Proof.Tests

open Sys2Proof Sys2Proof.Machine

/-! ### Small states -/

/-- READY, with nothing waiting. -/
def rdy : State := { State.reset with path := { State.reset.path with mode := .ready, other := [] } }

/-- The state after a command, or the same state where it stops. -/
def after (c : Instr) (s : State) : State :=
  match exec c s with
  | .next t => t
  | _ => s

/-- Whether a command answers a next state of which `p` holds. -/
def runs (c : Instr) (s : State) (p : State → Bool) : Bool :=
  match exec c s with
  | .next t => p t
  | _ => false

/-- A parameter slot FRESH with a value. -/
def slot (i : Fin 8) (v : Word) (s : State) : State :=
  { s with mbox := { s.mbox with slots := s.mbox.slots.set i { value := v, fresh := true } } }

/-- The link in a state, enabled. -/
def linked (st : LinkState) (s : State) : State :=
  { s with link := { s.link with state := st, enabled := true, rate := .full } }

/-- A command RUNNING. -/
def busy (c : Command) (s : State) : State :=
  { s with mbox := { s.mbox with running := some { code := c.code, tag := 7 } } }

/-- A CAPTURE window of 2 lines of 16 bytes in each of 2 slots. -/
def window0 : Window :=
  { kind := .capture, base := 0x1000, size := 0x1000, writers := 0x0002, readers := 0x0002, locked := false,
    segLen := 16, pitch := 16, stride := 256 }

/-- A state with `window0` at index 0. -/
def mapped (s : State) : State := { s with map := { s.map with windows := s.map.windows.set 0 window0 } }

/-- An OPEN stream of one window, with mark word 0x9000. -/
def streaming (s : State) : State :=
  { mapped s with
    tracker :=
      { Tracker.empty with
        stream :=
          { state := .openState, windows := [0], lines := 2, slotCount := 2, timeout := 3, holdLimit := 2,
            markWord := 0x9000, linePayload := 16 } } }

/-- A stream with frame 5 in slot 0. -/
def framed (s : State) : State := after (.frameMark 0x9000 0x00000005) (streaming s)

/-- A write of 16 bytes to line `l` of slot `k` of `window0`. -/
def lineWrite (k l : Nat) : Request :=
  { addr := BitVec.ofNat 40 (0x1000 + 256 * k + 16 * l), initiator := 1, access := .write (List.replicate 16 0xAA) }

/-- A read of 8 bytes. -/
def readAt (a : Nat) (i : BitVec 4) : Request := { addr := BitVec.ofNat 40 a, initiator := i, access := .read 8 }

/-- A write of one word. -/
def writeAt (a : Nat) (i : BitVec 4) (v : Word) : Request :=
  { addr := BitVec.ofNat 40 a, initiator := i, access := .write (wordBytes v) }

/-- Held requests, as many as named, of initiator 1, with the deadline 0. -/
def held (n : Nat) (s : State) : State :=
  { s with
    path :=
      { s.path with
        hold := (List.range n).map (fun k =>
          { request := readAt 0x5000 1, role := if k = 0 then .leader else .follower, entry := 0,
            deadline := 0 }) } }

/-- A send record of 40 bytes. -/
def record : SendRecord :=
  { serial := 0, length := 40, tag := 1, retry := 1, attention := true, buffer := 0x8000 }

/-- Outbound ring 0 bound, of a kind, with a head record, two records pending. -/
def ringed (k : RingKind) (h : HeadRecord) (s : State) : State :=
  { s with
    rings :=
      { s.rings with
        outbound := s.rings.outbound.set 0
          { OutRing.unbound with
            state := .active, kind := k, count := 4, base := 0x4000, producerWord := some 0x6000
            consumerWord := some 0x6008, producerSeen := 2, head := h, sendCount := 1 } } }

/-- Inbound ring 0 bound with 4 slots, of which `n` are occupied. -/
def inringed (n : Nat) (s : State) : State :=
  { s with
    rings :=
      { s.rings with
        inbound := s.rings.inbound.set 0
          { InRing.unbound with
            state := .active, count := 4, base := 0x10000, producerWord := some 0x6010
            consumerWord := some 0x6018, producer := BitVec.ofNat 16 n } } }

/-- A good return header for the frame of count 0: READY or not, a tally word, a base error count. -/
def header (ready : Bool) (tally errors : Byte) : List Byte :=
  withCheck (padTo 28 [0x04, 0, if ready then 1 else 0, tally, 0, 0, 0, 0, 0, 0, errors])

/-- A CMSG of 8 bytes. -/
def message : Cmsg :=
  { toggle := true, sync := false, poison := false, tag := 3, payload := List.replicate 8 0x11 }

/-- A parcel of an absent run, and a piece whose fetch is pending. -/
def runParcel : Parcel := { id := 0, body := .absentRun 0 5 0 0 2, fetch := .notNeeded, poison := false }
def pieceParcel : Parcel :=
  { id := 1, body := .piece 0 5 0 0 .whole [0] 0 0 16 true true, fetch := .pending, poison := false }

/-- A LINE job. -/
def lineJob : Job := { id := 0, frame := 5, slot := 0, body := .line 0 .whole [0] 0 0, placing := .placed }

/-- An own write outstanding, and an own read. -/
def ownWrite (o : Owner) : OwnRequest := { owner := o, addr := 0, access := .write [1], live := true }
def ownRead (o : Owner) : OwnRequest := { owner := o, addr := 0, access := .read 64, live := true }

/-- A ring parcel of outbound ring 0 whose fetch is pending. -/
def ringParcel : Parcel :=
  { id := 1, body := .ring 0 0 1 40 0x8000 false false, fetch := .pending, poison := false }

/-- A piece of 16 bytes for line 1 of buffer 1 of the return picture. -/
def returnPiece : Piece :=
  { buffer := true, line := 1, offset := 0, last := true, poison := false, payload := List.replicate 16 0x22 }

/-- A bound return picture with a due done word and landing writes outstanding in buffer 1. -/
def returning (left : Nat) (due : Option (BitVec 16 × Nat)) (s : State) : State :=
  { s with
    rings :=
      { s.rings with
        ret :=
          { ReturnBinding.unbound with
            bound := true, base := 0x20000, pitch := 64, lines := 2, stride := 256, doneWord := some 0x7000
            serial := 4, buffer1 := { completed := 1, left, due } } } }

/-- Own requests outstanding. -/
def outstanding (l : List OwnRequest) (s : State) : State := { s with path := { s.path with ownOut := l } }

/-! ### The shape check refuses -/

theorem test_wf_refuses_empty_request :
    (Instr.upstreamRequest { addr := 0, initiator := 0, access := .read 0 }).wf = false := by decide

theorem test_wf_refuses_long_request :
    (Instr.upstreamRequest { addr := 0, initiator := 0, access := .read 257 }).wf = false := by decide

theorem test_wf_refuses_crossing_request :
    (Instr.upstreamRequest { addr := 255, initiator := 0, access := .read 2 }).wf = false := by decide

theorem test_wf_refuses_capture_read :
    (Instr.captureWrite 0 0 { addr := 0, initiator := 0, access := .read 8 }).wf = false := by decide

theorem test_wf_refuses_code_zero : (Instr.unknownOp 0 0 0).wf = false := by decide

theorem test_wf_refuses_known_code : (Instr.unknownOp 0x11 0 0).wf = false := by decide

theorem test_wf_accepts_boundaries :
    (Instr.upstreamRequest { addr := 0, initiator := 0, access := .read 256 }).wf = true ∧
      (Instr.upstreamRequest { addr := 255, initiator := 0, access := .read 1 }).wf = true ∧
      (Instr.unknownOp 0x12 0 0).wf = true := by decide

/-- No row of the table gives bits. -/
theorem test_table_words_spell_nothing : decodeTableWord 8 0 = none := rfl

/-! ### The check over headers and parcels -/

/-- The value that every table of this check gives for the nine digits (R135). -/
theorem test_check_of_nine_digits :
    linkCheck [0x31, 0x32, 0x33, 0x34, 0x35, 0x36, 0x37, 0x38, 0x39] = 0xCBF43926 := by decide +kernel

/-! ### One step of each command -/

theorem test_power_on_reset :
    runs (.powerOnReset 3 2 true) rdy (fun t => decide (t.straps.mbsel = 3 ∧ t.link.enabled = true ∧
      t.path.mode = .initializing ∧ t.path.other.length = 1)) = true := by decide +kernel

theorem test_restart_pin_aborts_running :
    runs .restartN (busy .closeStream rdy) (fun t => decide (t.mbox.running = none ∧
      t.path.other.length = 2)) = true := by decide +kernel

theorem test_init_completion :
    runs .initCompletion State.reset (fun t => decide (t.path.mode = .ready ∧
      t.path.other.length = 2)) = true := by decide +kernel

theorem test_request_passes :
    runs (.upstreamRequest (readAt 0x5000 1)) rdy (fun t => decide (t.path.pass.length = 1)) = true := by
  decide +kernel

theorem test_request_of_id_15_is_blocked :
    runs (.upstreamRequest (readAt 0x5000 15)) rdy (fun t => decide (t.out = [.answer 15 true []] ∧
      t.status.events = 0x100 ∧ t.status.due = [15, 17, 18])) = true := by decide +kernel

theorem test_launch_is_tapped_and_carried_out :
    runs .forwarding (after (.upstreamRequest (writeAt 0xFFFFF00040 0 0x10004)) rdy)
      (fun t => decide (t.map.cursor = 32 ∧ t.path.other.length = 3)) = true := by decide +kernel

theorem test_hold_expiry :
    runs (.holdExpiry 1) (held 2 rdy) (fun t => decide (t.path.hold = [] ∧ t.path.pass.length = 2)) = true := by
  decide +kernel

theorem test_own_grant :
    runs .ownRequestGrant (after .initCompletion State.reset)
      (fun t => decide (t.path.ownOut.length = 1 ∧ t.path.lastSide = .own)) = true := by decide +kernel

theorem test_response_returned :
    runs (.downstreamResponse 0 false [9]) (after .forwarding (after (.upstreamRequest (readAt 0x5000 1)) rdy))
      (fun t => decide (t.out = [.forward (readAt 0x5000 1), .answer 1 false [9]])) = true := by
  decide +kernel

theorem test_result_acceptance_raises_cmd_done :
    runs (.ownWriteAccepted 0 false) (outstanding [ownWrite (.resultWord true)] rdy)
      (fun t => decide (t.status.events = 0x001)) = true := by decide +kernel

theorem test_capture_write_fills_the_line :
    runs (.captureWrite 0 0 (lineWrite 0 0)) (framed rdy)
      (fun t => decide (t.stitch.entries.map LineEntry.state = [.whole])) = true := by decide +kernel

theorem test_capture_write_far_outside_is_stray :
    runs (.captureWrite 0 0 (lineWrite 2 0)) (framed rdy)
      (fun t => decide (t.counter (.strayWrites 0) = 1)) = true := by decide +kernel

theorem test_stitch_deadline_settles_absent :
    runs (.stitchDeadline 0 0) { framed rdy with link := { rdy.link with count := 3 } }
      (fun t => decide (t.stitch.entries.map LineEntry.state = [.absent])) = true := by decide +kernel

theorem test_frame_mark_accepted :
    runs (.frameMark 0x9000 0x00010007) (streaming rdy)
      (fun t => decide (t.tracker.newest = some 7 ∧ t.tracker.frames.length = 1 ∧
        t.stitch.entries.length = 1)) = true := by decide +kernel

theorem test_frame_mark_repeated_is_stale :
    runs (.frameMark 0x9000 0x00000005) (framed rdy)
      (fun t => decide (t.counter .staleMarks = 1 ∧ t.tracker.frames.length = 1)) = true := by decide +kernel

/-- A line that is whole. -/
def settledLine (s : State) : State := after (.captureWrite 0 0 (lineWrite 0 0)) (framed s)

theorem test_release_up_appends :
    runs .release (settledLine (linked .up rdy))
      (fun t => decide (t.sched.queue.length = 1 ∧ t.tracker.cursor = 1)) = true := by decide +kernel

theorem test_release_down_sinks :
    runs .release (settledLine rdy)
      (fun t => decide (t.sched.queue = [] ∧ t.counter .jobsSunk = 1 ∧ t.counter .linesWhole = 1)) = true := by
  decide +kernel

/-- A head frame whose cursor has passed its last line. -/
def endedFrame (s : State) : State :=
  { framed s with
    tracker :=
      { (framed s).tracker with
        frames := [{ frame := 5, slot := 0, cursor := 2, whole := 1, torn := 0, absent := 1 }] } }

theorem test_frame_end :
    runs .frameEnd (endedFrame (linked .up rdy))
      (fun t => decide (t.tracker.frames = [] ∧ t.sched.queue.length = 1)) = true := by decide +kernel

theorem test_link_frame_start_probes :
    runs .linkFrameStart (linked .down rdy)
      (fun t => decide (t.link.count = 1 ∧ t.link.state = .probing ∧ t.out.length = 1)) = true := by
  decide +kernel

/-- UP with a change at its effective count. -/
def changing (c : Change) (echoed : Bool) (s : State) : State :=
  { linked .up s with
    link := { (linked .up s).link with change := some { change := c, effective := 0, echoed } } }

theorem test_rate_change :
    runs .rateChangeEffect (changing (.rate .half) false rdy)
      (fun t => decide (t.link.rate = .half ∧ t.counter .rateStepDowns = 1)) = true := by decide +kernel

theorem test_split_change :
    runs .splitChangeEffect (busy .setSplit (changing (.split 100 100) true rdy))
      (fun t => decide (t.link.splitF = 100 ∧ t.mbox.running = none ∧ t.path.other.length = 2)) = true := by
  decide +kernel

/-- A piece in the window whose fetch is in flight. -/
def fetching (s : State) : State :=
  { outstanding [ownRead (.payload 1)] s with
    sched := { s.sched with window := [pieceParcel], queue := [lineJob] } }

/-- A frame whose lines have all finished, with its FRAME_END due. -/
def finishedFrame (s : State) : State :=
  { endedFrame s with
    tracker :=
      { (endedFrame s).tracker with
        slots := (endedFrame s).tracker.slots.set 0 { frame := some 5, unfinished := 0 } } }

theorem test_mark_takes_due_frame_end_first :
    runs (.frameMark 0x9000 0x00000006) (finishedFrame (linked .up rdy))
      (fun t => decide (t.tracker.frames.map FrameRecord.frame = [6] ∧ t.sched.queue.length = 1 ∧
        t.counter .framesDropped = 0)) = true := by decide +kernel

theorem test_cells_stay_until_the_next_start :
    runs (.linkControlRetrain 1 1) (slot 0 3 (after .linkFrameStart (linked .up rdy)))
      (fun t => decide (t.link.state = .probing ∧ t.link.cells = (1024, 256) ∧ t.statusWord 1 =
        BitVec.ofNat 64 (1024 + 65536 * 256 + 4294967296 * 1024 + 281474976710656 * 256))) = true := by
  decide +kernel

theorem test_payload_arrives :
    runs (.payloadFetchComplete 1 false [1, 2]) (fetching rdy)
      (fun t => decide (t.sched.window.map Parcel.fetch = [.complete (padTo 16 [1, 2])])) = true := by
  decide +kernel

theorem test_parcel_sent :
    runs .parcelSent { rdy with sched := { rdy.sched with window := [runParcel] } }
      (fun t => decide (t.sched.window = [] ∧ t.out.length = 1)) = true := by decide +kernel

theorem test_return_window_trains :
    runs (.returnWindowArrival (some (header true 9 0)) []) (linked .probing rdy)
      (fun t => decide (t.link.move = some .training ∧ t.link.tally = 9)) = true := by decide +kernel

theorem test_return_window_lost :
    runs (.returnWindowArrival none []) (linked .up rdy)
      (fun t => decide (t.link.lossRun = 1 ∧ t.counter .returnHeaderErrors = 1)) = true := by decide +kernel

/-- The link with one of its counts at its limit. -/
def probed (s : State) : State :=
  { linked .probing s with link := { (linked .probing s).link with probeFrames := 64 } }
def tried (base : Nat) (r : Rate) (s : State) : State :=
  { linked .training s with
    link :=
      { (linked .training s).link with
        trialRate := some r, trialFrame := 15, trialBaseErrors := base, returnTaken := true } }
def monitored (errors : Nat) (s : State) : State :=
  { linked .up s with
    link := { (linked .up s).link with monitorFrames := 256, monitorErrors := errors } }
def losing (st : LinkState) (s : State) : State :=
  { linked st s with link := { (linked st s).link with lossRun := 8 } }

theorem test_probe_cycle :
    runs .probeCycle (probed rdy) (fun t => decide (t.link.probeCycles = 1 ∧ t.link.probeFrames = 0)) = true := by
  decide +kernel

theorem test_trial_end :
    runs .trialEnd (tried 1 .full rdy) (fun t => decide (t.link.move = some .up)) = true ∧
      runs .trialEnd (tried 2 .full rdy) (fun t => decide (t.link.move = some (.trial .threeQuarter))) = true ∧
      runs .trialEnd (tried 2 .quarter rdy) (fun t => decide (t.counter .trainingFailures = 1)) = true := by
  decide +kernel

theorem test_monitor_block :
    runs .monitorBlockJudgement (monitored 8 rdy)
      (fun t => decide (t.link.change.map PendingChange.effective = some 8 ∧ t.link.monitorErrors = 0)) = true ∧
      runs .monitorBlockJudgement (monitored 7 rdy) (fun t => decide (t.link.change = none)) = true := by
  decide +kernel

theorem test_link_loss :
    runs .linkLoss (losing .up rdy)
      (fun t => decide (t.link.state = .probing ∧ t.counter .linkLosses = 1)) = true := by decide +kernel

/-- A reliable record in flight for 4 link frames. -/
def waitingAck (sends : Nat) (s : State) : State :=
  let t := ringed .reliable (.inFlight record) (linked .up s)
  { t with
    link := { t.link with count := 4 }
    rings :=
      { t.rings with outbound := t.rings.outbound.set 0 { t.rings.outbound[0] with sendCount := sends } } }

theorem test_ack_timeout_resends :
    runs (.ackTimeout 0) (waitingAck 1 rdy)
      (fun t => decide ((t.rings.outbound[0]).head = .ready record)) = true := by decide +kernel

theorem test_ack_timeout_fails :
    runs (.ackTimeout 0) (waitingAck 2 rdy)
      (fun t => decide ((t.rings.outbound[0]).state = .halted ∧ (t.rings.outbound[0]).cause = .failed)) = true := by
  decide +kernel

/-- A record fetch outstanding. -/
def fetchingRecord (s : State) : State :=
  outstanding [ownRead (.recordFetch 0 0)] (ringed .plain (.fetching 0) s)

theorem test_record_fetched :
    runs (.recordFetchResponse 0 false [40, 0, 1, 0x81]) (fetchingRecord rdy)
      (fun t => decide (((t.rings.outbound[0]).head.taken.map SendRecord.length) = some 40)) = true := by
  decide +kernel

theorem test_record_of_length_zero_is_bad :
    runs (.recordFetchResponse 0 false []) (fetchingRecord rdy)
      (fun t => decide ((t.rings.outbound[0]).consumer = 1 ∧ t.path.other.length = 2)) = true := by
  decide +kernel

theorem test_producer_index_fetches :
    runs (.producerIndexWrite 0 3) (ringed .plain .empty rdy)
      (fun t => decide (t.path.egress.length = 1 ∧ (t.rings.outbound[0]).producerSeen = 3)) = true := by
  decide +kernel

theorem test_producer_index_beyond_count_halts :
    runs (.producerIndexWrite 0 5) (ringed .plain .empty rdy)
      (fun t => decide ((t.rings.outbound[0]).cause = .index ∧ t.status.events = 0x020)) = true := by
  decide +kernel

theorem test_consumer_index :
    runs (.consumerIndexWrite 0 2) (inringed 4 rdy)
      (fun t => decide ((t.rings.inbound[0]).occupied = 2 ∧ (t.rings.inbound[0]).holdRequested = true)) = true := by
  decide +kernel

theorem test_parameter_words :
    runs (.parameterWordWrite 0 (some 5)) rdy
      (fun t => decide (t.mbox.slots[0] = { value := 5, fresh := true })) = true ∧
      runs (.parameterWordWrite 0 none) (slot 0 5 rdy)
        (fun t => decide (t.mbox.slots[0] = { value := 5, fresh := false } ∧ t.status.paramTorn = true)) = true := by
  decide +kernel

theorem test_acknowledge :
    runs (.acknowledge 0x001) { rdy with status := { rdy.status with events := 0x003 } }
      (fun t => decide (t.status.events = 0x002)) = true := by decide +kernel

theorem test_unknown_op :
    runs (.unknownOp 0x20 0 9) rdy
      (fun t => decide (t.path.other = [resultWordWrite rdy .failed 0x20 9 .unknownOp true])) = true := by
  decide +kernel

/-- The slots of a MAKE WINDOW of index 3. -/
def makeSlots (s : State) : State :=
  slot 5 256 (slot 4 (16 + 16 * 4294967296) (slot 3 0x00020002 (slot 2 0x1000 (slot 1 0x1000 (slot 0 0x103 s)))))

theorem test_make_window :
    runs (.makeWindow 6 1) (makeSlots rdy)
      (fun t => decide (t.map.windows[3] = window0 ∧ t.mbox.running = none ∧ t.path.other.length = 3)) = true := by
  decide +kernel

theorem test_clear_window :
    runs (.clearWindow 1 1) (slot 0 0 (mapped rdy)) (fun t => decide (t.map.windows[0] = Window.free)) = true := by
  decide +kernel

theorem test_lock_window :
    runs (.lockWindow 1 1) (slot 0 0 (mapped rdy)) (fun t => (t.map.windows[0]).locked) = true := by
  decide +kernel

theorem test_walk :
    runs (.readWindowFirst 0 1) (mapped rdy) (fun t => decide (t.map.cursor = 1)) = true ∧
      runs (.readWindowNext 0 1) (after (.readWindowFirst 0 1) (mapped rdy))
        (fun t => decide (t.map.cursor = 32)) = true := by decide +kernel

/-- The slots of an OPEN STREAM over window 0. -/
def streamSlots (s : State) : State :=
  slot 3 0x9000 (slot 2 0x0203 (slot 1 0x00020002 (slot 0 0x0001 s)))

theorem test_open_stream :
    runs (.openStream 4 1) (streamSlots (mapped rdy))
      (fun t => decide (t.tracker.stream.state = .openState ∧ t.tracker.stream.linePayload = 16)) = true := by
  decide +kernel

theorem test_close_stream :
    runs (.closeStream 0 1) (streaming rdy)
      (fun t => decide (t.tracker.stream.state = .closed ∧ t.mbox.running = none)) = true ∧
      runs (.closeStream 0 1) (framed rdy)
        (fun t => decide (t.tracker.stream.state = .draining ∧ t.isRunning .closeStream = true)) = true := by
  decide +kernel

/-- The slots of a BIND RING of a ring, with 4 records or slots. -/
def ringSlots (id : Nat) (s : State) : State :=
  slot 3 0x6008 (slot 2 0x6000 (slot 1 0x4000 (slot 0 (BitVec.ofNat 64 (id + 0x40000)) s)))

theorem test_bind_ring :
    runs (.bindRing 4 1) (ringSlots 0 rdy) (fun t => decide ((t.rings.outbound[0]).state = .active)) = true ∧
      runs (.bindRing 4 1) (ringSlots 4 rdy) (fun t => decide ((t.rings.inbound[0]).state = .active)) = true := by
  decide +kernel

/-- The slots of a BIND RETURN. -/
def returnSlots (s : State) : State :=
  slot 3 0x7000 (slot 2 0x100 (slot 1 0x20000 (slot 0 (2 + 64 * 4294967296) s)))

theorem test_bind_return :
    runs (.bindReturn 4 1) (returnSlots rdy)
      (fun t => decide (t.rings.ret.bound = true ∧ t.rings.ret.pitch = 64)) = true := by decide +kernel

theorem test_unbind :
    runs (.unbind 1 1) (slot 0 0 (ringed .plain .empty rdy))
      (fun t => decide (t.rings.outbound[0] = OutRing.unbound)) = true := by decide +kernel

/-- Rings 0 (outbound) and 4 (inbound) HALTED with a written index that fits. -/
def haltedRings (s : State) : State :=
  let t := inringed 2 (ringed .reliable .empty s)
  { t with
    rings :=
      { t.rings with
        outbound := t.rings.outbound.set 0
          { t.rings.outbound[0] with state := .halted, cause := .memory, producerWritten := 2 }
        inbound := t.rings.inbound.set 0 { t.rings.inbound[0] with state := .halted, cause := .index } } }

theorem test_resume_ring :
    runs (.resumeRing 1 1) (slot 0 0 (haltedRings rdy))
      (fun t => decide ((t.rings.outbound[0]).state = .active ∧ t.path.egress.length = 1)) = true := by
  decide +kernel

theorem test_load_schedule :
    runs (.loadSchedule 1 1) (slot 0 0x100 rdy)
      (fun t => decide (t.isRunning .loadSchedule = true ∧ t.path.other.length = 2)) = true := by decide +kernel

/-- The image of a schedule outstanding. -/
def imageAwaited (s : State) : State := busy .loadSchedule (outstanding [ownRead .scheduleImage] s)

theorem test_schedule_image :
    runs (.scheduleImageResponse 0 false [1, 2, 0, 0]) (imageAwaited rdy)
      (fun t => decide (t.sched.staged.isSome = true ∧ t.mbox.running = none)) = true ∧
      runs (.scheduleImageResponse 0 false [2, 0]) (imageAwaited rdy)
        (fun t => decide (t.sched.staged = none ∧ t.mbox.running = none)) = true := by decide +kernel

theorem test_set_split :
    runs (.setSplit 1 1) (slot 0 0x00640064 rdy) (fun t => decide (t.link.splitF = 100)) = true ∧
      runs (.setSplit 1 1) (slot 0 0x00640064 (linked .up rdy))
        (fun t => decide (t.isRunning .setSplit = true ∧ t.link.splitF = 1024)) = true := by decide +kernel

theorem test_link_control_enable :
    runs (.linkControlEnable 1 1) (slot 0 0x201 rdy)
      (fun t => decide (t.link.state = .probing ∧ t.link.ceiling = .half)) = true := by decide +kernel

theorem test_link_control_disable :
    runs (.linkControlDisable 1 1) (slot 0 2 (linked .up rdy)) (fun t => decide (t.link.state = .down)) = true := by
  decide +kernel

theorem test_link_control_retrain :
    runs (.linkControlRetrain 1 1) (slot 0 3 (linked .up rdy)) (fun t => decide (t.link.state = .probing)) = true := by
  decide +kernel

theorem test_snapshot_starts :
    runs (.snapshotCounters 1 1) (slot 0 1 rdy)
      (fun t => decide (t.status.snapshot.map Snapshot.next = some 1 ∧ t.path.other.length = 2)) = true := by
  decide +kernel

/-- A snapshot walk at an index. -/
def walking (n : Nat) (s : State) : State :=
  busy .snapshotCounters
    { s with status := { s.status with snapshot := some { option := .preset, next := n, left := 0 } } }

theorem test_snapshot_step :
    runs .snapshotStep (walking 58 rdy)
      (fun t => decide (t.status.counters[58] = 0xFFFFFFF0 ∧ t.path.other.length = 1)) = true := by
  decide +kernel

theorem test_set_events :
    runs (.setEvents 1 3) (slot 0 0x3ff rdy)
      (fun t => decide (t.status.enable = 0x3ff ∧ t.status.due = [16])) = true := by decide +kernel

theorem test_restart_launch :
    runs (.restart 0 3) (busy .closeStream rdy)
      (fun t => decide (t.path.mode = .initializing ∧ t.isRunning .restart = true ∧
        t.path.other.length = 3)) = true := by decide +kernel

theorem test_status_write :
    runs .statusWriteIssue { rdy with status := { rdy.status with due := [16, 3] } }
      (fun t => decide (t.status.due = [3] ∧ t.path.other.length = 1)) = true := by decide +kernel

/-! ### States and operands that meet the statements' hypotheses, clause by clause -/

/-- A stream of 100 lines, frame 5 in slot 0, and half of line 47 written. -/
def tall (s : State) : State :=
  let t := streaming s
  let w : Window := { window0 with size := 0x2000, stride := 0x1000 }
  let t : State :=
    { t with
      map := { t.map with windows := t.map.windows.set 0 w }
      tracker := { t.tracker with stream := { t.tracker.stream with lines := 100 } } }
  let half : Request := { lineWrite 0 47 with access := .write (List.replicate 8 0xAA) }
  after (.captureWrite 0 0 half) (after (.frameMark 0x9000 0x00000005) t)

/-- What a write to line `l` of slot `k` maps to, and the list index of its frame. -/
def mapsTo (k l : Nat) (s : State) : Mapped := s.tracker.mapWrite s.map.windows[0] (lineWrite k l).addr

theorem test_meets_WellFormedCommandsComplete :
    (Instr.acknowledge 0).wf = true ∧ (readAt 0xFF 0).wf = false ∧ (readAt 0 0).wfWrite = false := by decide

theorem test_meets_QueueStrapsAndOutputsKept : ∃ t, exec .restartN rdy = .next t := ⟨_, rfl⟩

theorem test_meets_PowerOnResetSetsEveryBlock : rdy.path.waiting = [] := rfl

theorem test_meets_RestartSetsEveryBlock :
    rdy.path.mode = .ready ∧ rdy.path.waiting = [] ∧ rdy.path.hold = [] := by decide +kernel

theorem test_meets_InitCompletionWritesStatusBlock :
    State.reset.path.mode = .initializing ∧ State.reset.isRunning .restart = false ∧
      (busy .restart State.reset).path.mode = .initializing ∧
      (busy .restart State.reset).isRunning .restart = true := by decide +kernel

theorem test_meets_PartIdIsBlocked :
    (readAt 0 15).wf = true ∧ (readAt 0 15).initiator = 15 ∧ (readAt 0 14).initiator ≠ 15 ∧
      rdy.path.waiting = [] ∧ rdy.path.portOpen = true ∧ rdy.path.holds 15 = false := by decide +kernel

/-- Inside the page: its first and last word, a part-written area, and a control word by its initiator and
by another. Just outside it: no window, a window that does not permit, a read, a capture write to hold, one
to pass, a window of kind GUARD. -/
theorem test_meets_ClassificationByMailboxAndMap :
    let page := rdy.straps.mailboxPage
    rdy.path.mode = .ready ∧ inMailbox page page = true ∧ inMailbox page (page + 0xFF8) = true ∧
      inMailbox page (page - 1) = false ∧ inMailbox page (page + 0x1000) = false ∧
      touchesPartWritten page (page + 0x80) 8 = true ∧
      (touchesPartWritten page page 8 = false ∧ touchesControl page page 8 = true ∧ rdy.straps.ctlid = 0) ∧
      rdy.lookup 0x5000 = none ∧
      ((mapped rdy).lookup 0x1000 = some 0 ∧ (mapped rdy).lookup 0x1FFF = some 0 ∧
        (mapped rdy).lookup 0x2000 = none) ∧
      window0.permits (lineWrite 0 0) = true ∧ window0.permits (readAt 0x1000 2) = false ∧
      (tall rdy).tracker.mustHold (tall rdy).map.windows[0] (lineWrite 0 48).addr = true ∧
      (tall rdy).tracker.mustHold (tall rdy).map.windows[0] (lineWrite 0 47).addr = false ∧
      (tall rdy).tracker.stream.position 0 = some 0 ∧
      ((tall rdy).tracker.stream.state ≠ .closed ∧ (tall rdy).tracker.stream.markWord = 0x9000) ∧
      ((ringed .plain .empty rdy).rings.outbound[0]).producerWord = some 0x6000 ∧
      ((inringed 1 rdy).rings.inbound[0]).consumerWord = some 0x6018 ∧
      touchedWords 0x8FFF 9 = [0x8FF8, 0x9000] ∧
      (tall rdy).watchTorn 0x8FFF (wordBytes 5) = 1 ∧ (tall rdy).watchEntries 0x9000 (wordBytes 5) = [.watch 0x9000 5] := by
  decide +kernel

/-- A control word covered whole, in part and by none; two words at once; a locked entry and one that is not
locked while INITIALIZING, a permitted request and one that is not. -/
theorem test_meets_ClassificationByMailboxAndMap_words :
    let page := rdy.straps.mailboxPage
    let locked : State :=
      { State.reset with
        map := { RegionMap.empty with windows := RegionMap.empty.windows.set 0 { window0 with locked := true } } }
    controlTaps page (page + 0x40) (wordBytes 5) = [.control .launch (some 5)] ∧
      controlTaps page (page + 0x44) (wordBytes 5) = [.control .launch none, .control .acknowledge none] ∧
      controlTaps page (page + 0x38) (wordBytes 5 ++ [1]) = [.control (.param 7) (some 5), .control .launch none] ∧
      controlTaps page (page + 0x50) (wordBytes 5) = [] ∧
      State.reset.path.mode = .initializing ∧ (mapped State.reset).lookup 0x1000 = none ∧
      locked.lookup 0x1000 = some 0 ∧ (locked.map.windows[0]).permits (lineWrite 0 0) = true ∧
      (locked.map.windows[0]).permits (readAt 0x1000 2) = false ∧
      (∀ j : Fin 32, ¬ j < 0) := by decide +kernel

/-- What must be held: a line of a listed frame at position 48, and none while CLOSED, at position 47, with the hold
limit 0, or of a slot with no frame; the segment position of a window and of one that is not in the list; a write
that covers a watched word whole, and one that does not. -/
theorem test_meets_ClassificationByMailboxAndMap_hold :
    let s := tall rdy
    let w := s.map.windows[0]
    let under (st : Stream → Stream) : Bool :=
      { s.tracker with stream := st s.tracker.stream }.mustHold w (lineWrite 0 48).addr
    s.tracker.mapWrite w (lineWrite 0 48).addr = .line 5 0 48 0 ∧ s.tracker.indexOf 5 0 = some 0 ∧
      s.tracker.position 0 48 = 48 ∧ s.tracker.stream.holdLimit = 2 ∧ under id = true ∧
      under (fun x => { x with state := .closed }) = false ∧ under (fun x => { x with holdLimit := 0 }) = false ∧
      s.tracker.mustHold w (lineWrite 0 47).addr = false ∧
      (streaming rdy).tracker.mustHold window0 (lineWrite 0 1).addr = false ∧
      s.tracker.stream.position 0 = some 0 ∧ s.tracker.stream.position 1 = none ∧
      rdy.tracker.stream.position 0 = none ∧ coveredWord 0x8FFF (7 :: wordBytes 5) 0x9000 = some 5 ∧
      coveredWord 0x8FFF (wordBytes 5) 0x9000 = none := by decide +kernel

theorem test_meets_UpstreamRequestTaken :
    (readAt 0x5000 1).wf = true ∧ rdy.path.waiting = [] ∧ (held 8 rdy).path.portOpen = false ∧
      (held 7 rdy).path.portOpen = true ∧ (held 7 rdy).path.holds 1 = true ∧
      rdy.classify (readAt 0x5000 1) = .pass [] 0 ∧ (tall rdy).classify (lineWrite 0 48) = .hold ∧
      rdy.classify (readAt 0x5000 15) = .block .id15 := by decide +kernel

/-- A leader at its deadline, alone and with a follower; a chain with nobody left, and one whose oldest request
passes, is blocked, is held past its deadline, or is held before it. -/
theorem test_meets_HoldExpiryForwardsUntapped :
    ((held 2 rdy).path.oldest 1).any (fun h => decide (h.role = .leader ∧ reached rdy.link.count h.deadline)) = true ∧
      rdy.path.waiting = [] ∧
      ((held 1 rdy).path.hold.filter (fun x => x.request.initiator == 1)).length = 1 ∧
      rdy.path.oldest 1 = none ∧ (held 2 rdy).classify (readAt 0x5000 1) = .pass [] 0 ∧
      rdy.classify (readAt 0x5000 15) = .block .id15 ∧ (tall rdy).classify (lineWrite 0 48) = .hold ∧
      reached (tall rdy).link.count 0 = true ∧ reached (tall rdy).link.count 1 = false := by decide +kernel

/-- The oldest held request of initiator 1 behind one of initiator 2, and one of initiator 1 after it. -/
theorem test_meets_HoldExpiryForwardsUntapped_queue :
    let h (i : BitVec 4) : Held := { request := readAt 0x5000 i, role := .leader, entry := 0, deadline := 0 }
    let s : State := { rdy with path := { rdy.path with hold := [h 2] ++ h 1 :: [h 1] } }
    (∀ x ∈ [h 2], x.request.initiator ≠ 1) ∧ s.path.oldest 1 = some (h 1) ∧
      (s.leaveHold 1).path.hold = [h 2, h 1] ∧ (s.promote 1).path.hold = [h 2, h 1, h 1] ∧
      reached 0 0xFFFFFFFF = true ∧ reached 0x7FFFFFFF 0 = true ∧ reached 0x80000000 0 = false := by
  decide +kernel

/-- A pass queue and own requests that wait, by the side granted last. -/
def queues (pass egress other : Nat) (last : Side) (s : State) : State :=
  { s with
    path :=
      { s.path with
        pass := List.replicate pass { request := readAt 0x5000 1, taps := [] }
        egress := List.replicate egress (ownRead (.payload 0))
        other := List.replicate other (ownWrite .status), lastSide := last } }

theorem test_meets_ArbiterGrantsTheHead :
    (queues 1 0 0 .pass rdy).path.nextSide = some .pass ∧ (queues 1 0 0 .own rdy).path.pass.length = 1 ∧
      (queues 0 1 1 .own rdy).path.nextSide = some .own ∧ (queues 0 0 1 .own rdy).path.nextSide = some .own ∧
      (queues 1 1 0 .own rdy).path.nextSide = some .pass ∧ (queues 1 0 1 .pass rdy).path.nextSide = some .own ∧
      (queues 0 0 0 .own rdy).path.nextSide = none ∧ rdy.path.waiting = [] := by decide +kernel

/-- A launch word of SET EVENTS with the count 1 and the tag 3, and one of RESTART. -/
def launchWord (c : Command) (n : Nat) : Word := BitVec.ofNat 64 (c.code.toNat + 256 * n + 65536 * 3)

/-- A tap set that goes on after its first entry, and one that a restart ends; a launch of each kind, with the
operation that its parameter names; the code 0. -/
theorem test_meets_ArbiterGrantsTheHead_taps :
    (queues 1 0 0 .own rdy).path.pass = [{ request := readAt 0x5000 1, taps := [] }] ∧
      (rdy.runTap (readAt 0 0) (.control (.param 0) (some 1))).path.mode = .ready ∧
      (rdy.runTap (readAt 0 0) (.control .launch (some (launchWord .restart 0)))).path.mode = .initializing ∧
      launchOf (.setEvents 1 3) =
        some (launchCode (launchWord .setEvents 1), launchCount (launchWord .setEvents 1),
          launchTag (launchWord .setEvents 1)) ∧
      rowOperation (.setEvents 1 3) = none ∧ (Instr.setEvents 1 3).wf = true ∧
      rowOperation (.linkControlRetrain 1 3) = some .retrain ∧
      linkOperation (slot 0 3 rdy).mbox.params = some .retrain ∧ launchCode 0x100 = 0 := by decide +kernel

/-- A watch word of each kind and an address that is none; a capture entry applied to an entry there is and to
a new one, at the last line of the window and past it. -/
theorem test_meets_ArbiterGrantsTheHead_watch_and_capture :
    rdy.path.waiting = [] ∧ (framed rdy).tracker.stream.state ≠ .closed ∧
      (framed rdy).tracker.stream.markWord = 0x9000 ∧ rdy.tracker.stream.state = .closed ∧
      ((ringed .plain .empty rdy).rings.outbound[0]).state ≠ .unbound ∧
      ((ringed .plain .empty rdy).rings.outbound[0]).producerWord = some 0x6000 ∧
      (∀ p : Fin 4, ((inringed 1 rdy).rings.outbound[p]).state = .unbound) ∧
      ((inringed 1 rdy).rings.inbound[0]).state ≠ .unbound ∧
      ((inringed 1 rdy).rings.inbound[0]).consumerWord = some 0x6018 ∧ 0x7000 ∉ (framed rdy).watchWords ∧
      (lineWrite 0 0).wfWrite = true ∧ (tall rdy).tracker.stream.windows[(0 : Fin 6).val]? = some 0 ∧
      mapsTo 0 47 (tall rdy) = .line 5 0 47 0 ∧ mapsTo 0 48 (tall rdy) = .line 5 0 48 0 ∧
      (tall rdy).tracker.indexOf 5 0 = some 0 ∧ (tall rdy).tracker.position 0 47 = 47 ∧
      (tall rdy).tracker.position 0 48 = 48 ∧
      ((tall rdy).stitch.find 5 0 47).any (fun e => !e.state.settled) = true ∧
      (tall rdy).stitch.find 5 0 46 = none := by decide +kernel

/-- A capture write forwarded and applied to the entry of line 0. -/
def applied (discard : Bool) (s : State) : State :=
  let t := settledLine s
  { t with
    path :=
      { t.path with
        forwarded := [{ request := lineWrite 0 0, applied := some { entry := 0, position := 0 }, discard }] } }

/-- A settled entry, an unsettled one, an entry that is gone, and a segment that is DAMAGED already. -/
theorem test_meets_ResponseReturnedAndErrorDamages :
    (takeNth (fun _ => true) 0 (applied false rdy).path.forwarded).any
        (fun x => decide (x.1.discard = false ∧ x.1.applied = some { entry := 0, position := 0 })) = true ∧
      ((applied false rdy).stitch.entries.find? (fun x => x.id == 0)).any
        (fun e => e.state.settled && decide ((e.segment 0).state ≠ .damaged)) = true ∧
      ((framed rdy).stitch.entries.find? (fun x => x.id == 0)).any (fun e => !e.state.settled) = true ∧
      (applied false rdy).stitch.entries.find? (fun x => x.id == 9) = none ∧
      ((after (.downstreamResponse 0 true []) (applied false rdy)).stitch.entries.find? (fun x => x.id == 0)).any
        (fun e => decide ((e.segment 0).state = .damaged)) = true := by decide +kernel

/-- A write issued before a reset; a final result word; a landing's last write; a return landing's last write
and the one before it, with a done word due and none; a snapshot's last write and the one before it. -/
theorem test_meets_OwnWriteAcceptanceActs :
    (ownWrite .status).retired.live = false ∧
      (takeNth (fun x => !x.isRead) 0
          (outstanding [ownRead (.payload 0), ownWrite (.resultWord true)] rdy).path.ownOut).any
        (fun x => x.1.live && decide (x.1.owner = .resultWord true)) = true ∧
      (takeNth (fun x => !x.isRead) 0 (outstanding [ownWrite (.landing 0 3)] rdy).path.ownOut).any
        (fun x => x.1.live && decide (x.1.owner = .landing 0 3)) = true ∧
      (let s := inringed 1 rdy
       let t : State :=
        { s with
          rings :=
            { s.rings with
              inbound := s.rings.inbound.set 0
                { s.rings.inbound[0] with landing := .inProgress 3 1 (some true) } } }
       decide ((t.rings.inbound[0]).landing = .inProgress 3 1 (some true))) = true ∧
      ((returning 1 (some (8, 1)) rdy).rings.ret.bound = true ∧
        ((returning 1 (some (8, 1)) rdy).rings.ret.buffer true).left ≤ 1 ∧
        ¬ ((returning 2 none rdy).rings.ret.buffer true).left ≤ 1) ∧
      rdy.rings.ret.bound = false ∧
      ((walking 59 rdy).status.snapshot.map Snapshot.next = some 59 ∧
        (walking 58 rdy).status.snapshot.map Snapshot.next = some 58 ∧
        (walking 59 rdy).mbox.running = some { code := Command.snapshotCounters.code, tag := 7 }) := by
  decide +kernel

theorem test_meets_CaptureWriteSortedOut :
    (lineWrite 0 0).wfWrite = true ∧ (tall rdy).tracker.stream.isOpen = true ∧
      (tall rdy).tracker.stream.windows[0]? = some 0 ∧ mapsTo 2 0 (framed rdy) = .stray ∧
      mapsTo 0 2 (framed rdy) = .stray ∧ mapsTo 1 0 (framed rdy) = .unframed ∧
      mapsTo 0 0 (endedFrame rdy) = .line 5 0 0 0 ∧
      (after .frameEnd (endedFrame rdy)).tracker.indexOf 5 0 = none ∧
      (endedFrame rdy).tracker.indexOf 5 0 = some 0 ∧ (endedFrame rdy).tracker.position 0 1 = -1 ∧
      mapsTo 0 48 (tall rdy) = .line 5 0 48 0 ∧ (tall rdy).tracker.position 0 48 = 48 ∧
      (tall rdy).stitch.find 5 0 46 = none ∧
      ((settledLine rdy).stitch.find 5 0 0).any (fun e => e.state.settled) = true := by decide +kernel

/-- A write taken while CLOSED, and one whose window is not at its position; a line's last byte, line and slot, the
byte, line and slot after them, a slot with no frame, and an address below the base. -/
theorem test_meets_CaptureWriteSortedOut_mapping :
    let t := (streaming rdy).tracker
    let at' (a : Nat) : Mapped := (framed rdy).tracker.mapWrite window0 (BitVec.ofNat 40 a)
    (rdy.tracker.stream.state = .closed ∧ t.stream.windows[(1 : Fin 6).val]? ≠ some 0 ∧
        t.stream.windows[(0 : Fin 6).val]? ≠ some 1) ∧
      (t.stream.slotCount = 2 ∧ t.stream.lines = 2 ∧ window0.segLen = 16 ∧ (t.slots[1]).frame = none) ∧
      at' 0x100F = .line 5 0 0 15 ∧ at' 0x101F = .line 5 0 1 15 ∧ at' 0x1020 = .stray ∧
      at' 0x1100 = .unframed ∧ at' 0x1200 = .stray ∧ at' 0xFFF = .stray ∧
      { (framed rdy).tracker with stream := t.stream }.mapWrite { window0 with pitch := 32 } 0x1010 = .stray ∧
      (framed rdy).tracker.indexOf 5 1 = none ∧ (framed rdy).tracker.indexOf 6 0 = none := by decide +kernel

/-- Line 47, the last position of the window, and line 0, the first. -/
theorem test_meets_CaptureWriteApplied :
    (lineWrite 0 47).wfWrite = true ∧ (tall rdy).tracker.stream.isOpen = true ∧
      mapsTo 0 47 (tall rdy) = .line 5 0 47 0 ∧ (tall rdy).tracker.indexOf 5 0 = some 0 ∧
      (tall rdy).tracker.position 0 47 = 47 ∧ (tall rdy).tracker.position 0 0 = 0 ∧
      ((tall rdy).stitch.find 5 0 47).any (fun e => !e.state.settled) = true ∧
      ((tall rdy).stitch.find 5 0 0).any (fun e => !e.state.settled) = true ∧
      (mapsTo 0 46 (tall rdy) = .line 5 0 46 0 ∧ (tall rdy).stitch.find 5 0 46 = none) ∧
      (tall rdy).EntriesDistinct := by
  unfold State.EntriesDistinct; decide +kernel

theorem test_meets_StitchDeadlineSettles :
    ((framed rdy).stitch.entries.find? (fun x => x.slot == 0 && x.line == 0)).any
      (fun e => !e.state.settled && decide (e.deadline = some 3)) = true ∧ reached 3 3 = true ∧
      reached 2 3 = false := by decide +kernel

/-- The stream DRAINING, CLOSE STREAM running. -/
def draining (s : State) : State :=
  { busy .closeStream s with
    tracker := { s.tracker with stream := { s.tracker.stream with state := .draining } } }

/-- Slot index 2, the slot count; index 1, just below it; the newest number itself, and the one after it. -/
theorem test_meets_MarksJudgedInOrder :
    (framed rdy).tracker.stream.state = .openState ∧ (framed rdy).path.waiting = [] ∧
      (framed rdy).tracker.stream.slotCount = bits 0x00020000 23 16 ∧
      bits 0x00010000 23 16 < (framed rdy).tracker.stream.slotCount ∧
      (framed rdy).tracker.newest = some 5 ∧ aheadOf 5 5 = false ∧ aheadOf 6 5 = true ∧
      (streaming rdy).tracker.newest = none ∧ mayReset .release = false ∧ mayLaunch .release = false := by
  decide +kernel

/-- A mark while CLOSED, at another address, and while DRAINING. -/
theorem test_meets_MarksJudgedInOrder_ignored :
    rdy.tracker.stream.state = .closed ∧ rdy.path.waiting = [] ∧
      (0x9008 : Nat) ≠ (framed rdy).tracker.stream.markWord ∧
      (draining (framed rdy)).tracker.stream.state = .draining ∧ (draining (framed rdy)).path.waiting = [] := by
  decide +kernel

theorem test_meets_MarkAcceptedOnFreeSlot :
    (framed rdy).tracker.stream.state = .openState ∧ (framed rdy).path.waiting = [] ∧
      bits 0x00010006 23 16 = 1 ∧ (framed rdy).tracker.newest = some 5 ∧ aheadOf 6 5 = true ∧
      ((framed rdy).tracker.slots[1]).unfinished = 0 ∧ 0 < (framed rdy).tracker.stream.lines ∧
      (streaming rdy).tracker.frames = [] ∧ (streaming rdy).stitch.find 6 0 0 = none ∧
      (streaming rdy).tracker.newest = none ∧ (∀ f ∈ (framed rdy).tracker.frames, f.slot ≠ 1) ∧
      (finishedFrame rdy).tracker.frames =
        [{ frame := 5, slot := 0, cursor := 2, whole := 1, torn := 0, absent := 1 }] ∧
      (finishedFrame rdy).tracker.slots[0] = { frame := some 5, unfinished := 0 } ∧
      (finishedFrame rdy).tracker.stream.lines = 2 ∧ (finishedFrame rdy).tracker.newest = some 5 ∧
      (finishedFrame rdy).sched.queue.length < 16 := by decide +kernel

theorem test_meets_MarkOnPinnedSlotDropsFrame :
    (framed rdy).tracker.stream.state = .openState ∧ bits 0x00000006 23 16 = 0 ∧
      (framed rdy).tracker.newest = some 5 ∧ aheadOf 6 5 = true ∧
      ((framed rdy).tracker.slots[0]).frame = some 5 ∧ ((framed rdy).tracker.slots[0]).unfinished = 2 ∧
      (framed rdy).path.waiting = [] ∧ (framed rdy).tracker.indexOf 5 0 = some 0 ∧
      (after .frameEnd (endedFrame rdy)).tracker.indexOf 5 0 = none ∧
      ((after .frameEnd (endedFrame rdy)).tracker.slots[0]).unfinished = 2 := by decide +kernel

/-- A frame at the head of the list dropped, and one that has left an empty list with a job still queued: there the
head moves with the new frame, after FRAME_DROPPED and the drop report (R42, R47, R48). -/
theorem test_drop_orders_its_words :
    let s := framed (linked .up rdy)
    let s : State := { s with sched := { s.sched with queue := [lineJob] }, status := { s.status with due := [] } }
    let off : State := { s with tracker := { s.tracker with frames := [] }, stitch := { s.stitch with entries := [] } }
    runs (.frameMark 0x9000 0x00000006) s
        (fun t => decide (t.tracker.frames.length = 1 ∧ t.status.due = [5, 4, 15, 19])) = true ∧
      runs (.frameMark 0x9000 0x00000006) off (fun t => decide (t.status.due = [5, 15, 19, 4])) = true := by
  decide +kernel

/-- The line that becomes head keeps its entry, gets a new one, or there is no head line. -/
theorem test_head_line_is_opened :
    let s := framed rdy
    (s.headOpened s.stitch.entries s.tracker.frames = s.stitch.entries ∧
        s.headOpened s.stitch.entries [] = s.stitch.entries) ∧
      (s.headOpened [] s.tracker.frames).map LineEntry.state = [.openState] ∧
      runs .release (settledLine rdy)
        (fun t => decide (t.stitch.entries.map (fun e => (e.line, e.state)) = [(1, .openState)])) = true := by
  decide +kernel

/-- A head line in each settled state. -/
def headLine (st : EntryState) (s : State) : State :=
  let t := framed s
  { t with stitch := { t.stitch with entries := t.stitch.entries.map (fun e => { e with state := st }) } }

theorem test_meets_ReleaseAppendsOneJob :
    ∀ st ∈ [EntryState.whole, .torn, .absent],
      (headLine st rdy).tracker.frames.map FrameRecord.cursor = [0] ∧
        ((headLine st rdy).stitch.find 5 0 0).map LineEntry.state = some st ∧ st.settled = true ∧
        (headLine st rdy).sched.queue.length < 16 ∧ (headLine st (linked .up rdy)).link.state = .up ∧
        (headLine st rdy).path.waiting = [] ∧
        ((held 2 (headLine st rdy)).path.oldest 1).isSome = true := by
  decide +kernel

/-- A WHOLE line sunk while the link is not UP, of a slot that shows its frame and of one that does not; the FULL
segments of a line. -/
theorem test_meets_ReleaseAppendsOneJob_sunk :
    let s := headLine .whole rdy
    let full : Segment := { state := .full, mark := 16 }
    (s.link.state ≠ .up ∧ (s.tracker.slots[0]).frame = some 5 ∧ (s.tracker.slots[0]).unfinished = 2) ∧
      runs .release s (fun t => decide ((t.tracker.slots[0]).unfinished = 1)) = true ∧
      runs .release { s with tracker := { s.tracker with slots := s.tracker.slots.set 0 { frame := none, unfinished := 2 } } }
        (fun t => decide ((t.tracker.slots[0]).unfinished = 2)) = true ∧
      s.stitch.entries.map (fun e =>
        { e with segments := [full, { full with state := .damaged }, full] }.present) = [[0, 2]] := by
  decide +kernel

theorem test_meets_FrameEndClosesHeadFrame :
    (endedFrame rdy).tracker.frames.map FrameRecord.cursor = [(endedFrame rdy).tracker.stream.lines] ∧
      (endedFrame rdy).sched.queue.length < 16 ∧ (endedFrame rdy).path.waiting = [] := by decide +kernel

/-- The frame end that ends a drain, and the one that leaves its FRAME_END job in the queue. -/
theorem test_meets_FrameEndClosesHeadFrame_drain :
    let s := draining (endedFrame rdy)
    s.tracker.stream.state = .draining ∧ s.tracker.frames.length = 1 ∧
      s.mbox.running = some { code := Command.closeStream.code, tag := 7 } ∧
      (after .frameEnd s).sched.queue = [] ∧ (after .frameEnd s).tracker.stream.state = .closed ∧
      (after .frameEnd (draining (endedFrame (linked .up rdy)))).sched.queue.length = 1 := by decide +kernel

/-- UP with a change that the next link frame start reaches. -/
def nearChange (c : Change) (echoed : Bool) (s : State) : State :=
  { linked .up s with
    link := { (linked .up s).link with change := some { change := c, effective := 1, echoed } } }

theorem test_meets_LinkFrameStartAdvances :
    rdy.link.state = .down ∧ rdy.link.enabled = false ∧ (linked .down rdy).link.enabled = true ∧
      ((15 : FrameCount) + 1).toNat % 16 = 0 ∧
      (after (.scheduleImageResponse 0 false []) (imageAwaited rdy)).sched.staged.map Prod.snd =
        some .nextFrame ∧
      (linked .up rdy).link.state = .up ∧ (linked .up rdy).link.change = none ∧
      (nearChange (.rate .half) false rdy).link.change =
        some { change := .rate .half, effective := rdy.link.count + 1, echoed := false } ∧
      (busy .setSplit (nearChange (.split 100 100) true rdy)).link.change =
        some { change := .split 100 100, effective := rdy.link.count + 1, echoed := true } ∧
      (busy .setSplit (nearChange (.split 100 100) true rdy)).mbox.running =
        some { code := Command.setSplit.code, tag := 7 } ∧
      (changing (.rate .half) false rdy).link.change.all (fun c => decide (c.effective ≠ 1)) = true := by
  decide +kernel

/-- TRAINING at a rate, with the move kept since the last arrival. -/
def moving (m : Option LinkMove) (r : Option Rate) (s : State) : State :=
  { linked .training s with link := { (linked .training s).link with move := m, trialRate := r } }

theorem test_meets_LinkFrameStartAdvances_moves :
    (linked .probing rdy).link.state = .probing ∧ (linked .probing rdy).link.move ≠ some .training ∧
      (after (.returnWindowArrival (some (header true 9 0)) []) (linked .probing rdy)).link.move = some .training ∧
      (∀ m ∈ [none, some LinkMove.training, some (.trial .half), some .probing, some .up],
        (moving m (some .full) rdy).link.state = .training ∧ (moving m (some .full) rdy).link.move = m ∧
          (moving m (some .full) rdy).link.trialRate = some .full) ∧
      (after .linkFrameStart (linked .probing rdy)).link.state ≠ .up ∧
      (after .linkFrameStart (moving (some .up) (some .full) rdy)).link.state = .up := by decide +kernel

/-- An UP header carries an answer, a release and a drop report, and they are sent once. -/
theorem test_up_header_carries_and_clears :
    let s := inringed 2 (linked .up rdy)
    let s : State :=
      { s with
        rings :=
          { s.rings with
            inbound := s.rings.inbound.set 0 { s.rings.inbound[0] with toSend := .ack true, releaseDue := true } }
        link := { s.link with dropRepeat := 4, lastDropped := 6, dropCount := 2 } }
    let t := after .linkFrameStart s
    t.out.head?.any (fun o =>
        match o with
        | .header b _ =>
          decide (byteAt b 0 = 1 ∧ byteAt b 0x0A = 0x81 ∧ byteAt b 0x0C = 0 ∧ byteAt b 0x0D = 0xFF ∧
            byteAt b 0x0E = 0x10 ∧ byteAt b 0x0F = 1 ∧ fieldAt b 0x10 2 = 6 ∧ byteAt b 0x12 = 2)
        | _ => false) = true ∧
      (t.rings.inbound[0]).toSend = .none ∧ (t.rings.inbound[0]).releaseDue = false ∧ t.link.dropRepeat = 3 := by
  decide +kernel

theorem test_meets_PendingChangeTakesEffect :
    (changing (.rate .half) false rdy).link.state = .up ∧
      (changing (.rate .half) false rdy).link.change =
        some { change := .rate .half, effective := (changing (.rate .half) false rdy).link.count, echoed := false } ∧
      (busy .setSplit (changing (.split 100 100) true rdy)).mbox.running =
        some { code := Command.setSplit.code, tag := 7 } := by decide +kernel

/-- An ACTIVE schedule whose every slot holds some entries, and a video queue. -/
def scheduled (l : List ServiceEntry) (queue : List Job) (s : State) : State :=
  { s with
    sched :=
      { s.sched with state := .active, active := some (Vector.replicate 16 l), queue } }

/-- A LINE job of `window0` that nothing has been placed of. -/
def waitingLine : Job := { lineJob with placing := .waiting }

/-- UP or coming UP without a change due; a schedule that is not active and one that is; a held lane; a ring
UNBOUND, HALTED and ACTIVE. -/
theorem test_meets_WindowFillsItsCells :
    (linked .up rdy).link.state = .up ∧ (linked .up rdy).link.change = none ∧
      (changing (.rate .half) false rdy).link.change.all (fun c => decide (c.effective ≠ 1)) = true ∧
      (moving (some .up) (some .half) rdy).link.state = .training ∧
      (moving (some .up) (some .half) rdy).link.move = some .up ∧
      rdy.sched.state ≠ .active ∧ (scheduled [] [] rdy).sched.state = .active ∧
      (scheduled [] [] rdy).sched.active = some (Vector.replicate 16 []) ∧
      (mapped rdy).map.windows[0] = window0 ∧ (streaming rdy).tracker.stream.windows[(0 : Fin 6).val]? = some 0 ∧
      (∀ i : Fin 5, rdy.sched.hold[i] = 0) ∧ (Vector.replicate 5 (1 : Byte))[(0 : Fin 5)] ≠ 0 ∧
      (rdy.rings.outbound[0]).state = .unbound ∧ ((haltedRings rdy).rings.outbound[0]).state = .halted ∧
      ((ringed .plain .empty rdy).rings.outbound[0]).state = .active := by decide +kernel

/-- No job left; a job of each kind without room and with it; a piece cut to the room, and the last piece. -/
theorem test_meets_WindowFillsItsCells_video :
    let s := scheduled [] [waitingLine] (streaming rdy)
    rdy.nextVideo 9 = none ∧ s.nextVideo 1 = none ∧
      (s.nextVideo 2).map (fun x => (x.1.sched.queue.map Job.placing, x.2)) = some ([.placed], 0) ∧
      (scheduled [] [{ waitingLine with body := .absentRun 0 2 }] rdy).nextVideo 0 = none ∧
      ((scheduled [] [{ waitingLine with body := .absentRun 0 2 }] rdy).nextVideo 1).isSome = true ∧
      (scheduled [] [{ waitingLine with body := .frameEnd 1 0 1 }] rdy).nextVideo 0 = none ∧
      ((scheduled [] [{ waitingLine with body := .frameEnd 1 0 1 }] rdy).nextVideo 1).isSome = true ∧
      (serveVideo 1 9 s).1.sched.window.length = 1 ∧ ((serveVideo 9 9 s).1.nextVideo 7) = none := by
  decide +kernel

/-- A ring with no READY record; a record of 2 cells of payload with no budget, too large for the window by one
cell, too large for the room by one cell, and just fitting both. -/
theorem test_meets_WindowFillsItsCells_ring :
    let s := ringed .reliable (.ready record) rdy
    (∀ sr, ((ringed .plain .empty rdy).rings.outbound[0]).head ≠ .ready sr) ∧
      (s.rings.outbound[0]).head = .ready record ∧ (record.length + 31) / 32 = 2 ∧
      s.serveRing 0 4 0 = (s, 0) ∧ s.serveRing 0 4 2 = (s, 2) ∧
      ((s.serveRing 0 3 3).1.counter .recordsTooLarge, (s.serveRing 0 3 3).2) = (1, 3) ∧
      ((s.serveRing 0 4 3).1.sched.window.length, (s.serveRing 0 4 3).2) = (1, 0) := by
  refine ⟨fun sr h => ?_, by decide +kernel⟩
  exact absurd h (fun h => nomatch h)

/-- A walk that reaches an UNBOUND ring halts the schedule; the entry after it places nothing. -/
theorem test_walk_halts_at_unbound_ring :
    let s := scheduled [{ source := .ring 1, quota := 0 }, { source := .video, quota := 0 }] [waitingLine]
      (streaming (linked .up rdy))
    let t := after .linkFrameStart s
    t.sched.state = .halted ∧ t.eventPending .schedHalt = true ∧ t.sched.window = [] := by decide +kernel

/-- A piece; a ring parcel whose record is PLACED, IN_FLIGHT or due to be sent again; one of another record. -/
theorem test_meets_PayloadFetchReachesPiece :
    (fetching rdy).path.egress.any (OwnRequest.isPayloadOf 1) = false ∧
      (fetching rdy).path.ownOut.any (OwnRequest.isPayloadOf 1) = true ∧
      (fetching rdy).sched.window.find? (fun x => x.id == 1 && decide (x.fetch = .pending)) = some pieceParcel ∧
      pieceParcel.body.job = some 0 ∧ pieceParcel.body.length ≠ 0 ∧
      [ringParcel].find? (fun x => x.id == 1 && decide (x.fetch = .pending)) = some ringParcel ∧
      ringParcel.body = .ring 0 record.serial 1 40 0x8000 false false ∧ ringParcel.body.length ≠ 0 ∧
      (((ringed .plain (.placed record) rdy).rings.outbound[0]).head = .placed record ∧
        ((ringed .plain (.placed record) rdy).rings.outbound[0]).kind = .plain) ∧
      (((ringed .reliable (.inFlight record) rdy).rings.outbound[0]).head = .inFlight record ∧
        ((ringed .reliable (.ready record) rdy).rings.outbound[0]).head = .ready record ∧
        0 < ((ringed .reliable (.ready record) rdy).rings.outbound[0]).sendCount) ∧
      ((ringed .plain .empty rdy).rings.outbound[0]).head.taken = none := by decide +kernel

theorem test_meets_ParcelSentOrLate :
    (fetching rdy).sched.window = pieceParcel :: [] ∧ pieceParcel.fetch = .pending ∧
      runParcel.fetch = .notNeeded ∧ ringParcel.fetch = .pending ∧
      ((ringed .reliable (.inFlight record) rdy).rings.outbound[0]).sendCount < 256 := by decide +kernel

/-- The bytes of a parcel of each kind before its check, as section 11.4 lays them out. -/
theorem test_parcel_bytes :
    let head (b : ParcelBody) (poison : Bool) : List Byte := (b.bytes poison [0xEE]).take 29
    head (.piece 0 0x1234 0 7 .torn [0, 2] 2 0x102 1 true true) true =
        padTo 28 [0x10, 7, 1, 0, 0x34, 0x12, 7, 0, 1, 5, 2, 0, 2, 1] ++ [0xEE] ∧
      (head (.absentRun 0 0x1234 0 0x102 3) false).take 28 = padTo 28 [0x11, 0, 0, 0, 0x34, 0x12, 2, 1, 3] ∧
      (head (.frameEnd 0 5 0 1 0x203 4) false).take 28 = padTo 28 [0x12, 0, 0, 0, 5, 0, 1, 0, 3, 2, 4] ∧
      head (.ring 3 0 9 1 0 true true) false = padTo 28 [0x13, 0x18, 1, 0, 3, 9] ++ [0xEE] ∧
      (ParcelBody.absentRun 0 5 0 0 2).bytes false [] =
        withCheck (padTo 28 [0x11, 0, 0, 0, 5, 0, 0, 0, 2]) := by decide +kernel

/-- A job whose last parcel goes, one that is not wholly placed, one that has another parcel in the window, and
none; a late piece; a slot that still shows the job's frame; the end of a drain. -/
theorem test_meets_ParcelSentOrLate_jobs :
    let s := fetching (framed rdy)
    pieceParcel.body.job = some lineJob.id ∧ pieceParcel.fetch = .pending ∧ runParcel.body.job = some lineJob.id ∧
      s.sched.queue.find? (fun j => j.id == 0) = some lineJob ∧ lineJob.placing = .placed ∧
      waitingLine.placing ≠ .placed ∧ rdy.sched.queue.find? (fun j => j.id == 0) = none ∧
      (∃ x ∈ [pieceParcel], x.body.job = some 0) ∧ (∀ x ∈ ([] : List Parcel), x.body.job ≠ some 0) ∧
      (s.tracker.slots[0]).frame = some lineJob.frame ∧ (s.tracker.slots[0]).unfinished = 2 ∧
      (after .parcelSent s).sched.queue = [] ∧ ((after .parcelSent s).tracker.slots[0]).unfinished = 1 := by
  decide +kernel

theorem test_last_parcel_ends_drain :
    let s := fetching (draining (framed rdy))
    let s : State := { s with tracker := { s.tracker with frames := [] } }
    s.tracker.stream.state = .draining ∧
      s.mbox.running = some { code := Command.closeStream.code, tag := 7 } ∧
      runs .parcelSent s (fun t => decide (t.tracker.stream.state = .closed ∧ t.sched.queue = [] ∧
        t.mbox.running = none ∧ t.eventPending .streamClosed = true)) = true := by decide +kernel

/-- A ring parcel whose fetch is late, of a record PLACED and one IN_FLIGHT. -/
theorem test_late_ring_parcel_is_read_error :
    ∀ h ∈ [HeadRecord.placed record, .inFlight record],
      let k := if h = .placed record then RingKind.plain else .reliable
      let s := ringed k h rdy
      runs .parcelSent { s with sched := { s.sched with window := [ringParcel] } }
        (fun t => decide ((t.rings.outbound[0]).consumer = 1 ∧ (t.rings.outbound[0]).head.taken = none ∧
          t.eventPending .memErr = true ∧ t.eventPending .ringAttn = true)) = true := by decide +kernel

/-- The link in a state with its counts one short of their limits, or well below, and a SPLIT change pending. -/
def brink (st : LinkState) (last : Bool) (s : State) : State :=
  { linked st (busy .setSplit s) with
    link :=
      { (linked st s).link with
        lossRun := if last then 7 else 6, monitorFrames := if last then 255 else 254, monitorErrors := 7
        probeFrames := if last then 63 else 62, trialFrame := if last then 15 else 14, trialOwnErrors := 1
        change := some { change := .split 100 100, effective := 5, echoed := false } } }

theorem test_arrivals_at_the_limits :
    runs (.returnWindowArrival none []) (brink .up true rdy)
        (fun t => decide (t.link.state = .probing ∧ t.link.change = none ∧ t.counter .linkLosses = 1)) = true ∧
      runs (.returnWindowArrival none []) { brink .up true rdy with link := { (brink .up true rdy).link with lossRun := 6 } }
        (fun t => decide (t.link.lossRun = 7 ∧ t.link.monitorFrames = 0 ∧ t.mbox.running = none ∧
          t.link.change = some { change := .rate .threeQuarter, effective := 8, echoed := false })) = true ∧
      runs (.returnWindowArrival none []) (brink .probing true rdy)
        (fun t => decide (t.link.probeFrames = 0 ∧ t.link.probeCycles = 1)) = true ∧
      runs (.returnWindowArrival none []) { brink .training true rdy with link := { (brink .training true rdy).link with lossRun := 0 } }
        (fun t => decide (t.link.move = some .probing ∧ t.counter .trainingFailures = 1)) = true := by
  decide +kernel

/-- No header and a header of another frame; a good header with READY clear and set; each link state below its
limits and at them; a block that supersedes a SPLIT change and one that does not. -/
theorem test_meets_ReturnWindowsJudged :
    rdy.link.state = .down ∧ (linked .probing rdy).link.state = .probing ∧
      badHeader rdy none ∧ headerGood 1 (header true 9 0) = false ∧
      headerGood 0 (header false 9 0) = true ∧ readyOf (header false 9 0) = false ∧
      headerGood 0 (header true 9 0) = true ∧ readyOf (header true 9 0) = true ∧
      echoOf (header true 9 0) = none ∧
      ((brink .up false rdy).link.state = .up ∧ (brink .up false rdy).link.lossRun < 7 ∧
        (brink .up false rdy).link.monitorFrames < 255) ∧
      (7 ≤ (brink .up true rdy).link.lossRun ∧ 255 ≤ (brink .up true rdy).link.monitorFrames) ∧
      ((brink .up true rdy).link.supersedes 1 ∧ ¬ (brink .up false rdy).link.supersedes 1) ∧
      ((brink .training false rdy).link.state = .training ∧ (brink .training false rdy).link.lossRun < 7 ∧
        7 ≤ (brink .training true rdy).link.lossRun ∧ (brink .training true rdy).link.trialFrame = 15) ∧
      ((brink .probing false rdy).link.probeFrames = 62 ∧ (brink .probing true rdy).link.probeFrames = 63) ∧
      (brink .up true rdy).mbox.running = some { code := Command.setSplit.code, tag := 7 } := by
  refine ⟨by decide +kernel, by decide +kernel, fun h hh => (nomatch hh), ?_⟩
  unfold LinkUnit.supersedes; decide +kernel

/-- A return parcel with its check: kind, flags, target, and 8 bytes of payload. -/
def found (kind flags target : Byte) : List Byte :=
  padTo 64 (withCheck (padTo 28 [kind, flags, 8, 0, target, 3, 1, 0, 0, 0] ++ List.replicate 8 0x11))

/-- A window of three parcels: a pattern and a CMSG pass, a kind that the direction does not carry makes the
rest unusable; a check that fails is one error; a window with no room for the parcel. -/
theorem test_meets_ReturnWindowsJudged_parcels :
    let body := found 0x14 0 0 ++ found 0x20 0x10 0 ++ found 0x13 0 0
    (findParcels body 3 0 6).map Found.isError = [false, false, true] ∧
      (findParcels body 3 0 3).map Found.isError = [false, true, true] ∧
      (findParcels (0x14 :: List.replicate 63 0) 1 0 15).map Found.isError = [true] ∧
      (Found.parcel [0x20, 0, 0, 0, 2] []).isError = true ∧ (Found.parcel [0x20, 0, 0, 0, 1] []).isError = false ∧
      Answer.ofByte 0x81 = .ack true ∧ Answer.ofByte 0x02 = .nak false ∧ Answer.ofByte 0x80 = .none := by
  decide +kernel

/-- A header that carries an ACK for ring 0, HOLD 7 for the lanes of VIDEO and ring 0, and the echo of a change. -/
theorem test_up_arrival_hands_out :
    let h := withCheck (padTo 28 [4, 0, 1, 9, 0x01, 0, 0, 0, 3, 7, 0, 2, 1, 100, 0, 100, 0, 1, 0])
    let s := inringed 1 (nearChange (.split 100 100) false (ringed .reliable (.inFlight record) rdy))
    let s : State := { s with link := { s.link with cells := (32, 16) } }
    runs (.returnWindowArrival (some h) (found 0x20 0x10 0)) s
      (fun t => decide ((t.rings.outbound[0]).consumer = 1 ∧ t.sched.hold[0] = 7 ∧ t.sched.hold[1] = 7 ∧
        t.sched.hold[2] = 0 ∧ t.link.change.any PendingChange.echoed = true ∧
        (t.rings.inbound[0]).toSend = .none ∧ (t.rings.inbound[0]).landing ≠ .idle)) = true := by decide +kernel

theorem test_meets_ProbeCycleAndTrialEnd :
    (probed rdy).link.state = .probing ∧ (probed rdy).link.probeFrames = 64 ∧
      ∀ n ∈ [1, 2], ∀ r ∈ [Rate.quarter, .half], (tried n r rdy).link.state = .training ∧
        (tried n r rdy).link.trialFrame = 15 ∧ (tried n r rdy).link.returnTaken = true ∧
        (tried n r rdy).link.move = none := by decide +kernel

theorem test_meets_BlockJudgementAndLoss :
    (∀ n ∈ [7, 8], (monitored n rdy).link.state = .up ∧ (monitored n rdy).link.monitorFrames = 256 ∧
        (monitored n rdy).link.change = none) ∧
      (losing .up rdy).link.lossRun = 8 ∧ (losing .training rdy).link.state = .training := by decide +kernel

/-- UP with bound rings, and LINK CONTROL's P0. -/
def leaving (v : Word) : State := slot 0 v (ringed .reliable (.inFlight record) (inringed 2 (linked .up rdy)))

theorem test_meets_LeavingUpClearsSession :
    (leaving 2).RunningMatches ∧ (leaving 2).Accepts .linkControl 1 ∧ (leaving 2).link.state = .up ∧
      linkOperation (leaving 2).mbox.params = some .disable ∧ (leaving 3).RunningMatches ∧
      (leaving 3).Accepts .linkControl 1 ∧ linkOperation (leaving 3).mbox.params = some .retrain ∧
      ((leaving 2).rings.outbound[0]).state ≠ .unbound ∧ ((leaving 2).rings.outbound[0]).kind = .reliable ∧
      ((leaving 2).rings.outbound[0]).head = .inFlight record := by
  unfold State.RunningMatches State.Accepts; decide +kernel

/-- An outbound ring of each kind with a record that was sent; a landing in progress; a stream that drains with its
queue and one that does not; lines queued of a slot's frame. -/
theorem test_meets_left_up :
    ((ringed .plain (.placed record) rdy).rings.outbound[0]).head.unsent = .ready record ∧
      ((ringed .plain (.placed record) rdy).rings.outbound[0]).kind = .plain ∧
      (rdy.rings.outbound[0]).state = .unbound ∧
      (Landing.inProgress 3 1 (some true)).unanswered = .inProgress 3 1 none ∧
      ¬ (fetching (framed rdy)).drainsWithQueue ∧ (fetching (framed rdy)).queuedLines 0 = 1 ∧
      ((fetching (framed rdy)).tracker.slots[0]).unfinished = 2 ∧
      (draining (fetching (streaming rdy))).drainsWithQueue := by
  unfold State.drainsWithQueue; decide +kernel

/-- A loss from UP ends SET SPLIT with its pending change, or the drain and CLOSE STREAM with the queue. -/
theorem test_loss_from_up_clears :
    let s := busy .setSplit (losing .up (fetching (ringed .plain (.placed record) rdy)))
    let s : State :=
      { s with link := { s.link with change := some { change := .split 100 100, effective := 9, echoed := false } } }
    (s.link.splitPending = true ∧ (losing .up rdy).link.splitPending = false ∧
        s.mbox.running = some { code := Command.setSplit.code, tag := 7 }) ∧
      runs .linkLoss s
        (fun t => decide (t.link.change = none ∧ t.mbox.running = none ∧ t.sched.queue = [] ∧ t.sched.window = [] ∧
          t.counter .jobsSunk = 1 ∧ (t.rings.outbound[0]).head = .ready record)) = true ∧
      runs .linkLoss (draining (fetching (streaming (losing .up rdy))))
        (fun t => decide (t.tracker.stream.state = .closed ∧ t.mbox.running = none ∧
          t.eventPending .streamClosed = true)) = true := by decide +kernel

/-- Lengths 1 and 992 fit; 0 and 993 do not, nor does a buffer that ends past the address space. -/
theorem test_meets_RecordFetchResponseTaken :
    takeNth OwnRequest.isRecordFetch 0 (fetchingRecord rdy).path.ownOut =
        some (ownRead (.recordFetch 0 0), []) ∧ ((fetchingRecord rdy).rings.outbound[0]).head = .fetching 0 ∧
      (1 ≤ fieldAt [1, 0] 0 2 ∧ fieldAt [1, 0] 8 8 + fieldAt [1, 0] 0 2 ≤ 2 ^ 40) ∧
      fieldAt [0xE0, 3] 0 2 = 992 ∧ fieldAt [] 0 2 = 0 ∧ fieldAt [0xE1, 3] 0 2 = 993 ∧
      (((fetchingRecord rdy).rings.outbound[0]).producerSeen ≠ ((fetchingRecord rdy).rings.outbound[0]).consumer ∧
        (OutRing.unbound.producerSeen = OutRing.unbound.consumer)) ∧
      2 ^ 40 < fieldAt [1, 0, 0, 0, 0, 0, 0, 0, 0, 0, 0, 0, 0, 1] 8 8 +
        fieldAt [1, 0, 0, 0, 0, 0, 0, 0, 0, 0, 0, 0, 0, 1] 0 2 := by decide +kernel

/-- The record after a BAD_RECORD one is fetched where one is pending, and none where none is. -/
theorem test_bad_record_fetches_the_next :
    let s := fetchingRecord rdy
    let o := s.rings.outbound[0]
    let last : State :=
      { s with rings := { s.rings with outbound := s.rings.outbound.set 0 { o with producerSeen := 1 } } }
    (o.state = .active ∧ o.producerSeen ≠ o.consumer + 1) ∧
      runs (.recordFetchResponse 0 false []) s (fun t => decide (t.path.egress.map OwnRequest.addr = [0x4040])) = true ∧
      runs (.recordFetchResponse 0 false []) last
        (fun t => decide (t.path.egress = [] ∧ (t.rings.outbound[0]).head = .empty)) = true := by decide +kernel

/-- Each state of a ring, and an index at the count, past it, at the taken count and below it. -/
theorem test_meets_IndexWritesJudged :
    (rdy.rings.outbound[0]).state = .unbound ∧ ((haltedRings rdy).rings.outbound[0]).state = .halted ∧
      ((ringed .plain (.ready record) rdy).rings.outbound[0]).state = .active ∧
      ((ringed .plain (.ready record) rdy).rings.outbound[0]).count = 4 ∧
      ((ringed .plain (.ready record) rdy).rings.outbound[0]).head.takenCount = 1 ∧
      ((ringed .plain .empty rdy).rings.outbound[0]).head.takenCount = 0 ∧
      (rdy.rings.inbound[0]).state = .unbound ∧ ((haltedRings rdy).rings.inbound[0]).state = .halted ∧
      ((inringed 4 rdy).rings.inbound[0]).state = .active ∧ ((inringed 4 rdy).rings.inbound[0]).occupied = 4 := by
  decide +kernel

/-- Each row of R111's table, and a message that is landed. -/
theorem test_meets_CmsgAnsweredByTable :
    let q := (inringed 3 rdy).rings.inbound[0]
    (rdy.rings.inbound[0]).state ≠ .active ∧ q.state = .active ∧ message.poison = false ∧
      message.payload.length = 8 ∧ (List.replicate 993 (0 : Byte)).length = 993 ∧ message.sync = false ∧
      q.lastAccepted ≠ some message.toggle ∧ ({ q with lastAccepted := some true }).lastAccepted = some message.toggle ∧
      q.landing = .idle ∧ q.occupied = 3 ∧ q.count = 4 ∧
      ((inringed 4 rdy).rings.inbound[0]).occupied = ((inringed 4 rdy).rings.inbound[0]).count ∧
      (let b := (returning 31 none rdy).rings.ret
       b.bound = true ∧ returnPiece.poison = false ∧ returnPiece.payload.length = 16 ∧ returnPiece.line < b.lines ∧
         returnPiece.offset + returnPiece.payload.length ≤ b.pitch ∧ (b.buffer true).left < 32 ∧
         ¬ ((returning 32 none rdy).rings.ret.buffer true).left < 32) ∧
      (((returning 0 none rdy).rings.ret.buffer true).left = 0 ∧ rdy.rings.ret.bound = false ∧
        (returning 0 none rdy).rings.ret.doneWord = some 0x7000) := by
  decide +kernel

/-- With another answer not yet sent: a NAK and a duplicate's ACK taken with landing IDLE, and while one is in
progress. -/
theorem test_meets_CmsgAnsweredByTable_landing :
    let s := inringed 4 rdy
    let with' (l : Landing) (last : Option Bool) : State :=
      { s with
        rings :=
          { s.rings with
            inbound := s.rings.inbound.set 0
              { s.rings.inbound[0] with landing := l, lastAccepted := last, toSend := .ack false } } }
    (((with' .idle none).takeCmsg 0 message).rings.inbound[0]).toSend = .nak true ∧
      (((with' .idle (some true)).takeCmsg 0 message).rings.inbound[0]).toSend = .ack true ∧
      (((with' (.inProgress 3 1 none) none).takeCmsg 0 message).rings.inbound[0]).toSend = .ack false ∧
      (((with' (.inProgress 3 1 none) (some true)).takeCmsg 0 message).rings.inbound[0]).toSend = .ack false := by
  decide +kernel

/-- A slot at 0x10C00 takes its header, 8 bytes and the producer word; 300 bytes from 0x10C20 take two writes. -/
theorem test_landing_writes :
    ((inringed 3 rdy).takeCmsg 0 message).path.other.map OwnRequest.addr = [0x10C00, 0x10C20, 0x6010] ∧
      chunks 300 0x10C20 300 = [(0x10C20, 224), (0x10D00, 76)] ∧
      ((returning 31 none rdy).takePiece returnPiece).path.other.map OwnRequest.addr = [0x20140] ∧
      ((returning 0 none rdy).takeReturnEnd true 8 false).path.other.map OwnRequest.addr = [0x7000] := by
  decide +kernel

/-- A NAK with the ring's toggle, with another, and one when nothing is in flight. -/
theorem test_meets_ReliableSendEnds_nak :
    ((waitingAck 1 rdy).takeAnswer 0 (.nak false)).rings.outbound[0].head = .ready record ∧
      (((waitingAck 2 rdy).takeAnswer 0 (.nak false)).rings.outbound[0]).cause = .failed ∧
      true ≠ ((waitingAck 1 rdy).rings.outbound[0]).toggle ∧
      (∀ sr, ((ringed .reliable (.ready record) rdy).rings.outbound[0]).head ≠ .inFlight sr) := by
  refine ⟨?_, ?_, ?_, fun sr h => nomatch (show HeadRecord.ready record = .inFlight sr from h)⟩ <;>
    decide +kernel

theorem test_meets_ReliableSendEnds :
    ((waitingAck 1 rdy).rings.outbound[0]).head = .inFlight record ∧
      ((waitingAck 1 rdy).rings.outbound[0]).kind = .reliable ∧ (waitingAck 1 rdy).link.state = .up ∧
      reached (waitingAck 1 rdy).link.count (((waitingAck 1 rdy).rings.outbound[0]).sentFrame + 4) = true ∧
      ((waitingAck 1 rdy).rings.outbound[0]).sendCount < record.retry + 1 ∧
      record.retry + 1 ≤ ((waitingAck 2 rdy).rings.outbound[0]).sendCount ∧
      256 ≤ ((waitingAck 256 rdy).rings.outbound[0]).sendCount ∧
      ((ringed .reliable (.ready record) rdy).rings.outbound[0]).head = .ready record ∧
      0 < ((ringed .reliable (.ready record) rdy).rings.outbound[0]).sendCount ∧
      ((ringed .reliable .empty rdy).rings.outbound[0]).acknowledgeable = none := by decide +kernel

/-- An ACK that is ignored: of the other toggle, or with each of the four heads. One that is taken fetches the next
record. -/
theorem test_meets_ReliableSendEnds_ignored :
    let never (s : State) : State :=
      { s with
        rings := { s.rings with outbound := s.rings.outbound.set 0 { s.rings.outbound[0] with sendCount := 0 } } }
    (∀ h ∈ [HeadRecord.empty, .fetching 3, .placed record],
        ((ringed .reliable h rdy).rings.outbound[0]).head = h ∧
          (ringed .reliable h rdy).takeAnswer 0 (.ack false) = ringed .reliable h rdy) ∧
      (((never (ringed .reliable (.ready record) rdy)).rings.outbound[0]).sendCount = 0 ∧
        ((never (ringed .reliable (.ready record) rdy)).takeAnswer 0 (.ack false)).path.other = []) ∧
      (true ≠ ((waitingAck 1 rdy).rings.outbound[0]).toggle ∧
        ((waitingAck 1 rdy).takeAnswer 0 (.ack true)).path.other = []) ∧
      ((waitingAck 1 rdy).takeAnswer 0 (.ack false)).path.egress.map OwnRequest.addr = [0x4040] := by
  decide +kernel

theorem test_meets_ParameterAndAcknowledgeWords :
    State.reset.path.mode = .initializing ∧ rdy.path.mode = .ready := by decide +kernel

theorem test_meets_LaunchWhileRunningIsLost :
    launchOf (.setEvents 1 3) = some (Command.setEvents.code, 1, 3) ∧ (Instr.setEvents 1 3).wf = true ∧
      (busy .closeStream rdy).path.mode = .ready ∧ (busy .closeStream rdy).mbox.running.isSome = true ∧
      Command.setEvents.code ≠ Command.restart.code ∧
      launchOf (.restart 1 3) = some (Command.restart.code, 1, 3) := by decide +kernel

/-- Ring 0 HALTED with a written index that does not fit. -/
def producerPast (s : State) : State :=
  let t := haltedRings s
  { t with
    rings :=
      { t.rings with
        outbound := t.rings.outbound.set 0 { t.rings.outbound[0] with producerWritten := 9 } } }

/-- One launch for each check that can fail first. -/
theorem test_meets_FailedLaunchWritesResult :
    rdy.path.mode = .ready ∧ rdy.mbox.running = none ∧ Command.ofCode 0x20 = none ∧
      (Instr.unknownOp 0x20 0 9).wf = true ∧ Command.ofCode 0x10 = some .setEvents ∧
      (2 : BitVec 4).toNat ≠ Command.setEvents.paramCount ∧ rdy.mbox.anyStale 1 = true ∧
      (slot 0 1024 rdy).mbox.anyStale 1 = false ∧
      Command.setEvents.check (slot 0 1024 rdy).mbox.params (slot 0 1024 rdy) = some .range ∧
      linkOperation (slot 0 0x501 rdy).mbox.params = some .enable ∧
      Command.linkControl.check (slot 0 0x501 rdy).mbox.params (slot 0 0x501 rdy) = some .range ∧
      (let s := slot 0 0 (producerPast rdy)
       (s.rings.outbound[0]).state = .halted ∧ s.mbox.anyStale 1 = false ∧ s.mbox.params[0].toNat % 256 = 0 ∧
         Command.resumeRing.check s.mbox.params s = some .range) ∧
      Command.resumeRing.check (slot 0 0 rdy).mbox.params (slot 0 0 rdy) = some .stateError := by
  decide +kernel

/-- The checks of a command in order: none fails on a launch that is accepted, and the first that fails is the
code. -/
theorem test_meets_FailedLaunchWritesResult_checks :
    let firstFailed (c : Command) (s : State) : Option ErrorCode := ((s.ownChecks c).find? (fun x => x.1)).map Prod.snd
    firstFailed .makeWindow (makeSlots rdy) = none ∧
      firstFailed .makeWindow (slot 2 0x1001 (makeSlots rdy)) = some .range ∧
      firstFailed .makeWindow (slot 0 0x100 (streaming (makeSlots rdy))) = some .inUse ∧
      firstFailed .openStream (streamSlots (mapped rdy)) = none ∧
      firstFailed .openStream (streamSlots (streaming rdy)) = some .stateError ∧
      firstFailed .bindRing (ringSlots 0 (ringed .plain .empty rdy)) = some .inUse ∧
      firstFailed .unbind (slot 0 0 rdy) = some .stateError ∧
      firstFailed .setSplit (slot 0 0x00100020 rdy) = none := by decide +kernel

theorem test_meets_MapCommandsChangeOneEntry :
    (makeSlots rdy).mbox.params[0].toNat % 256 = 3 ∧ (makeSlots rdy).Accepts .makeWindow 6 ∧
      (slot 0 31 (mapped rdy)).mbox.params[0].toNat % 256 = 31 ∧ (slot 0 31 (mapped rdy)).Accepts .clearWindow 1 ∧
      (slot 0 0 (mapped rdy)).mbox.params[0].toNat % 256 = 0 ∧ (slot 0 0 (mapped rdy)).Accepts .lockWindow 1 ∧
      ((slot 0 32 rdy).mbox.params[0].toNat % 256 = 32 ∧
        (slot 0 32 rdy).mbox.anyStale Command.clearWindow.paramCount = false ∧
        (slot 0 0x120 (makeSlots rdy)).mbox.anyStale Command.makeWindow.paramCount = false ∧
        (slot 0 0x120 (makeSlots rdy)).mbox.params[0].toNat % 256 = 32) := by
  unfold State.Accepts; decide +kernel

/-- The largest CAPTURE geometry and a GUARD window at the top of the address space are accepted; one step past each
bound, ID 15, a bad kind and the mailbox page are not. -/
theorem test_meets_MapCommandsChangeOneEntry_ranges :
    let capture (p4 p5 size : Nat) : State :=
      slot 5 (BitVec.ofNat 64 p5) (slot 4 (BitVec.ofNat 64 p4) (slot 2 (BitVec.ofNat 64 size) (makeSlots rdy)))
    let guarded (base size sets : Nat) : State :=
      slot 3 (BitVec.ofNat 64 sets) (slot 2 (BitVec.ofNat 64 size) (slot 1 (BitVec.ofNat 64 base)
        (slot 0 0x203 (makeSlots rdy))))
    let check (s : State) : Option ErrorCode := Command.makeWindow.check s.mbox.params s
    (capture (8192 + 65536 * 2 ^ 32) 65536 65536).Accepts .makeWindow 6 ∧
      check (capture (8208 + 65536 * 2 ^ 32) 65536 65536) = some .range ∧
      check (capture (8192 + 65552 * 2 ^ 32) 131072 131072) = some .range ∧
      check (capture (16 + 16 * 2 ^ 32) 272 256) = some .range ∧
      (guarded 0xFFFFF10000 0xF0000 0x7FFF7FFF).Accepts .makeWindow 6 ∧
      check (guarded 0xFFFFF10000 0xF0100 0) = some .range ∧ check (guarded 0 256 0x8000) = some .range ∧
      check (guarded 0xFFFFF00F00 256 0) = some .range ∧
      check (slot 0 0x303 (makeSlots rdy)) = some .range := by
  unfold State.Accepts; decide +kernel

theorem test_meets_WalkReportsNextEntry :
    rdy.path.mode = .ready ∧ rdy.mbox.running = none ∧ ((mapped rdy).map.windows[0]).kind ≠ .free ∧
      ∀ i : Fin 32, (rdy.map.windows[i]).kind = .free := by decide +kernel

theorem test_meets_WalkCursorMoves :
    State.reset.CursorInRange ∧ step State.reset = .next State.reset ∧ mayReset .release = false := by
  unfold State.CursorInRange; exact ⟨by decide +kernel, rfl, rfl⟩

theorem test_meets_StreamOpensAndCloses :
    (streamSlots (mapped rdy)).Accepts .openStream 4 ∧ (streaming rdy).Accepts .closeStream 0 ∧
      (framed rdy).Accepts .closeStream 0 ∧ (framed rdy).tracker.frames ≠ [] ∧
      (streaming rdy).tracker.frames = [] ∧ (streaming rdy).sched.queue = [] := by
  unfold State.Accepts; decide +kernel

theorem test_meets_BindingsStartFresh :
    (ringSlots 0 rdy).Accepts .bindRing 4 ∧ (ringSlots 0 rdy).mbox.params[0].toNat % 256 = 0 ∧
      (ringSlots 3 rdy).Accepts .bindRing 4 ∧ (ringSlots 5 rdy).Accepts .bindRing 4 ∧
      (ringSlots 5 rdy).mbox.params[0].toNat % 256 = 5 ∧ (returnSlots rdy).Accepts .bindReturn 4 := by
  unfold State.Accepts; decide +kernel

theorem test_meets_UnbindAndResume :
    (slot 0 0 (ringed .plain .empty rdy)).Accepts .unbind 1 ∧ (slot 0 4 (inringed 2 rdy)).Accepts .unbind 1 ∧
      (slot 0 6 (after (.bindReturn 4 1) (returnSlots rdy))).Accepts .unbind 1 ∧
      (slot 0 0 (haltedRings rdy)).Accepts .resumeRing 1 ∧ (slot 0 4 (haltedRings rdy)).Accepts .resumeRing 1 := by
  unfold State.Accepts; decide +kernel

theorem test_meets_ScheduleLoadsAndStages :
    (slot 0 0x100 rdy).Accepts .loadSchedule 1 ∧
      takeNth OwnRequest.isImageRead 0 (imageAwaited rdy).path.ownOut = some (ownRead .scheduleImage, []) ∧
      (imageAwaited rdy).mbox.running = some { code := Command.loadSchedule.code, tag := 7 } := by
  unfold State.Accepts; decide +kernel

/-- An image of one entry at the front of slot 0. -/
def image (source quota : Byte) : List Byte := source :: quota :: List.replicate 126 0

/-- The bounds of source and quota, an UNBOUND ring, a fault of both kinds, and an entry after an end entry. -/
theorem test_meets_ScheduleLoadsAndStages_images :
    let u := (ringed .plain .empty rdy).rings
    validateImage u (image 6 0) 16 0 = .error (.range, 0, 0) ∧
      validateImage u (image 1 64) 16 0 = .error (.range, 0, 0) ∧
      validateImage u (image 3 0) 16 0 = .error (.unboundError, 0, 0) ∧
      validateImage u (image 3 64) 16 0 = .error (.range, 0, 0) ∧
      validateImage u (0 :: 0 :: 9 :: List.replicate 125 0) 16 0 = .ok (List.replicate 16 []) ∧
      validateImage u (1 :: 0 :: 9 :: List.replicate 125 0) 16 0 = .error (.range, 0, 1) ∧
      ((validateImage u (image 2 63) 16 0).toOption.map (fun l => (scheduleOf l)[0])) =
        some [{ source := .ring 0, quota := 63 }] ∧
      ((validateImage u (List.replicate 8 [1, 5] |>.flatten) 16 0).toOption.map (fun l => (scheduleOf l)[0].length)) =
        some 8 := by
  refine ⟨?_, ?_, ?_, ?_, ?_, ?_, ?_, ?_⟩ <;> decide +kernel

theorem test_due_counts :
    dueCount 15 .nextFrame = 16 ∧ dueCount 15 .nextCycle = 16 ∧ dueCount 16 .nextCycle = 32 ∧
      dueCount 0xFFFFFFFF .nextCycle = 0 := by decide +kernel

theorem test_meets_SetSplitStoresOrCreatesChange :
    (slot 0 0x00100020 rdy).Accepts .setSplit 1 ∧ (slot 0 0x01000500 (linked .up rdy)).Accepts .setSplit 1 := by
  unfold State.Accepts; decide +kernel

theorem test_meets_LinkControlMovesLink :
    (slot 0 0x301 rdy).Accepts .linkControl 1 ∧ linkOperation (slot 0 0x301 rdy).mbox.params = some .enable ∧
      linkCeiling (slot 0 0x301 rdy).mbox.params = some .full ∧
      (slot 0 2 rdy).Accepts .linkControl 1 ∧ linkOperation (slot 0 2 rdy).mbox.params = some .disable ∧
      (slot 0 3 (linked .training rdy)).Accepts .linkControl 1 ∧
      linkOperation (slot 0 3 (linked .training rdy)).mbox.params = some .retrain := by
  unfold State.Accepts; decide +kernel

theorem test_meets_SnapshotCapturesInOrder :
    (slot 0 2 rdy).Accepts .snapshotCounters 1 ∧ snapshotOption (slot 0 2 rdy).mbox.params = some .preset ∧
      (walking 58 rdy).status.snapshot = some { option := .preset, next := (58 : Fin 59).val, left := 0 } ∧
      (walking 58 rdy).path.other.any (fun q => decide (q.owner = .snapshot)) = false := by
  unfold State.Accepts; decide +kernel

theorem test_meets_SetEventsReplacesEnableSet :
    (slot 0 0x3ff rdy).path.mode = .ready ∧ (slot 0 0x3ff rdy).mbox.running = none ∧
      ((slot 0 0x3ff rdy).mbox.slots[0]).fresh = true ∧ (slot 0 0x400 rdy).path.mode = .ready ∧
      (slot 0 0x400 rdy).mbox.running = none ∧ ((slot 0 0x400 rdy).mbox.slots[0]).fresh = true := by
  decide +kernel

theorem test_meets_AttnFollowsEnabledEvents :
    rdy.path.mode = .ready ∧ State.reset.InitializingQuiet ∧
      (∃ t, exec .restartN State.reset = .next t ∧ t.path.mode = .initializing) := by
  unfold State.InitializingQuiet
  exact ⟨rfl, by decide +kernel, _, rfl, by decide +kernel⟩

theorem test_meets_StatusWriteCarriesHeadOfDueList :
    ({ rdy with status := { rdy.status with due := [16, 3] } }).status.due = 16 :: [3] ∧
      rdy.path.other.any (fun q => decide (q.owner = .status)) = false ∧
      State.reset.path.other.any (fun q => decide (q.owner = .status)) = true := by decide +kernel

/-- A field of each group of status words, by value, and a guard fault recorded. -/
theorem test_status_words :
    let s := framed (ringed .reliable .empty (inringed 2 (linked .up rdy)))
    let g := after (.upstreamRequest (readAt 0x5000 15)) rdy
    s.statusWord 0 = 0x303010301 ∧ s.statusWord 4 = 0x50101 ∧ s.statusWord 5 = 1 ∧ s.statusWord 6 = 0x10001 ∧
      s.statusWord 7 = 0 ∧ s.statusWord 10 = 1 ∧ s.statusWord 12 = 0 ∧ s.statusWord 20 = 0 ∧
      g.statusWord 15 = 0x100 ∧ g.statusWord 17 = 0x5000 ∧ g.statusWord 18 = 0x41000F01 ∧
      rdy.statusWord 17 = 0 ∧ rdy.statusWord 18 = 0 ∧
      (changing (.split 100 80) true rdy).statusWord 2 = 0x005000640102 ∧
      bytesAt s.statusBlock 32 8 = [1, 1, 5, 0, 0, 0, 0, 0] := by decide +kernel

/-- A word that changes; an index past the count of a ring; a record that fails with its attention flag; a WHOLE
head line while UP. -/
theorem test_meets_ChangedWordsBecomeDueOnce :
    runs (.setEvents 1 3) (slot 0 0x3ff rdy) (fun t => decide (t.path.mode = .ready ∧
      (slot 0 0x3ff rdy).statusWord 16 ≠ t.statusWord 16)) = true ∧ State.reset.DueDistinct ∧
      runs (.producerIndexWrite 0 5) (ringed .plain .empty rdy) (fun t => decide (t.status.due = [6, 15])) = true ∧
      runs (.ackTimeout 0) (waitingAck 2 rdy) (fun t => decide (t.status.due = [15, 6])) = true ∧
      runs .release { settledLine (linked .up rdy) with status := rdy.status }
        (fun t => decide (t.status.due = [5, 4])) = true ∧
      (settledLine (linked .up rdy)).EntriesDistinct := by
  unfold State.DueDistinct State.EntriesDistinct; decide +kernel

/-- A snapshot step with CLEAR takes counter 34 from 1 to 0 and leaves its index at 35; a release takes it
from 1 to 2. -/
theorem test_meets_CountersNeverFall :
    let s := settledLine (rdy.count .linesWhole)
    let walk : State :=
      { s with status := { s.status with snapshot := some { option := .clear, next := 34, left := 0 } } }
    runs .snapshotStep walk (fun t => decide ((t.status.counters[34]).toNat < (walk.status.counters[34]).toNat ∧
      t.status.snapshot = some { option := .clear, next := 35, left := 1 })) = true ∧
      runs .release s (fun t => decide (t.status.counters[34] = 2)) = true ∧
      ([Tap.control .launch (some 0x1010F)].filter Tap.isLaunch).length ≤ 1 := by decide +kernel

theorem test_meets_LockedEntriesKept :
    runs .restartN (after (.lockWindow 1 1) (slot 0 0 (mapped rdy)))
      (fun t => decide ((t.map.windows[0]).locked = true ∧ t.map.windows[0] =
        { window0 with locked := true })) = true := by decide +kernel

/-- Whether a step with a command in front answers a next state of which `p` holds. -/
def steps (c : Instr) (s : State) (p : State → Bool) : Bool :=
  match step { s with pending := [c] } with
  | .next t => p t
  | _ => false

/-- For each law a state that meets it and a command that changes what it speaks of: the queues at a hold
expiry, the table and the video queue at a release, the frame list at a mark, the mode at a restart, the link's
counts at a return window, the split at SET SPLIT, the command that is RUNNING at CLOSE STREAM, and the indices
and heads of the rings. -/
theorem test_meets_laws_kept :
    ((held 2 rdy).PathBounded ∧ steps (.holdExpiry 1) (held 2 rdy) (fun t => decide (t.path.hold = [])) = true) ∧
      ((settledLine (linked .up rdy)).QueueBounded ∧ (settledLine rdy).EntriesDistinct ∧
        steps .release (settledLine (linked .up rdy)) (fun t => decide (t.sched.queue.length = 1 ∧
          t.stitch.entries.map LineEntry.line = [1])) = true) ∧
      ((framed rdy).FramesOnSlots ∧ steps (.frameMark 0x9000 0x00000006) (framed rdy)
        (fun t => decide (t.tracker.frames.map FrameRecord.frame = [6])) = true) ∧
      ((held 2 rdy).InitializingQuiet ∧ steps .restartN (held 2 rdy)
        (fun t => decide (t.path.mode = .initializing ∧ t.path.pass.length = 2)) = true) ∧
      ((linked .up rdy).LinkInRange ∧ steps (.returnWindowArrival none []) (linked .up rdy)
        (fun t => decide (t.link.lossRun = 1 ∧ t.link.monitorFrames = 1)) = true) ∧
      ((streaming rdy).RunningMatches ∧ steps (.closeStream 0 1) (framed rdy)
        (fun t => decide (t.tracker.stream.state = .draining ∧ t.isRunning .closeStream = true)) = true) ∧
      ((inringed 4 rdy).InboundBounded ∧ steps (.consumerIndexWrite 0 2) (inringed 4 rdy)
        (fun t => decide ((t.rings.inbound[0]).occupied = 2)) = true) ∧
      ((ringed .plain .empty rdy).OutboundIndexed ∧ steps (.producerIndexWrite 0 3) (ringed .plain .empty rdy)
        (fun t => decide ((t.rings.outbound[0]).pendingCount = 3)) = true) := by
  unfold State.PathBounded State.QueueBounded State.EntriesDistinct State.FramesOnSlots State.InitializingQuiet
    State.LinkInRange State.RunningMatches State.InboundBounded State.OutboundIndexed OutRing.indexed
  decide +kernel

/-- A chain of a leader and a follower is worked by a hold expiry. -/
theorem test_meets_chains_law :
    (held 2 rdy).ChainsLed ∧ steps (.holdExpiry 1) (held 2 rdy) (fun t => decide (t.path.hold = [])) = true := by
  refine ⟨fun i => ?_, by decide +kernel⟩
  by_cases h : i = 1
  · subst h; exact ⟨rfl, by decide +kernel⟩
  · have e : (held 2 rdy).path.hold.filter (fun x => x.request.initiator == i) = [] := by
      simp only [held, readAt, List.filter_eq_nil_iff, List.mem_map, beq_iff_eq]
      rintro a ⟨k, -, rfl⟩; exact Ne.symm h
    rw [e]; trivial

/-- A record is PLACED, and then retired, on a PLAIN ring; the split is stored by SET SPLIT. -/
theorem test_meets_heads_and_split_laws :
    ((ringed .plain (.placed record) rdy).rings.outbound[0]).headFits ∧
      steps (.payloadFetchComplete 1 false [])
        { outstanding [ownRead (.payload 1)] (ringed .plain (.placed record) rdy) with
          sched := { rdy.sched with window := [ringParcel] } }
        (fun t => decide ((t.rings.outbound[0]).consumer = 1)) = true ∧
      splitInRange rdy.link.splitF rdy.link.splitRt ∧
      steps (.setSplit 1 1) (slot 0 0x00100020 rdy) (fun t => decide (t.link.splitF = 32 ∧ t.link.splitRt = 16)) = true := by
  unfold splitInRange; exact ⟨rfl, by decide +kernel⟩

theorem test_reset_meets_laws :
    State.reset.PathBounded ∧ State.reset.QueueBounded ∧ State.reset.EntriesDistinct ∧
      State.reset.InitializingQuiet ∧ State.reset.LinkInRange ∧ State.reset.RunningMatches ∧
      State.reset.InboundBounded ∧ State.reset.FramesOnSlots ∧ State.reset.OutboundIndexed := by
  unfold State.PathBounded State.QueueBounded State.EntriesDistinct State.InitializingQuiet State.LinkInRange
    State.RunningMatches State.InboundBounded State.FramesOnSlots State.OutboundIndexed OutRing.indexed
  decide +kernel

theorem test_reset_chains_led : State.reset.ChainsLed := by intro i; trivial

theorem test_reset_split_in_range : State.reset.SplitInRange :=
  ⟨by unfold splitInRange; decide, fun _ h => nomatch h⟩

theorem test_reset_heads_fit : State.reset.HeadsFit := fun r =>
  match r with
  | 0 | 1 | 2 | 3 => trivial

end Sys2Proof.Tests
end

/-!
The block of a request that carries the part's own ID (R2): what classification, a block and the upstream port
do, each said once, and the obligation from them.
-/

namespace Sys2Proof.Machine

/-! ### Classification -/

/-- A write that reaches the watch word step passes (R6). -/
@[simp] theorem watchStep_ne_block (s : State) (taps : List Tap) (a : Nat) (data : List Byte) (o : Origin) :
    s.watchStep taps a data ≠ .block o := by
  simp [State.watchStep]

/-- The protection alone blocks a request, and its origin is that of the block (R2, R3, R5). -/
theorem classify_eq_block_iff (s : State) (r : Request) (o : Origin) :
    s.classify r = .block o ↔ s.protection r = some o := by
  unfold State.classify
  cases hp : s.protection r with
  | some p => simp
  | none =>
    refine iff_of_false ?_ (by simp)
    cases s.path.mode with
    | initializing => simp
    | ready =>
      cases r.access with
      | read n => simp
      | write data =>
        dsimp only
        split
        case isTrue inPage => exact watchStep_ne_block _ _ _ _ _
        case isFalse outside =>
          cases s.lookup r.addr.toNat with
          | none => exact watchStep_ne_block _ _ _ _ _
          | some i =>
            dsimp only
            split
            case h_1 k _ _ => cases s.tracker.mustHold s.map.windows[i] r.addr <;> simp
            case h_2 => exact watchStep_ne_block _ _ _ _ _

/-- The protection names the origin ID15 for the part's own ID, and for no other (R2). -/
theorem protection_eq_id15_iff (s : State) (r : Request) :
    s.protection r = some .id15 ↔ r.initiator = 15 := by
  unfold State.protection
  by_cases hid : r.initiator = 15
  · simp [hid]
  · refine iff_of_false ?_ hid
    dsimp only
    rw [if_neg hid]
    split
    case isTrue inPage => split <;> simp
    case isFalse outside =>
      cases s.lookup r.addr.toNat with
      | none => simp
      | some i => cases (s.map.windows[i]).permits r <;> simp

/-- A request is blocked with origin ID15 exactly when it carries ID 15 (R2). -/
theorem classify_eq_block_id15_iff (s : State) (r : Request) :
    s.classify r = .block .id15 ↔ r.initiator = 15 := by
  rw [classify_eq_block_iff, protection_eq_id15_iff]

/-! ### A block -/

/-- The record that a block with origin `o` makes of its request (R16). -/
def GuardFault.ofBlocked (r : Request) (o : Origin) : GuardFault :=
  { addr := r.addr, initiator := r.initiator, isWrite := r.isWrite, origin := o }

/-- A blocked request is answered ERROR (R12). -/
theorem block_out (r : Request) (o : Origin) (s : State) :
    (s.block r o).out = s.out ++ [.answer r.initiator true []] := by
  unfold State.block
  cases r.isWrite <;> simp

/-- A block fills the guard fault record if it is empty, and does nothing else to the path (R16). -/
theorem block_path (r : Request) (o : Origin) (s : State) :
    (s.block r o).path =
      { s.path with guard := some (s.path.guard.getD (.ofBlocked r o)) } := by
  unfold State.block
  cases hg : s.path.guard with
  | none => cases hwr : r.isWrite <;> simp [hg, hwr, GuardFault.ofBlocked]
  | some g =>
    have hsame : { s.path with guard := some g } = s.path := by rw [← hg]
    cases r.isWrite <;> simp [hg, hsame]

/-- An event just raised is pending (R163). -/
theorem raise_eventPending (e : Event) (s : State) : (s.raise e).eventPending e = true := by
  have habsorb : (s.status.events ||| e.mask) &&& e.mask = e.mask := by
    ext i hi
    simpa using Or.inr
  have hmask : e.mask ≠ 0 := by cases e <;> decide
  simp only [State.eventPending, raise_events, habsorb, decide_eq_true hmask]

/-- A block raises GUARD (R16). -/
theorem block_eventPending_guard (r : Request) (o : Origin) (s : State) :
    (s.block r o).eventPending .guard = true :=
  raise_eventPending .guard _

/-! ### The upstream port -/

/-- A request that classification blocks is blocked when the port takes it, if its initiator has no request in
the hold queue (R1, R7). -/
theorem takeIn_of_classify_block {s : State} {r : Request} {o : Origin}
    (hfree : s.path.holds r.initiator = false) (hc : s.classify r = .block o) :
    s.takeIn r = s.block r o := by
  unfold State.takeIn
  rw [hfree, hc]
  rfl

/-- An open port takes the oldest waiting request, and then those behind it (R1). -/
theorem takeLoop_succ_of_open {n : Nat} {s : State} {r : Request} {rest : List Request}
    (hw : s.path.waiting = r :: rest) (hopen : s.path.portOpen = true) :
    takeLoop (n + 1) s =
      takeLoop n ((s.updPath fun p => { p with waiting := rest }).takeIn r) := by
  rw [takeLoop, hw]
  exact if_pos hopen

/-- An open port at which nothing waits takes a new request at once (R1). -/
theorem takeWaiting_arrival {s : State} {r : Request} (hw : s.path.waiting = [])
    (hopen : s.path.portOpen = true) :
    (s.updPath fun p => { p with waiting := p.waiting ++ [r] }).takeWaiting = s.takeIn r := by
  have hwait : s.path.waiting ++ [r] = [r] := by rw [hw, List.nil_append]
  have hempty : (s.updPath fun p => { p with waiting := [] }) = s := by
    rw [State.updPath, ← hw]
  rw [State.takeWaiting, updPath_path, hwait, List.length_singleton]
  calc takeLoop 1 (s.updPath fun p => { p with waiting := p.waiting ++ [r] })
      = (s.updPath fun p => { p with waiting := [] }).takeIn r := takeLoop_succ_of_open hwait hopen
    _ = s.takeIn r := congrArg (State.takeIn r) hempty

/-- UPSTREAM_REQUEST at an open port with nothing waiting is the taking of that request (R1, R8). -/
theorem exec_upstreamRequest_of_open {s : State} {r : Request} (hwf : r.wf = true)
    (hw : s.path.waiting = []) (hopen : s.path.portOpen = true) :
    exec (.upstreamRequest r) s = .next (mirroredIn ascending (State.takeIn r) s) := by
  have harrive : exec (.upstreamRequest r) s =
      change (fun t => (t.updPath fun p => { p with waiting := p.waiting ++ [r] }).takeWaiting) s :=
    if_pos hwf
  rw [harrive, change_eq, changeIn_eq, mirroredIn, takeWaiting_arrival hw hopen, mirroredIn]

/-! ### The obligation -/

/-- Settles O8: a request with ID 15 is blocked with origin ID15, and the port's block of it is the whole step. -/
theorem partIdIsBlocked : Obligations.PartIdIsBlocked := by
  unfold Obligations.PartIdIsBlocked
  refine ⟨fun r s => ⟨(classify_eq_block_id15_iff s r).2,
    fun hid hc => hid ((classify_eq_block_id15_iff s r).1 hc)⟩, ?_⟩
  intro r s hwf hid hw hopen hfree
  have htake : s.takeIn r = s.block r .id15 :=
    takeIn_of_classify_block (hid ▸ hfree) ((classify_eq_block_id15_iff s r).2 hid)
  refine ⟨_, exec_upstreamRequest_of_open hwf hw hopen, ?_, ?_, ?_⟩
  · rw [mirroredIn_out, htake, block_out, hid]
  · rw [mirroredIn_path, htake, block_path, GuardFault.ofBlocked, hid]
  · rw [State.eventPending, mirroredIn_events, htake]
    exact block_eventPending_guard r .id15 s

end Sys2Proof.Machine

/-!
The walk of the region map (R30 to R32): what the search finds, what a walk step reports and does to the
cursor, and what moves the cursor among all the commands.
-/

namespace Sys2Proof.Machine

/-! ### The search -/

/-- The search finds the index that satisfies `p` and has none below it, from the start on (R31). -/
theorem firstFrom_eq_some_iff {m : RegionMap} {start : Nat} {p : Window → Bool} {i : Fin 32} :
    m.firstFrom start p = some i ↔
      start ≤ i.val ∧ p m.windows[i] = true ∧
        ∀ j : Fin 32, j < i → start ≤ j.val → p m.windows[j] = false := by
  rw [RegionMap.firstFrom, ← Fin.find?_eq_find?_finRange, Fin.find?_eq_some_iff]
  simp [and_assoc]

/-- The search finds nothing exactly when no index from the start on satisfies `p` (R31). -/
theorem firstFrom_eq_none_iff {m : RegionMap} {start : Nat} {p : Window → Bool} :
    m.firstFrom start p = none ↔ ∀ i : Fin 32, start ≤ i.val → p m.windows[i] = false := by
  rw [RegionMap.firstFrom, ← Fin.find?_eq_find?_finRange, Fin.find?_eq_none_iff]
  simp

/-- A window is valid when its entry is not FREE (R20). -/
theorem valid_eq_true_iff (w : Window) : w.valid = true ↔ w.kind ≠ .free := by simp [Window.valid]

/-- A window is not valid when its entry is FREE (R20). -/
theorem valid_eq_false_iff (w : Window) : w.valid = false ↔ w.kind = .free := by simp [Window.valid]

/-! ### A walk step -/

/-- A walk step that finds an entry reports it and moves the cursor past it (R31). -/
theorem walkFrom_of_some {start : Nat} {s : State} {i : Fin 32}
    (h : s.map.firstFrom start Window.valid = some i) :
    walkFrom start s =
      (s.updMap fun m => { m with cursor := i.val + 1 },
        walkData i s.map.windows[i] (s.map.firstFrom (i.val + 1) Window.valid).isNone) := by
  unfold walkFrom
  rw [h]

/-- A walk step that finds no entry reports VALID clear with END OF TABLE, and the cursor is 32 (R31). -/
theorem walkFrom_of_none {start : Nat} {s : State} (h : s.map.firstFrom start Window.valid = none) :
    walkFrom start s = (s.updMap fun m => { m with cursor := 32 }, [numberWord 512]) := by
  unfold walkFrom
  rw [h]
  rfl

/-- The cursor is at most 32 after a walk step (R30). -/
theorem walkFrom_cursor_le (start : Nat) (s : State) : (walkFrom start s).1.map.cursor ≤ 32 := by
  cases h : s.map.firstFrom start Window.valid with
  | none => rw [walkFrom_of_none h]; exact le_rfl
  | some i => rw [walkFrom_of_some h]; exact i.isLt

/-- END OF TABLE is reported of an entry when the entries above it are FREE (R31). -/
theorem flag_firstFrom_isNone (m : RegionMap) (i : Fin 32) :
    flag (m.firstFrom (i.val + 1) Window.valid).isNone =
      if ∀ j : Fin 32, i < j → (m.windows[j]).kind = .free then 1 else 0 := by
  have hlast : (m.firstFrom (i.val + 1) Window.valid).isNone = true ↔
      ∀ j : Fin 32, i < j → (m.windows[j]).kind = .free := by
    simp only [Option.isNone_iff_eq_none, firstFrom_eq_none_iff, valid_eq_false_iff]
    exact Iff.rfl
  unfold flag
  exact if_congr hlast rfl rfl

/-- The result data of a walk step that reports entry `i` of a map, field by field (section 11.1). -/
def walkReport (m : RegionMap) (i : Fin 32) : List Word :=
  [numberWord (i.val + 256 + 512 * (if ∀ j : Fin 32, i < j → (m.windows[j]).kind = .free then 1 else 0) +
      65536 * (m.windows[i]).kind.code + 16777216 * (if (m.windows[i]).locked then 1 else 0)),
    numberWord (m.windows[i]).base, numberWord (m.windows[i]).size,
    numberWord ((m.windows[i]).writers.toNat + 65536 * (m.windows[i]).readers.toNat),
    numberWord ((m.windows[i]).segLen + 4294967296 * (m.windows[i]).pitch),
    numberWord (m.windows[i]).stride]

/-- The words of a walk step are the fields of the entry it reports (R31). -/
theorem walkData_eq_walkReport (m : RegionMap) (i : Fin 32) :
    walkData i m.windows[i] (m.firstFrom (i.val + 1) Window.valid).isNone = walkReport m i := by
  unfold walkData walkReport
  rw [flag_firstFrom_isNone]
  simp [atBit, flag, Nat.mul_comm]

/-- A walk step reports the valid entry of lowest index from the start on, and moves the cursor past it (R31). -/
theorem walkFrom_of_lowest_valid {start : Nat} {s : State} {i : Fin 32}
    (hvalid : (s.map.windows[i]).kind ≠ .free) (hstart : start ≤ i.val)
    (hlowest : ∀ j : Fin 32, j < i → start ≤ j.val → (s.map.windows[j]).kind = .free) :
    walkFrom start s = (s.updMap fun m => { m with cursor := i.val + 1 }, walkReport s.map i) := by
  have hfound : s.map.firstFrom start Window.valid = some i :=
    firstFrom_eq_some_iff.2 ⟨hstart, (valid_eq_true_iff _).2 hvalid,
      fun j hj hfrom => (valid_eq_false_iff _).2 (hlowest j hj hfrom)⟩
  rw [walkFrom_of_some hfound, walkData_eq_walkReport]

/-- A walk step with no valid entry from the start on reports VALID clear, and the cursor is 32 (R31). -/
theorem walkFrom_of_free {start : Nat} {s : State}
    (hfree : ∀ i : Fin 32, start ≤ i.val → (s.map.windows[i]).kind = .free) :
    walkFrom start s = (s.updMap fun m => { m with cursor := 32 }, [numberWord 512]) :=
  walkFrom_of_none (firstFrom_eq_none_iff.2 fun i hi => (valid_eq_false_iff _).2 (hfree i hi))

/-- The walk reads the map alone, so it commutes with what an accepted launch does first (R31, R151). -/
theorem walkFrom_begun (start : Nat) (c : Command) (tag : BitVec 8) (s : State) :
    walkFrom start (s.begun c tag) = ((walkFrom start s).1.begun c tag, (walkFrom start s).2) := by
  have hmap : (s.begun c tag).map = s.map := rfl
  cases h : s.map.firstFrom start Window.valid with
  | none => rw [walkFrom_of_none h, walkFrom_of_none (hmap ▸ h)]; rfl
  | some i => rw [walkFrom_of_some h, walkFrom_of_some (hmap ▸ h)]; rfl

/-! ### The launch of a walk step -/

/-- A command that the mailbox finds IDLE with no parameter and no check of its own is accepted (R150). -/
theorem accepts_of_no_param {c : Command} {s : State} (hmode : s.path.mode = .ready)
    (hidle : s.mbox.running = none) (hcount : c.paramCount = 0)
    (hcheck : c.check s.mbox.params s = none) : s.Accepts c 0 := by
  refine ⟨hmode, hidle, hcount.symm, ?_, hcheck⟩
  rw [hcount]
  rfl

/-- A command whose effect is a walk step reports at once what that step finds, and changes nothing but the cursor
(R31, R151, R152). -/
theorem changeIn_launch_walk {c : Command} {start : Nat} {tag : BitVec 8} {s : State} (o : WordOrder)
    (haccepts : s.Accepts c 0) (hrestart : c ≠ .restart)
    (heffect : c.effect s.mbox.params (s.begun c tag) = completes (walkFrom start (s.begun c tag))) :
    ∃ t : State, changeIn o (State.launch c.code 0 tag) s = .next t ∧
      CompletesAtOnce c tag [] (walkFrom start s).2 s t ∧ t.map = (walkFrom start s).1.map ∧
      t.tracker = s.tracker ∧ t.stitch = s.stitch ∧ SameLink s t ∧ SameOutside s t ∧ SameStatus s t := by
  obtain ⟨due, hnext⟩ := changeIn_answers o (State.launch c.code 0 tag) s
  have hwalk : c.effect s.mbox.params (s.begun c tag) =
      ((walkFrom start s).1.begun c tag, some (walkFrom start s).2) := by
    rw [heffect, walkFrom_begun]
    rfl
  have hlaunch := (launch_of_accepts tag haccepts hrestart).trans
    (accept_completes hwalk (by simp [State.begun]) (by simp [State.begun]))
  refine ⟨_, hnext, ?_⟩
  rw [hlaunch]
  simp [CompletesAtOnce, SameStatus, State.begun, runningWrite, resultWordWrite]

/-- The index from which READ WINDOW FIRST and READ WINDOW NEXT search (R31, R32). -/
def walkStart (first : Bool) (s : State) : Nat := if first then 0 else s.map.cursor

/-- READ WINDOW FIRST and READ WINDOW NEXT are one walk step, from index 0 and from the cursor (R31, R32). -/
theorem exec_walk (first : Bool) (tag : BitVec 8) {s : State} (hmode : s.path.mode = .ready)
    (hidle : s.mbox.running = none) :
    ∃ t : State, exec (if first then .readWindowFirst 0 tag else .readWindowNext 0 tag) s = .next t ∧
      CompletesAtOnce (if first then .readWindowFirst else .readWindowNext) tag []
        (walkFrom (walkStart first s) s).2 s t ∧
      t.map = (walkFrom (walkStart first s) s).1.map ∧
      t.tracker = s.tracker ∧ t.stitch = s.stitch ∧ SameLink s t ∧ SameOutside s t ∧ SameStatus s t := by
  cases first <;>
    exact changeIn_launch_walk _ (accepts_of_no_param hmode hidle rfl rfl) (by decide) rfl

/-- Settles O40: either command is one walk step, and a walk step reports the entry of lowest index. -/
theorem walkReportsNextEntry : Obligations.WalkReportsNextEntry := by
  unfold Obligations.WalkReportsNextEntry
  intro first tag s hmode hidle
  obtain ⟨t, hexec, hends, hmap, htracker, hstitch, hlink, houtside, hstatus⟩ :=
    exec_walk first tag hmode hidle
  refine ⟨t, _, hexec, hends, ?_, htracker, hstitch, hlink, houtside, hstatus, ?_, ?_⟩
  · simp [hmap]
  · intro i hvalid hstart hlowest
    rw [hmap, walkFrom_of_lowest_valid (start := walkStart first s) hvalid hstart hlowest]
    exact ⟨rfl, rfl⟩
  · intro hfree
    rw [hmap, walkFrom_of_free (start := walkStart first s) hfree]
    exact ⟨rfl, rfl⟩

/-! ### The map under a restart -/

/-- A restart by the pin leaves the map as R33 says (R19, R156). -/
theorem pinRestart_map (s : State) : s.pinRestart.map = s.map.restarted := by
  unfold State.pinRestart
  cases s.mbox.running with
  | none => simp
  | some r => by_cases hcode : r.code = Command.restart.code <;> simp [hcode]

/-- A restart by a launch leaves the map as R33 says (R19, R155). -/
theorem launchRestart_map (tag : BitVec 8) (s : State) :
    (s.launchRestart tag).map = s.map.restarted := by
  unfold State.launchRestart
  cases s.mbox.running <;> simp

/-- Power-on reset leaves the map empty (R33). -/
theorem map_of_exec_powerOnReset {m k : BitVec 4} {a : Bool} {s t : State}
    (h : exec (.powerOnReset m k a) s = .next t) : t.map = RegionMap.empty := by
  cases h
  simp [State.initial]

/-- RESTART_N leaves the map as R33 says (R156). -/
theorem map_of_exec_restartN {s t : State} (h : exec .restartN s = .next t) : t.map = s.map.restarted := by
  cases h
  rw [mirroredIn_map, pinRestart_map]

/-! ### The map under a launch -/

/-- An accepted launch does to the map what its command's effect does (R151). -/
theorem accept_map (c : Command) (tag : BitVec 8) (s : State) :
    (s.accept c tag).map = (c.effect s.mbox.params (s.begun c tag)).1.map := by
  rw [accept_eq]
  split <;> simp [*]

/-- A launch leaves the map unless it is a restart or an accepted command's (R149, R150, R155). -/
theorem launch_map_cases (code : BitVec 8) (count : BitVec 4) (tag : BitVec 8) (s : State) :
    (s.launch code count tag).map = s.map ∨
      (Command.ofCode code = some .restart ∧ (s.launch code count tag).map = s.map.restarted) ∨
      ∃ c, Command.ofCode code = some c ∧ (s.launch code count tag).map = (s.accept c tag).map := by
  unfold State.launch
  split
  case isTrue ignored => exact .inl rfl
  case isFalse judged =>
    cases s.mbox.running with
    | some r =>
      dsimp only
      split
      case isTrue restarts =>
        refine .inr (.inl ⟨?_, launchRestart_map tag s⟩)
        rw [restarts.1, ofCode_code]
      case isFalse lost => exact .inl rfl
    | none =>
      dsimp only
      unfold State.judge
      cases hc : Command.ofCode code with
      | none => exact .inl (by simp)
      | some c =>
        dsimp only
        split
        case isTrue badShape => exact .inl (by simp)
        split
        case isTrue stale => exact .inl (by simp)
        split
        case h_1 e refused => exact .inl (by simp)
        case h_2 passed =>
          cases c
          case restart =>
            refine .inr (.inl ⟨rfl, ?_⟩)
            rw [launchRestart_map]
            simp
          all_goals exact .inr (.inr ⟨_, rfl, rfl⟩)

/-- A launch of RESTART leaves the map as R33 says while the part is READY (R155). -/
theorem launch_restart_map {s : State} (hmode : s.path.mode = .ready) (tag : BitVec 8) :
    (s.launch Command.restart.code 0 tag).map = s.map.restarted := by
  cases hrun : s.mbox.running with
  | some r =>
    have htaken : s.launch Command.restart.code 0 tag = s.launchRestart tag := by
      unfold State.launch
      rw [hmode, hrun]
      rfl
    rw [htaken, launchRestart_map]
  | none =>
    have htaken : s.launch Command.restart.code 0 tag = s.staleAll.launchRestart tag := by
      unfold State.launch
      rw [hmode, hrun]
      rfl
    rw [htaken, launchRestart_map]
    simp

/-- The row RESTART leaves the map as R33 says while the part is READY (R155). -/
theorem map_of_exec_restart {tag : BitVec 8} {s t : State} (hmode : s.path.mode = .ready)
    (h : exec (.restart 0 tag) s = .next t) : t.map = s.map.restarted := by
  cases h
  rw [mirroredIn_map, launch_restart_map hmode]

/-! ### The cursor under a launch -/

/-- The commands whose launch can move the walk cursor (R30, R33). -/
def Command.movesCursor : Command → Bool
  | .readWindowFirst | .readWindowNext | .restart => true
  | _ => false

/-- The effect of every command but the walk commands leaves the cursor (R30). -/
theorem effect_cursor {c : Command} (hc : c.movesCursor = false) (p : Params) (s : State) :
    (c.effect p s).1.map.cursor = s.map.cursor := by
  cases c
  case readWindowFirst | readWindowNext | restart => cases hc
  all_goals simp [Command.effect, completes]

/-- The range of the cursor speaks of the map alone (R30). -/
theorem cursorInRange_of_map_eq {m : RegionMap} {t : State} (h : t.map = m) (hm : m.cursor ≤ 32) :
    t.CursorInRange := by
  cases h
  exact hm

/-- The effect of every command leaves the cursor in its range (R30). -/
theorem effect_cursorInRange {s : State} (hs : s.CursorInRange) (c : Command) (p : Params) :
    (c.effect p s).1.CursorInRange := by
  cases hc : c.movesCursor with
  | false => exact (effect_cursor hc p s).trans_le hs
  | true =>
    cases c
    case readWindowFirst | readWindowNext => exact walkFrom_cursor_le _ _
    case restart => exact hs
    all_goals cases hc

/-- A launch of another code than those of the walk commands and RESTART leaves the cursor (R30). -/
theorem launch_cursor {code : BitVec 8}
    (hcode : ∀ c, Command.ofCode code = some c → c.movesCursor = false)
    (count : BitVec 4) (tag : BitVec 8) (s : State) :
    (s.launch code count tag).map.cursor = s.map.cursor := by
  obtain hsame | ⟨hrestart, -⟩ | ⟨c, hc, haccept⟩ := launch_map_cases code count tag s
  · rw [hsame]
  · cases hcode _ hrestart
  · rw [haccept, accept_map, effect_cursor (hcode c hc)]
    rfl

/-- A launch leaves the cursor in its range (R30). -/
theorem launch_cursorInRange {s : State} (hs : s.CursorInRange) (code : BitVec 8) (count : BitVec 4)
    (tag : BitVec 8) : (s.launch code count tag).CursorInRange := by
  obtain hsame | ⟨-, hrestart⟩ | ⟨c, -, haccept⟩ := launch_map_cases code count tag s
  · exact cursorInRange_of_map_eq hsame hs
  · exact cursorInRange_of_map_eq hrestart (Nat.zero_le 32)
  · exact cursorInRange_of_map_eq (haccept.trans (accept_map c tag s))
      (effect_cursorInRange (s := s.begun c tag) hs c _)

/-! ### The rows that neither launch nor reset -/

/-- Every next state of an outcome has the map of `s`. -/
def KeepsMap (s : State) (r : Result) : Prop := ∀ t, r = .next t → t.map = s.map

@[simp] theorem keepsMap_next {s t : State} : KeepsMap s (.next t) ↔ t.map = s.map :=
  ⟨fun h => h t rfl, fun h u hu => by cases hu; exact h⟩

@[simp] theorem keepsMap_fault (s : State) (e : Fault) : KeepsMap s (.fault e) := fun _ h => nomatch h

/-- No row but a launch or a reset touches the map (R20, R30, R33). -/
theorem exec_keepsMap {c : Instr} (hlaunch : launchOf c = none) (hreset : mayReset c = false) (s : State) :
    KeepsMap s (exec c s) := by
  cases c
  case powerOnReset | restartN | forwarding => cases hreset
  -- The rows that answer next in every state.
  case initCompletion | frameMark | release | frameEnd | linkFrameStart | rateChangeEffect | splitChangeEffect
      | parcelSent | returnWindowArrival | probeCycle | trialEnd | monitorBlockJudgement | linkLoss
      | ackTimeout | producerIndexWrite | consumerIndexWrite =>
    simp [exec, execInitCompletion, execFrameMark, execRelease, execFrameEnd, execLinkFrameStart,
      execRateChangeEffect, execSplitChangeEffect, execParcelSent, execReturnWindowArrival, execProbeCycle,
      execTrialEnd, execMonitorBlockJudgement, execLinkLoss, execAckTimeout, execProducerIndexWrite,
      execConsumerIndexWrite]
  -- The rows that are a change under a condition, and without it leave the state or fault.
  case upstreamRequest | holdExpiry | ownRequestGrant | downstreamResponse | ownWriteAccepted | captureWrite
      | stitchDeadline | payloadFetchComplete | recordFetchResponse | parameterWordWrite | acknowledge
      | scheduleImageResponse | snapshotStep | statusWriteIssue =>
    simp only [exec, execUpstreamRequest, execHoldExpiry, execOwnRequestGrant, execDownstreamResponse,
      execOwnWriteAccepted, execCaptureWrite, execStitchDeadline, execPayloadFetchComplete,
      execRecordFetchResponse, execParameterWordWrite, execAcknowledge, execScheduleImageResponse,
      execSnapshotStep, execStatusWriteIssue]
    (repeat' split) <;> simp
  all_goals cases hlaunch

/-- A row of a command that is no walk command and no restart leaves the cursor (R30). -/
theorem launchStep_cursor {c : Command} (hc : c.movesCursor = false) {count : BitVec 4} {tag : BitVec 8}
    {s t : State} (h : launchStep c count tag s = .next t) : t.map.cursor = s.map.cursor := by
  cases h
  rw [mirroredIn_map]
  refine launch_cursor (fun d hd => ?_) count tag s
  rw [ofCode_code] at hd
  cases hd
  exact hc

/-- A row of LINK CONTROL leaves the cursor (R30). -/
theorem launchLink_cursor {op : LinkOperation} {count : BitVec 4} {tag : BitVec 8} {s t : State}
    (h : launchLink op count tag s = .next t) : t.map.cursor = s.map.cursor := by
  have hlaunch : t = s ∨ launchStep .linkControl count tag s = .next t := by
    unfold launchLink at h
    dsimp only at h
    split at h
    case h_1 =>
      split at h
      case isTrue => cases h; exact .inl rfl
      case isFalse => exact .inr h
    case h_2 => exact .inr h
  obtain rfl | hstep := hlaunch
  · rfl
  · exact launchStep_cursor rfl hstep

/-- A launch with an unknown code leaves the cursor (R150). -/
theorem execUnknownOp_cursor {code : BitVec 8} {count : BitVec 4} {tag : BitVec 8} {s t : State}
    (h : execUnknownOp code count tag s = .next t) : t.map.cursor = s.map.cursor := by
  unfold execUnknownOp at h
  split at h
  case h_1 => cases h; rfl
  case h_2 hunknown =>
    cases h
    rw [mirroredIn_map]
    refine launch_cursor (fun c hc => ?_) count tag s
    rw [hunknown] at hc
    cases hc

/-- No row but the walk commands and the resets moves the cursor (R30). -/
theorem exec_cursor {c : Instr} {s t : State} (h : exec c s = .next t) (hreset : mayReset c = false)
    (hwalk : ∀ n tag, c ≠ .readWindowFirst n tag ∧ c ≠ .readWindowNext n tag) :
    t.map.cursor = s.map.cursor := by
  cases hl : launchOf c with
  | none => rw [exec_keepsMap hl hreset s t h]
  | some l =>
    cases c
    case unknownOp => exact execUnknownOp_cursor h
    case linkControlEnable | linkControlDisable | linkControlRetrain => exact launchLink_cursor h
    case readWindowFirst n tag => exact absurd rfl (hwalk n tag).1
    case readWindowNext n tag => exact absurd rfl (hwalk n tag).2
    case restart => cases hreset
    case makeWindow | clearWindow | lockWindow | openStream | closeStream | bindRing | bindReturn | unbind
        | resumeRing | loadSchedule | setSplit | snapshotCounters | setEvents =>
      exact launchStep_cursor rfl h
    all_goals cases hl

/-! ### The range of the cursor -/

/-- A command that is one change leaves the cursor in its range if the change does (R30). -/
theorem cursorInRange_of_changeIn {o : WordOrder} {f : State → State} {s t : State}
    (hf : (f s).CursorInRange) (h : changeIn o f s = .next t) : t.CursorInRange := by
  cases h
  exact cursorInRange_of_map_eq (mirroredIn_map o f s) hf

/-- An entry of a tap set leaves the cursor in its range (R11, R30). -/
theorem runTap_cursorInRange {s : State} (hs : s.CursorInRange) (r : Request) (tap : Tap) :
    (s.runTap r tap).CursorInRange := by
  unfold State.runTap
  split
  case h_2 code => exact launch_cursorInRange hs _ _ _
  all_goals exact cursorInRange_of_map_eq (by simp) hs

/-- A tap set leaves the cursor in its range (R11, R30). -/
theorem runTaps_cursorInRange {s : State} (hs : s.CursorInRange) (r : Request) (taps : List Tap) :
    (runTaps r taps s).CursorInRange := by
  induction taps generalizing s with
  | nil => exact hs
  | cons tap rest ih =>
    have htap : (mirroredIn (tapOrder tap) (State.runTap r tap) s).CursorInRange :=
      cursorInRange_of_changeIn (runTap_cursorInRange hs r tap) rfl
    unfold runTaps
    dsimp only
    split
    case h_1 => exact htap
    case h_2 => exact ih htap

/-- The port's taking of the waiting requests leaves the map (R1). -/
theorem takeWaiting_map (s : State) : s.takeWaiting.map = s.map := by simp

/-- The grant of the pass queue leaves the cursor in its range (R11, R30). -/
theorem forwardHead_cursorInRange {s : State} (hs : s.CursorInRange) : s.forwardHead.CursorInRange := by
  unfold State.forwardHead
  split
  case h_1 => exact hs
  case h_2 x rest _ =>
    refine cursorInRange_of_map_eq (takeWaiting_map _) (runTaps_cursorInRange ?_ x.request x.taps)
    exact cursorInRange_of_map_eq rfl hs

/-- Every command leaves the cursor in its range (R30). -/
theorem exec_cursorInRange {c : Instr} {s t : State} (hs : s.CursorInRange) (h : exec c s = .next t) :
    t.CursorInRange := by
  cases c
  case powerOnReset => exact cursorInRange_of_map_eq (map_of_exec_powerOnReset h) (Nat.zero_le 32)
  case restartN => exact cursorInRange_of_map_eq (map_of_exec_restartN h) (Nat.zero_le 32)
  case readWindowFirst | readWindowNext | restart =>
    exact cursorInRange_of_changeIn (launch_cursorInRange hs _ _ _) h
  case forwarding =>
    have hforward : execForwarding s = .next t := h
    unfold execForwarding at hforward
    split at hforward
    case isTrue => exact cursorInRange_of_changeIn (forwardHead_cursorInRange hs) hforward
    case isFalse => cases hforward; exact hs
  all_goals exact (exec_cursor h rfl fun _ _ => ⟨nofun, nofun⟩).trans_le hs

/-- Settles O41: every row keeps the cursor's range, and no row but a walk step or a reset moves the cursor. -/
theorem walkCursorMoves : Obligations.WalkCursorMoves := by
  unfold Obligations.WalkCursorMoves
  refine ⟨?_, ?_, ?_, ?_, ?_⟩
  · intro s t hs h
    unfold step at h
    split at h
    case h_1 => cases h; exact hs
    case h_2 c rest _ => exact exec_cursorInRange (s := { s with pending := rest }) hs h
  · intro m k a s t h
    rw [map_of_exec_powerOnReset h]
    rfl
  · intro s t h
    rw [map_of_exec_restartN h]
    rfl
  · intro tag s t hmode h
    rw [map_of_exec_restart hmode h]
    rfl
  · exact fun c s t => exec_cursor

end Sys2Proof.Machine

/-!
The judgement of frame marks (R39 to R41): one equation for each row of the order in which a mark is judged, what
an accepted mark counts, and what moves the newest accepted number among all the commands.
-/

namespace Sys2Proof.Machine

/-! ### The sequence test -/

/-- The frame number that a mark carries (R39). -/
abbrev markNumber (value : Word) : FrameNumber := BitVec.ofNat 16 (bits value 15 0)

/-- The slot index that a mark carries (R39). -/
abbrev markSlot (value : Word) : Nat := bits value 23 16

/-- The sequence test of a mark: no number accepted yet, or one that the mark's number is ahead of (R41). -/
def Tracker.inSequence (t : Tracker) (frame : FrameNumber) : Bool :=
  (t.newest.map (fun n => aheadOf frame n)).getD true

/-- A mark is out of sequence when a number is accepted that it is not ahead of (R41). -/
theorem inSequence_eq_false_iff (t : Tracker) (frame : FrameNumber) :
    t.inSequence frame = false ↔ ∃ n, t.newest = some n ∧ aheadOf frame n = false := by
  unfold Tracker.inSequence
  cases t.newest <;> simp

/-- A mark is in sequence when it is ahead of the newest accepted number, if there is one (R41). -/
theorem inSequence_eq_true_iff (t : Tracker) (frame : FrameNumber) :
    t.inSequence frame = true ↔ ∀ n, t.newest = some n → aheadOf frame n = true := by
  unfold Tracker.inSequence
  cases t.newest <;> simp

/-- One number is ahead of another by 1 to 32767, modulo 65536 (R41). -/
theorem aheadOf_iff (a b : FrameNumber) :
    aheadOf a b = true ↔ 1 ≤ (a - b).toNat ∧ (a - b).toNat ≤ 32767 := by
  simp [aheadOf]

/-! ### The rows of the judgement, in their order -/

/-- A mark while the stream is CLOSED is ignored (R39). -/
theorem frameMark_of_closed {s : State} (hclosed : s.tracker.stream.state = .closed) (a : Nat)
    (value : Word) : s.frameMark a value = s := by
  unfold State.frameMark
  exact if_pos hclosed

/-- A write at another address than that of the mark word is ignored (R39). -/
theorem frameMark_of_ne_markWord {s : State} {a : Nat} (ha : a ≠ s.tracker.stream.markWord)
    (value : Word) : s.frameMark a value = s := by
  unfold State.frameMark
  dsimp only
  rw [if_pos ha, ite_self]

/-- A mark while the stream is DRAINING counts *bad marks* (R39). -/
theorem frameMark_of_draining {s : State} (hdraining : s.tracker.stream.state = .draining) (value : Word) :
    s.frameMark s.tracker.stream.markWord value = s.count .badMarks := by
  unfold State.frameMark
  simp [hdraining]

section opened
variable {s : State} {value : Word} (hopen : s.tracker.stream.state = .openState)
include hopen

/-- A mark with a slot index that is not below the slot count counts *bad marks* (R40). -/
theorem frameMark_of_slot_ge (hslot : s.tracker.stream.slotCount ≤ markSlot value) :
    s.frameMark s.tracker.stream.markWord value = s.count .badMarks := by
  unfold State.frameMark
  simp [hopen, hslot]

/-- A mark with a good slot index whose number is out of sequence counts *stale marks* (R41). -/
theorem frameMark_of_stale (hslot : markSlot value < s.tracker.stream.slotCount)
    (hstale : s.tracker.inSequence (markNumber value) = false) :
    s.frameMark s.tracker.stream.markWord value = s.count .staleMarks := by
  unfold Tracker.inSequence at hstale
  unfold State.frameMark
  simp [hopen, Nat.not_le.2 hslot, hstale]

/-- A mark with a good slot index whose number is in sequence is accepted (R40, R41). -/
theorem frameMark_of_inSequence (hslot : markSlot value < s.tracker.stream.slotCount)
    (hfour : markSlot value < 4) (hahead : s.tracker.inSequence (markNumber value) = true) :
    s.frameMark s.tracker.stream.markWord value =
      s.acceptMark (markNumber value) ⟨markSlot value, hfour⟩ := by
  unfold Tracker.inSequence at hahead
  unfold State.frameMark
  simp [hopen, Nat.not_le.2 hslot, hahead, hfour]

end opened

/-! ### The row FRAME_MARK -/

/-- A change that changes nothing makes no word due (R162). -/
theorem noteChanges_self (o : List (Fin 32)) (s : State) : noteChanges o s s = s := by
  cases hmode : s.path.mode with
  | initializing => exact noteChanges_initializing o s s hmode
  | ready =>
    have hnone : changedWords o s s = [] := by simp [changedWords]
    rw [noteChanges_ready o s s hmode, hnone]
    rfl

/-- A change is noted by what it does to the state at hand (R162). -/
theorem mirroredIn_congr {f g : State → State} {s : State} (h : f s = g s) (o : WordOrder) :
    mirroredIn o f s = mirroredIn o g s := by
  unfold mirroredIn
  rw [h]

/-- A change that leaves the state as it was is no change (R162). -/
theorem mirroredIn_of_fixed {f : State → State} {s : State} (h : f s = s) (o : WordOrder) :
    mirroredIn o f s = s := by
  unfold mirroredIn
  rw [h]
  exact noteChanges_self _ s

/-- FRAME_MARK with nothing waiting at the port is the judgement of the mark (R39). -/
theorem exec_frameMark_of_nil {s : State} (hwait : s.path.waiting = []) (a : Nat) (value : Word) :
    exec (.frameMark a value) s = .next (mirroredIn markOrder (State.frameMark a value) s) := by
  have htaken : (s.frameMark a value).takeWaiting = s.frameMark a value :=
    takeWaiting_of_nil (by simp [hwait])
  exact congrArg Host.Outcome.next (mirroredIn_congr htaken markOrder)

/-- From `s` to `t` the counter `c` counts once, and nothing else changes but the due list. -/
@[simp] abbrev CountsAlone (c : Counter) (s t : State) : Prop :=
  StatusCounts (s.count c) s t ∧ t.path = s.path ∧ SameCapture s t ∧ SameLink s t ∧ SameOutside s t ∧
    t.mbox = s.mbox

/-- A change that counts `c` counts it alone. -/
theorem mirroredIn_countsAlone {f : State → State} {s : State} {c : Counter} (h : f s = s.count c)
    (o : WordOrder) : CountsAlone c s (mirroredIn o f s) := by
  simp [h]

/-- FRAME_MARK of a mark that is judged by a count counts alone (R39, R40, R41). -/
theorem exec_frameMark_countsAlone {s : State} {a : Nat} {value : Word} {c : Counter}
    (hwait : s.path.waiting = []) (hcount : s.frameMark a value = s.count c) :
    ∃ t, exec (.frameMark a value) s = .next t ∧ CountsAlone c s t :=
  ⟨_, exec_frameMark_of_nil hwait a value, mirroredIn_countsAlone hcount markOrder⟩

/-! ### The counters of an accepted mark -/

section counter
variable (d : Counter) (s : State)
@[simp] theorem updPath_counter (f : PathUnit → PathUnit) : (s.updPath f).counter d = s.counter d := rfl
@[simp] theorem updTracker_counter (f : Tracker → Tracker) : (s.updTracker f).counter d = s.counter d := rfl
@[simp] theorem updStitch_counter (f : StitchUnit → StitchUnit) : (s.updStitch f).counter d = s.counter d := rfl
@[simp] theorem updSched_counter (f : Scheduler → Scheduler) : (s.updSched f).counter d = s.counter d := rfl
@[simp] theorem emit_counter (o : Output) : (s.emit o).counter d = s.counter d := rfl
@[simp] theorem raise_counter (e : Event) : (s.raise e).counter d = s.counter d := rfl
@[simp] theorem joinPass_counter (r : Request) (taps : List Tap) :
    (s.joinPass r taps).counter d = s.counter d := rfl
@[simp] theorem leaveHold_counter (i : BitVec 4) : (s.leaveHold i).counter d = s.counter d := rfl
@[simp] theorem promote_counter (i : BitVec 4) : (s.promote i).counter d = s.counter d := rfl
@[simp] theorem finishLines_counter (frame : FrameNumber) (slot : Fin 4) (n : Nat) :
    (s.finishLines frame slot n).counter d = s.counter d := rfl
@[simp] theorem dropJobs_counter (frame : FrameNumber) (slot : Fin 4) :
    (s.dropJobs frame slot).counter d = s.counter d := rfl
@[simp] theorem reportDrop_counter (frame : FrameNumber) : (s.reportDrop frame).counter d = s.counter d := rfl
@[simp] theorem ensureHead_counter : s.ensureHead.counter d = s.counter d := by simp [State.counter]
@[simp] theorem drainTest_counter : s.drainTest.counter d = s.counter d := by simp [State.counter]
@[simp] theorem mirroredIn_counter (o : WordOrder) (f : State → State) :
    (mirroredIn o f s).counter d = (f s).counter d := by simp [State.counter]
end counter

/-- A count takes its counter up by 1 (R169). -/
theorem count_counter_same (c : Counter) (s : State) :
    (s.count c).counter c = saturate (s.counter c) 1 := by
  simp [State.counter]

/-- No other counter stands at the place of *bad marks* (R170). -/
theorem index_ne_badMarks {c : Counter} (hc : c ≠ .badMarks) : c.index ≠ Counter.badMarks.index := by
  cases c
  case badMarks => exact absurd rfl hc
  case strayWrites k | damagedSegments k | rewrites k | lateWrites k =>
    simp only [Counter.index, ne_eq, Fin.ext_iff]
    omega
  all_goals decide

section badMarks
variable (s : State)

/-- Counting another counter leaves *bad marks* (R169). -/
@[simp] theorem countBy_badMarks {c : Counter} (hc : c ≠ .badMarks) (n : Nat) :
    (s.countBy c n).counter .badMarks = s.counter .badMarks := by
  have hplace : c.index.val ≠ Counter.badMarks.index.val := Fin.val_ne_of_ne (index_ne_badMarks hc)
  simp [State.counter, Vector.getElem_set_ne, hplace]

@[simp] theorem count_badMarks {c : Counter} (hc : c ≠ .badMarks) :
    (s.count c).counter .badMarks = s.counter .badMarks := countBy_badMarks s hc 1

@[simp] theorem block_badMarks (r : Request) (o : Origin) :
    (s.block r o).counter .badMarks = s.counter .badMarks := by
  unfold State.block
  cases r.isWrite <;> cases s.path.guard <;> simp

@[simp] theorem expire_badMarks (h : Held) : (s.expire h).counter .badMarks = s.counter .badMarks := by
  simp [State.expire]

@[simp] theorem chainLoop_badMarks (n : Nat) (i : BitVec 4) :
    (chainLoop n i s).counter .badMarks = s.counter .badMarks := by
  induction n generalizing s with
  | zero => rfl
  | succ n ih =>
    unfold chainLoop
    (repeat' split) <;> simp [ih]

/-- The work of a chain counts no *bad marks* (R9). -/
@[simp] theorem workChain_badMarks (i : BitVec 4) :
    (s.workChain i).counter .badMarks = s.counter .badMarks := chainLoop_badMarks s _ i

@[simp] theorem reclassifyLeader_badMarks (i : BitVec 4) :
    (s.reclassifyLeader i).counter .badMarks = s.counter .badMarks := by
  unfold State.reclassifyLeader
  (repeat' split) <;> simp

/-- A cursor advance counts no *bad marks* (R9). -/
@[simp] theorem reclassify_badMarks : s.reclassify.counter .badMarks = s.counter .badMarks := by
  unfold State.reclassify
  generalize s.path.leaders = leaders
  induction leaders generalizing s with
  | nil => rfl
  | cons i rest ih => rw [List.foldl_cons, ih, reclassifyLeader_badMarks]

@[simp] theorem sink_badMarks (j : Job) : (s.sink j).counter .badMarks = s.counter .badMarks := by
  simp [State.sink]

@[simp] theorem appendJob_badMarks (frame : FrameNumber) (slot : Fin 4) (body : JobBody) :
    (s.appendJob frame slot body).counter .badMarks = s.counter .badMarks := by
  unfold State.appendJob
  dsimp only
  split <;> simp

/-- A FRAME_END counts no *bad marks* (R69). -/
@[simp] theorem endHead_badMarks (f : FrameRecord) :
    (s.endHead f).counter .badMarks = s.counter .badMarks := by
  simp [State.endHead]

@[simp] theorem endFinished_badMarks (slot : Fin 4) :
    (s.endFinished slot).counter .badMarks = s.counter .badMarks := by
  unfold State.endFinished
  (repeat' split) <;> simp

/-- A drop counts no *bad marks* (R46). -/
@[simp] theorem dropFrame_badMarks (frame : FrameNumber) (slot : Fin 4) :
    (s.dropFrame frame slot).counter .badMarks = s.counter .badMarks := by
  simp [State.dropFrame]

/-- An accepted mark counts no *bad marks* (R42). -/
theorem acceptMark_badMarks (frame : FrameNumber) (slot : Fin 4) :
    (s.acceptMark frame slot).counter .badMarks = s.counter .badMarks := by
  unfold State.acceptMark
  dsimp only
  (repeat' split) <;> simp

end badMarks

/-- A mark with a good slot index counts no *bad marks*, whether it is stale or accepted (R40). -/
theorem frameMark_badMarks {s : State} {value : Word} (hopen : s.tracker.stream.state = .openState)
    (hslot : markSlot value < s.tracker.stream.slotCount) (hfour : markSlot value < 4) :
    (s.frameMark s.tracker.stream.markWord value).counter .badMarks = s.counter .badMarks := by
  cases hseq : s.tracker.inSequence (markNumber value) with
  | false => rw [frameMark_of_stale hopen hslot hseq, count_badMarks s (by decide)]
  | true => rw [frameMark_of_inSequence hopen hslot hfour hseq, acceptMark_badMarks]

/-! ### The newest accepted number -/

/-- The newest number is that of the mark accepted last (R41). -/
theorem acceptMark_newest (frame : FrameNumber) (slot : Fin 4) (s : State) :
    (s.acceptMark frame slot).tracker.newest = some frame := by
  unfold State.acceptMark
  dsimp only
  (repeat' split) <;> simp

/-- FRAME_MARK of an accepted mark leaves its number as the newest, whatever waits at the port (R41). -/
theorem exec_frameMark_newest {s : State} {value : Word} (hopen : s.tracker.stream.state = .openState)
    (hslot : markSlot value < s.tracker.stream.slotCount) (hfour : markSlot value < 4)
    (hahead : s.tracker.inSequence (markNumber value) = true) :
    ∃ t, exec (.frameMark s.tracker.stream.markWord value) s = .next t ∧
      t.tracker.newest = some (markNumber value) := by
  refine ⟨mirroredIn markOrder (fun t => (t.frameMark s.tracker.stream.markWord value).takeWaiting) s,
    rfl, ?_⟩
  have htaken := frameMark_of_inSequence hopen hslot hfour hahead
  simp [htaken, acceptMark_newest]

/-- Every next state of an outcome has the newest accepted number of `s`. -/
def KeepsNewest (s : State) (r : Result) : Prop := ∀ t, r = .next t → t.tracker.newest = s.tracker.newest

@[simp] theorem keepsNewest_next {s t : State} :
    KeepsNewest s (.next t) ↔ t.tracker.newest = s.tracker.newest :=
  ⟨fun h => h t rfl, fun h u hu => by cases hu; exact h⟩

@[simp] theorem keepsNewest_fault (s : State) (e : Fault) : KeepsNewest s (.fault e) := fun _ h => nomatch h

/-- No row but a frame mark, a launch or a reset moves the newest accepted number (R41). -/
theorem exec_keepsNewest {c : Instr} (hlaunch : launchOf c = none) (hreset : mayReset c = false)
    (hmark : ∀ a v, c ≠ .frameMark a v) (s : State) : KeepsNewest s (exec c s) := by
  cases c
  case powerOnReset | restartN | forwarding => cases hreset
  case frameMark a v => exact absurd rfl (hmark a v)
  -- The rows that answer next in every state.
  case initCompletion | release | frameEnd | linkFrameStart | rateChangeEffect | splitChangeEffect
      | parcelSent | returnWindowArrival | probeCycle | trialEnd | monitorBlockJudgement | linkLoss
      | ackTimeout | producerIndexWrite | consumerIndexWrite =>
    simp [exec, execInitCompletion, execRelease, execFrameEnd, execLinkFrameStart, execRateChangeEffect,
      execSplitChangeEffect, execParcelSent, execReturnWindowArrival, execProbeCycle, execTrialEnd,
      execMonitorBlockJudgement, execLinkLoss, execAckTimeout, execProducerIndexWrite,
      execConsumerIndexWrite]
  -- The rows that are a change under a condition, and without it leave the state or fault.
  case upstreamRequest | holdExpiry | ownRequestGrant | downstreamResponse | ownWriteAccepted | captureWrite
      | stitchDeadline | payloadFetchComplete | recordFetchResponse | parameterWordWrite | acknowledge
      | scheduleImageResponse | snapshotStep | statusWriteIssue =>
    simp only [exec, execUpstreamRequest, execHoldExpiry, execOwnRequestGrant, execDownstreamResponse,
      execOwnWriteAccepted, execCaptureWrite, execStitchDeadline, execPayloadFetchComplete,
      execRecordFetchResponse, execParameterWordWrite, execAcknowledge, execScheduleImageResponse,
      execSnapshotStep, execStatusWriteIssue]
    (repeat' split) <;> simp
  all_goals cases hlaunch

/-! ### The obligation -/

/-- Settles O18: the rows of the judgement in their order, and the frame of the newest number over every row. -/
theorem marksJudgedInOrder : Obligations.MarksJudgedInOrder := by
  unfold Obligations.MarksJudgedInOrder
  refine ⟨?_, ⟨?_, ?_, ?_⟩, ⟨?_, ?_⟩, aheadOf_iff⟩
  · intro value s hopen hwait
    refine ⟨_, exec_frameMark_of_nil hwait _ value, ?_, ?_⟩
    · exact fun hslot => mirroredIn_countsAlone (frameMark_of_slot_ge hopen hslot) markOrder
    · intro hslot hfour
      refine ⟨?_, fun hstale => ?_⟩
      · rw [mirroredIn_counter, frameMark_badMarks hopen hslot hfour]
      · rw [mirroredIn_counter,
          frameMark_of_stale hopen hslot ((inSequence_eq_false_iff _ _).2 hstale), count_counter_same]
  · intro value n s hopen hwait hslot hnewest hbehind
    have hstale := (inSequence_eq_false_iff _ _).2 ⟨n, hnewest, hbehind⟩
    exact exec_frameMark_countsAlone hwait (frameMark_of_stale hopen hslot hstale)
  · intro value s hopen hslot hfour hahead
    exact exec_frameMark_newest hopen hslot hfour ((inSequence_eq_true_iff _ _).2 hahead)
  · intro c s t hexec hreset hlaunch hmark
    have hnone : launchOf c = none := by
      simpa using (Bool.or_eq_false_iff.1 hlaunch).1
    exact exec_keepsNewest hnone hreset hmark s t hexec
  · intro a value s hwait hignored
    have hsame : s.frameMark a value = s :=
      hignored.elim (fun hclosed => frameMark_of_closed hclosed a value)
        (fun ha => frameMark_of_ne_markWord ha value)
    rw [exec_frameMark_of_nil hwait, mirroredIn_of_fixed hsame]
  · exact fun value s hwait hdraining =>
      exec_frameMark_countsAlone hwait (frameMark_of_draining hdraining value)

end Sys2Proof.Machine

/-!
Launches of the mailbox unit: a launch while a command is RUNNING (R149), a launch that one of its checks refuses
(R150), and SET EVENTS (R160).
-/

namespace Sys2Proof.Machine

/-! ### The codes of the launch rows -/

/-- A command is that of a code when the code is its own (section 8.7). -/
theorem ofCode_eq_some_iff {code : BitVec 8} {c : Command} :
    Command.ofCode code = some c ↔ c.code = code := by
  constructor
  · intro h
    simpa using List.find?_some h
  · rintro rfl
    exact ofCode_code c

/-- The code of every command lies in the range of section 8.7. -/
theorem knownCode_code (c : Command) : knownCode c.code = true := by cases c <;> rfl

/-- The code of the row UNKNOWN_OP is no command's (R148, R150). -/
theorem ofCode_of_unknownCode {code : BitVec 8} (h : unknownCode code = true) :
    Command.ofCode code = none := by
  refine Option.eq_none_iff_forall_ne_some.2 fun c hc => ?_
  obtain rfl := ofCode_eq_some_iff.1 hc
  simp [unknownCode, knownCode_code] at h

/-- No launch row carries the code 0 (R148). -/
theorem launchOf_code_ne_zero {c : Instr} {code : BitVec 8} {n : BitVec 4} {tag : BitVec 8}
    (hlaunch : launchOf c = some (code, n, tag)) (hwf : c.wf = true) : code ≠ 0 := by
  cases c
  case unknownOp =>
    cases hlaunch
    have hunknown : unknownCode code = true := hwf
    simp only [unknownCode, Bool.and_eq_true, decide_eq_true_eq] at hunknown
    exact hunknown.1
  all_goals cases hlaunch
  all_goals exact code_ne_zero _

/-! ### The launch rows while a command is RUNNING -/

/-- An unknown code is launched with its words ascending, the order of every code but LINK CONTROL's. -/
theorem execUnknownOp_eq_changeIn {code : BitVec 8} (h : unknownCode code = true) (n : BitVec 4)
    (tag : BitVec 8) (s : State) :
    execUnknownOp code n tag s = changeIn (launchOrder code) (State.launch code n tag) s := by
  have hnone := ofCode_of_unknownCode h
  have hlink : code ≠ Command.linkControl.code := by
    rintro rfl
    cases hnone
  unfold execUnknownOp launchOrder
  rw [hnone, if_neg hlink]
  rfl

/-- While a command is RUNNING, a row of LINK CONTROL does not ask which operation P0 names (R149). -/
theorem launchLink_of_running {s : State} {r : CommandTag} (hrun : s.mbox.running = some r)
    (op : LinkOperation) (n : BitVec 4) (tag : BitVec 8) :
    launchLink op n tag s = launchStep .linkControl n tag s := by
  unfold launchLink
  dsimp only
  split
  · exact if_neg (by simp [hrun])
  · rfl

/-- While a command is RUNNING, every launch row is its launch as one change (R149). -/
theorem exec_launch_of_running {c : Instr} {code : BitVec 8} {n : BitVec 4} {tag : BitVec 8}
    {r : CommandTag} {s : State} (hlaunch : launchOf c = some (code, n, tag)) (hwf : c.wf = true)
    (hrun : s.mbox.running = some r) :
    exec c s = changeIn (launchOrder code) (State.launch code n tag) s := by
  cases c
  case unknownOp => cases hlaunch; exact execUnknownOp_eq_changeIn hwf n tag s
  case linkControlEnable | linkControlDisable | linkControlRetrain =>
    cases hlaunch; exact launchLink_of_running hrun _ n tag
  case makeWindow | clearWindow | lockWindow | readWindowFirst | readWindowNext | openStream | closeStream
      | bindRing | bindReturn | unbind | resumeRing | loadSchedule | setSplit | snapshotCounters | setEvents
      | restart =>
    cases hlaunch; rfl
  all_goals cases hlaunch

/-- While the part is READY, a launch word with a code is received (R17, R148). -/
theorem launch_received {s : State} {code : BitVec 8} (hmode : s.path.mode = .ready) (hcode : code ≠ 0) :
    ¬(s.path.mode = .initializing ∨ code = 0) :=
  not_or.2 ⟨by simp [hmode], hcode⟩

/-- A launch while a command is RUNNING that is no RESTART of count 0 sets LAUNCH_LOST (R149). -/
theorem launch_of_lost {code : BitVec 8} {n : BitVec 4} {r : CommandTag} {s : State}
    (hmode : s.path.mode = .ready) (hrun : s.mbox.running = some r) (hcode : code ≠ 0)
    (hlost : code ≠ Command.restart.code ∨ n ≠ 0) (tag : BitVec 8) :
    s.launch code n tag = s.updStatus fun u => { u with launchLost := true } := by
  have hother : ¬(code = Command.restart.code ∧ n = 0) := not_and_or.2 hlost
  unfold State.launch
  rw [if_neg (launch_received hmode hcode), hrun]
  exact if_neg hother

/-- A RESTART of count 0 is taken while a command is RUNNING (R155). -/
theorem launch_restart_of_running {r : CommandTag} {s : State} (hmode : s.path.mode = .ready)
    (hrun : s.mbox.running = some r) (tag : BitVec 8) :
    s.launch Command.restart.code 0 tag = s.launchRestart tag := by
  unfold State.launch
  rw [hmode, hrun]
  rfl

/-- A RESTART that is taken is RUNNING after its restart (R145, R155). -/
theorem launchRestart_running (tag : BitVec 8) (s : State) :
    (s.launchRestart tag).mbox.running = some { code := Command.restart.code, tag } := by
  unfold State.launchRestart
  simp [Mailbox.restarted]

/-- Settles O37: a launch row is its launch while a command is RUNNING, which is lost unless it restarts. -/
theorem launchWhileRunningIsLost : Obligations.LaunchWhileRunningIsLost := by
  unfold Obligations.LaunchWhileRunningIsLost
  constructor
  · intro c code n tag r s hlaunch hwf hmode hrun hlost
    have hcode := launchOf_code_ne_zero hlaunch hwf
    obtain ⟨due, hnext⟩ := changeIn_answers (launchOrder code) (State.launch code n tag) s
    refine ⟨_, (exec_launch_of_running hlaunch hwf hrun).trans hnext, ?_⟩
    rw [launch_of_lost hmode hrun hcode hlost]
    simp
  · intro tag r s hmode hrun
    refine ⟨_, exec_launch_of_running rfl rfl hrun, ?_⟩
    rw [mirroredIn_mbox, launch_restart_of_running hmode hrun, launchRestart_running]

/-! ### A launch that a check of its own refuses -/

/-- None of the first `n` parameter slots is STALE when each of them is FRESH (R150). -/
theorem anyStale_eq_false_iff (m : Mailbox) (n : Nat) :
    m.anyStale n = false ↔ ∀ i : Fin 8, i.val < n → (m.slots[i]).fresh = true := by
  simp only [Mailbox.anyStale, List.any_eq_false, List.mem_take_iff_getElem, Vector.getElem_toList,
    Vector.length_toList, lt_inf_iff, Bool.not_eq_eq_eq_not, Bool.not_true, Bool.not_eq_false,
    forall_exists_index, forall_and_index, Fin.getElem_fin, Fin.forall_iff]
  constructor
  · exact fun h i hi hn => h _ i hn hi rfl
  · rintro h _ i hn hi rfl
    exact h i hi hn

/-- A failed launch makes every slot STALE and issues one result word (R150). -/
theorem failLaunch_eq {s : State} (hidle : s.mbox.running = none) (c : CommandTag) (e : ErrorCode) :
    s.failLaunch c e =
      { s with
        mbox := s.mbox.staled none
        path := { s.path with other := s.path.other ++ [resultWordWrite s .failed c.code c.tag e true] } } := by
  rw [← hidle]
  rfl

/-- A launch that passes the checks of the mailbox and fails one of its command's own fails with its code (R150). -/
theorem launch_of_refused {s : State} {c : Command} {count : BitVec 4} {e : ErrorCode}
    (hmode : s.path.mode = .ready) (hidle : s.mbox.running = none) (hcount : count.toNat = c.paramCount)
    (hfresh : s.mbox.anyStale c.paramCount = false) (hcheck : c.check s.mbox.params s = some e)
    (tag : BitVec 8) :
    s.launch c.code count tag = (c.failed s.mbox.params s).failLaunch { code := c.code, tag } e := by
  unfold State.launch
  rw [if_neg (launch_received hmode (code_ne_zero c)), hidle]
  unfold State.judge
  simp [hcount, hfresh, hcheck]

/-! ### SET EVENTS -/

/-- P0 is the value of the first parameter slot (R146). -/
theorem params_zero (m : Mailbox) : m.params[0] = m.slots[0].value := by simp [Mailbox.params]

/-- SET EVENTS takes one parameter, which is FRESH when its slot is (R150, R160). -/
theorem setEvents_fresh {m : Mailbox} (h : m.slots[0].fresh = true) :
    m.anyStale Command.setEvents.paramCount = false := by
  refine (anyStale_eq_false_iff m _).2 fun i hi => ?_
  obtain rfl : i = 0 := Fin.ext (Nat.lt_one_iff.1 hi)
  exact h

/-- The enable bits of a word are its low ten (R160). -/
theorem ofNat_bits_enable (w : Word) : BitVec.ofNat 10 (bits w 9 0) = BitVec.ofNat 10 w.toNat := by
  apply BitVec.eq_of_toNat_eq
  simp [bits]

/-- A SET EVENTS with a bit outside the ten events fails with RANGE (R160). -/
theorem setEvents_check_of_large {s : State} (h : 1024 ≤ s.mbox.slots[0].value.toNat) :
    Command.setEvents.check s.mbox.params s = some .range := by
  rw [← params_zero] at h
  exact if_pos h

/-- A SET EVENTS within the ten events is not refused (R160). -/
theorem setEvents_check_of_small {s : State} (h : ¬1024 ≤ s.mbox.slots[0].value.toNat) :
    Command.setEvents.check s.mbox.params s = none := by
  rw [← params_zero] at h
  exact if_neg h

/-- SET EVENTS puts P0 in the place of the enable set and reports the set before it (R160, R157). -/
theorem setEvents_effect (s t : State) :
    Command.setEvents.effect s.mbox.params t =
      (t.updStatus fun u => { u with enable := BitVec.ofNat 10 s.mbox.slots[0].value.toNat },
        some [numberWord t.status.enable.toNat]) := by
  rw [← ofNat_bits_enable, ← params_zero]
  rfl

/-- Settles O49: P0 decides between a refusal with RANGE and the replacement of the enable set. -/
theorem setEventsReplacesEnableSet : Obligations.SetEventsReplacesEnableSet := by
  unfold Obligations.SetEventsReplacesEnableSet
  intro tag s hmode hidle hslot
  have hfresh := setEvents_fresh hslot
  obtain ⟨due, hnext⟩ := changeIn_answers (launchOrder Command.setEvents.code)
    (State.launch Command.setEvents.code 1 tag) s
  refine ⟨_, hnext, ?_⟩
  by_cases hlarge : 1024 ≤ s.mbox.slots[0].value.toNat
  · have hfails : s.launch Command.setEvents.code 1 tag =
        s.failLaunch { code := Command.setEvents.code, tag } .range :=
      launch_of_refused hmode hidle rfl hfresh (setEvents_check_of_large hlarge) tag
    rw [hfails, failLaunch_eq hidle]
    simp [hlarge]
  · have haccepts : s.Accepts .setEvents 1 :=
      ⟨hmode, hidle, rfl, hfresh, setEvents_check_of_small hlarge⟩
    have hends := (launch_of_accepts tag haccepts (by decide)).trans
      (accept_completes (setEvents_effect s _) rfl rfl)
    rw [hends]
    simp [hlarge, CompletesAtOnce, State.attn, State.begun, runningWrite, resultWordWrite]

end Sys2Proof.Machine

/-!
ATTN (R166): the events by their bits, and the enable set, which is empty while the part is INITIALIZING.
-/

namespace Sys2Proof.Machine

/-! ### The events by their bits -/

/-- The bit of an event in the event bit order of chapter 11. -/
def Event.bit : Event → Fin 10
  | .cmdDone => 0
  | .linkChange => 1
  | .streamClosed => 2
  | .frameDropped => 3
  | .ringAttn => 4
  | .ringHalt => 5
  | .schedHalt => 6
  | .tally => 7
  | .guard => 8
  | .memErr => 9

/-- The mask of an event is the set of its bit alone. -/
theorem mask_eq_twoPow (e : Event) : e.mask = BitVec.twoPow 10 e.bit := by cases e <;> rfl

/-- Every bit is that of an event. -/
theorem exists_event_bit (i : Fin 10) : ∃ e : Event, e.bit = i :=
  match i with
  | 0 => ⟨.cmdDone, rfl⟩
  | 1 => ⟨.linkChange, rfl⟩
  | 2 => ⟨.streamClosed, rfl⟩
  | 3 => ⟨.frameDropped, rfl⟩
  | 4 => ⟨.ringAttn, rfl⟩
  | 5 => ⟨.ringHalt, rfl⟩
  | 6 => ⟨.schedHalt, rfl⟩
  | 7 => ⟨.tally, rfl⟩
  | 8 => ⟨.guard, rfl⟩
  | 9 => ⟨.memErr, rfl⟩

/-- A set of events is not empty exactly when it has the bit of an event. -/
theorem ne_zero_iff_exists_event (x : BitVec 10) : x ≠ 0 ↔ ∃ e : Event, x.getLsbD e.bit = true := by
  constructor
  · intro hx
    by_contra! hnone
    refine hx (BitVec.eq_of_getLsbD_eq fun i hi => ?_)
    obtain ⟨e, he⟩ := exists_event_bit ⟨i, hi⟩
    simpa [he] using hnone e
  · rintro ⟨e, he⟩ rfl
    simp at he

/-- A set of events meets the mask of an event exactly when it has the event's bit. -/
theorem and_mask_ne_zero_iff (x : BitVec 10) (e : Event) : x &&& e.mask ≠ 0 ↔ x.getLsbD e.bit = true := by
  rw [mask_eq_twoPow, BitVec.and_twoPow]
  cases hbit : x.getLsbD e.bit with
  | false => simp
  | true =>
    have hmask : BitVec.twoPow 10 e.bit ≠ 0 := by cases e <;> decide
    simpa using hmask

/-- ATTN is asserted exactly while an event is both pending and enabled (R166). -/
theorem attn_eq_true_iff (s : State) :
    s.attn = true ↔ ∃ e : Event, s.status.events &&& e.mask ≠ 0 ∧ s.status.enable &&& e.mask ≠ 0 := by
  simp only [State.attn, decide_eq_true_eq, and_mask_ne_zero_iff]
  simp only [ne_zero_iff_exists_event, BitVec.getLsbD_and, Bool.and_eq_true]

/-- ATTN is deasserted while no event is enabled (R166). -/
theorem attn_of_enable_zero {s : State} (h : s.status.enable = 0) : s.attn = false := by simp [State.attn, h]

/-! ### The enable set under a reset -/

/-- A restart by the pin enables no event (R156, R168). -/
theorem pinRestart_enable (s : State) : s.pinRestart.status.enable = 0 := by
  unfold State.pinRestart
  cases s.mbox.running with
  | none => simp
  | some r => by_cases hcode : r.code = Command.restart.code <;> simp [hcode]

/-- A restart by a launch enables no event (R155, R168). -/
theorem launchRestart_enable (tag : BitVec 8) (s : State) : (s.launchRestart tag).status.enable = 0 := by
  unfold State.launchRestart
  cases s.mbox.running <;> simp

/-- Power-on reset enables no event (R167). -/
theorem enable_of_exec_powerOnReset {m k : BitVec 4} {a : Bool} {s t : State}
    (h : exec (.powerOnReset m k a) s = .next t) : t.status.enable = 0 := by
  cases h
  simp [State.initial, StatusUnit.empty]

/-- RESTART_N enables no event (R156, R168). -/
theorem enable_of_exec_restartN {s t : State} (h : exec .restartN s = .next t) : t.status.enable = 0 := by
  cases h
  rw [mirroredIn_enable, pinRestart_enable]

/-- A RESTART of count 0 is taken while no command is RUNNING (R150, R155). -/
theorem launch_restart_of_idle {s : State} (hmode : s.path.mode = .ready) (hidle : s.mbox.running = none)
    (tag : BitVec 8) : s.launch Command.restart.code 0 tag = s.staleAll.launchRestart tag := by
  unfold State.launch
  rw [hmode, hidle]
  rfl

/-- The row RESTART enables no event while the part is READY (R155, R168). -/
theorem enable_of_exec_restart {tag : BitVec 8} {s t : State} (hmode : s.path.mode = .ready)
    (h : exec (.restart 0 tag) s = .next t) : t.status.enable = 0 := by
  cases h
  rw [mirroredIn_enable]
  cases hrun : s.mbox.running with
  | none => rw [launch_restart_of_idle hmode hrun, launchRestart_enable]
  | some r => rw [launch_restart_of_running hmode hrun, launchRestart_enable]

/-! ### The enable set while INITIALIZING -/

/-- While INITIALIZING no event is enabled (R166, R168). -/
def State.NoneEnabledAtInit (s : State) : Prop := s.path.mode = .initializing → s.status.enable = 0

/-- The law speaks of the mode and the enable set alone. -/
theorem noneEnabledAtInit_of_eq {s t : State} (hs : s.NoneEnabledAtInit) (hmode : t.path.mode = s.path.mode)
    (henable : t.status.enable = s.status.enable) : t.NoneEnabledAtInit :=
  fun hinit => henable.trans (hs (hmode.symm.trans hinit))

/-- A state that is READY meets the law. -/
theorem noneEnabledAtInit_of_ready {s : State} (h : s.path.mode = .ready) : s.NoneEnabledAtInit :=
  fun hinit => nomatch h.symm.trans hinit

/-- A state that enables no event meets the law. -/
theorem noneEnabledAtInit_of_enable {s : State} (h : s.status.enable = 0) : s.NoneEnabledAtInit := fun _ => h

/-- A command that is one change keeps the law if the change does. -/
theorem noneEnabledAtInit_of_changeIn {o : WordOrder} {f : State → State} {s t : State}
    (hf : (f s).NoneEnabledAtInit) (h : changeIn o f s = .next t) : t.NoneEnabledAtInit := by
  cases h
  exact noneEnabledAtInit_of_eq hf (by simp) (by simp)

/-- A launch judged while READY leaves the part READY or restarts it (R150, R155). -/
theorem judge_noneEnabledAtInit {s : State} (hmode : s.path.mode = .ready) (code : BitVec 8) (count : BitVec 4)
    (tag : BitVec 8) : (s.judge code count tag).NoneEnabledAtInit := by
  unfold State.judge
  cases Command.ofCode code with
  | none => exact noneEnabledAtInit_of_ready (by simp [hmode])
  | some c =>
    dsimp only
    split
    case isTrue badShape => exact noneEnabledAtInit_of_ready (by simp [hmode])
    split
    case isTrue stale => exact noneEnabledAtInit_of_ready (by simp [hmode])
    split
    case h_1 e refused => exact noneEnabledAtInit_of_ready (by simp [hmode])
    case h_2 passed =>
      cases c
      case restart => exact noneEnabledAtInit_of_enable (launchRestart_enable tag _)
      all_goals exact noneEnabledAtInit_of_ready (by simp [hmode])

/-- A launch enables an event only while the part is READY and stays so (R17, R148, R160). -/
theorem launch_noneEnabledAtInit {s : State} (hs : s.NoneEnabledAtInit) (code : BitVec 8) (count : BitVec 4)
    (tag : BitVec 8) : (s.launch code count tag).NoneEnabledAtInit := by
  unfold State.launch
  split
  case isTrue ignored => exact hs
  case isFalse received =>
    obtain ⟨hmode, -⟩ := not_or.1 received
    have hready : s.path.mode = .ready := by
      cases hm : s.path.mode with
      | initializing => exact absurd hm hmode
      | ready => rfl
    cases s.mbox.running with
    | none => exact judge_noneEnabledAtInit hready code count tag
    | some r =>
      dsimp only
      split
      case isTrue restarts => exact noneEnabledAtInit_of_enable (launchRestart_enable tag s)
      case isFalse lost => exact hs

/-! ### The law over every row -/

/-- Every next state of an outcome has the mode and the enable set of `s`. -/
def KeepsEnable (s : State) (r : Result) : Prop :=
  ∀ t, r = .next t → t.path.mode = s.path.mode ∧ t.status.enable = s.status.enable

@[simp] theorem keepsEnable_next {s t : State} :
    KeepsEnable s (.next t) ↔ t.path.mode = s.path.mode ∧ t.status.enable = s.status.enable :=
  ⟨fun h => h t rfl, fun h u hu => by cases hu; exact h⟩

@[simp] theorem keepsEnable_fault (s : State) (e : Fault) : KeepsEnable s (.fault e) := fun _ h => nomatch h

/-- No row but a launch, a reset or INIT_COMPLETION touches the mode or the enable set (R17, R160, R166). -/
theorem exec_keepsEnable {c : Instr} (hlaunch : launchOf c = none) (hreset : mayReset c = false)
    (hinit : c ≠ .initCompletion) (s : State) : KeepsEnable s (exec c s) := by
  cases c
  case powerOnReset | restartN | forwarding => cases hreset
  case initCompletion => exact absurd rfl hinit
  -- The rows that answer next in every state.
  case frameMark | release | frameEnd | linkFrameStart | rateChangeEffect | splitChangeEffect
      | parcelSent | returnWindowArrival | probeCycle | trialEnd | monitorBlockJudgement | linkLoss
      | ackTimeout | producerIndexWrite | consumerIndexWrite =>
    simp [exec, execFrameMark, execRelease, execFrameEnd, execLinkFrameStart, execRateChangeEffect,
      execSplitChangeEffect, execParcelSent, execReturnWindowArrival, execProbeCycle, execTrialEnd,
      execMonitorBlockJudgement, execLinkLoss, execAckTimeout, execProducerIndexWrite, execConsumerIndexWrite]
  -- The rows that are a change under a condition, and without it leave the state or fault.
  case upstreamRequest | holdExpiry | ownRequestGrant | downstreamResponse | ownWriteAccepted | captureWrite
      | stitchDeadline | payloadFetchComplete | recordFetchResponse | parameterWordWrite | acknowledge
      | scheduleImageResponse | snapshotStep | statusWriteIssue =>
    simp only [exec, execUpstreamRequest, execHoldExpiry, execOwnRequestGrant, execDownstreamResponse,
      execOwnWriteAccepted, execCaptureWrite, execStitchDeadline, execPayloadFetchComplete,
      execRecordFetchResponse, execParameterWordWrite, execAcknowledge, execScheduleImageResponse,
      execSnapshotStep, execStatusWriteIssue]
    (repeat' split) <;> simp
  all_goals cases hlaunch

/-- A launch row is its launch as one change, or is not taken (log entry 24). -/
theorem exec_launch_cases {c : Instr} {code : BitVec 8} {n : BitVec 4} {tag : BitVec 8}
    (hlaunch : launchOf c = some (code, n, tag)) (s : State) :
    exec c s = .next s ∨ ∃ o, exec c s = changeIn o (State.launch code n tag) s := by
  cases c
  case unknownOp =>
    cases hlaunch
    simp only [exec, execUnknownOp]
    split
    case h_1 known => exact .inl rfl
    case h_2 unknown => exact .inr ⟨ascending, rfl⟩
  case linkControlEnable | linkControlDisable | linkControlRetrain =>
    cases hlaunch
    simp only [exec, execLinkControlEnable, execLinkControlDisable, execLinkControlRetrain, launchLink]
    split
    case h_1 =>
      split
      case isTrue otherRow => exact .inl rfl
      case isFalse taken => exact .inr ⟨_, rfl⟩
    case h_2 => exact .inr ⟨_, rfl⟩
  case makeWindow | clearWindow | lockWindow | readWindowFirst | readWindowNext | openStream | closeStream
      | bindRing | bindReturn | unbind | resumeRing | loadSchedule | setSplit | snapshotCounters | setEvents
      | restart =>
    cases hlaunch
    exact .inr ⟨_, rfl⟩
  all_goals cases hlaunch

/-- An entry of a tap set keeps the law (R11). -/
theorem runTap_noneEnabledAtInit {s : State} (hs : s.NoneEnabledAtInit) (r : Request) (tap : Tap) :
    (s.runTap r tap).NoneEnabledAtInit := by
  unfold State.runTap
  split
  case h_2 word => exact launch_noneEnabledAtInit hs _ _ _
  all_goals exact noneEnabledAtInit_of_eq hs (by simp) (by simp)

/-- A tap set keeps the law (R11). -/
theorem runTaps_noneEnabledAtInit {s : State} (hs : s.NoneEnabledAtInit) (r : Request) (taps : List Tap) :
    (runTaps r taps s).NoneEnabledAtInit := by
  induction taps generalizing s with
  | nil => exact hs
  | cons tap rest ih =>
    have htap : (mirroredIn (tapOrder tap) (State.runTap r tap) s).NoneEnabledAtInit :=
      noneEnabledAtInit_of_changeIn (runTap_noneEnabledAtInit hs r tap) rfl
    unfold runTaps
    dsimp only
    split
    case h_1 => exact htap
    case h_2 => exact ih htap

/-- The port's taking of the waiting requests keeps the law (R1). -/
theorem takeWaiting_noneEnabledAtInit {s : State} (hs : s.NoneEnabledAtInit) :
    s.takeWaiting.NoneEnabledAtInit :=
  noneEnabledAtInit_of_eq hs (by simp) (by simp)

/-- The grant of the pass queue keeps the law (R11). -/
theorem forwardHead_noneEnabledAtInit {s : State} (hs : s.NoneEnabledAtInit) :
    s.forwardHead.NoneEnabledAtInit := by
  unfold State.forwardHead
  split
  case h_1 => exact hs
  case h_2 x rest _ =>
    refine takeWaiting_noneEnabledAtInit (runTaps_noneEnabledAtInit ?_ x.request x.taps)
    exact noneEnabledAtInit_of_eq hs rfl rfl

/-- FORWARDING keeps the law (R11, R14). -/
theorem execForwarding_noneEnabledAtInit {s t : State} (hs : s.NoneEnabledAtInit)
    (h : execForwarding s = .next t) : t.NoneEnabledAtInit := by
  unfold execForwarding at h
  split at h
  case isTrue granted => exact noneEnabledAtInit_of_changeIn (forwardHead_noneEnabledAtInit hs) h
  case isFalse => cases h; exact hs

/-- After INIT_COMPLETION the part is READY (R17). -/
theorem initDone_mode (s : State) : s.initDone.path.mode = .ready := by
  unfold State.initDone
  cases hmode : s.path.mode with
  | ready => exact hmode
  | initializing =>
    dsimp only
    split <;> simp

/-- Every command keeps the enable set empty while the part is INITIALIZING (R17, R166, R167, R168). -/
theorem exec_noneEnabledAtInit {c : Instr} {s t : State} (hs : s.NoneEnabledAtInit) (h : exec c s = .next t) :
    t.NoneEnabledAtInit := by
  cases hlaunch : launchOf c with
  | some l =>
    obtain hsame | ⟨o, hchange⟩ := exec_launch_cases hlaunch s
    · cases hsame.symm.trans h
      exact hs
    · exact noneEnabledAtInit_of_changeIn (launch_noneEnabledAtInit hs _ _ _) (hchange.symm.trans h)
  | none =>
    by_cases hinit : c = .initCompletion
    · subst hinit
      cases h
      exact noneEnabledAtInit_of_ready (initDone_mode s)
    · cases hreset : mayReset c with
      | false =>
        obtain ⟨hmode, henable⟩ := exec_keepsEnable hlaunch hreset hinit s t h
        exact noneEnabledAtInit_of_eq hs hmode henable
      | true =>
        cases c
        case powerOnReset => exact noneEnabledAtInit_of_enable (enable_of_exec_powerOnReset h)
        case restartN => exact noneEnabledAtInit_of_enable (enable_of_exec_restartN h)
        case restart => cases hlaunch
        case forwarding => exact execForwarding_noneEnabledAtInit hs h
        all_goals cases hreset

/-- What is quiet while INITIALIZING enables no event there (R166). -/
theorem noneEnabledAtInit_of_quiet {s : State} (h : s.InitializingQuiet) : s.NoneEnabledAtInit := by
  intro hinit
  obtain ⟨-, -, henable, -, -⟩ := h hinit
  exact henable

/-! ### The obligation -/

/-- Settles O50: ATTN by the events' bits, and the enable set, which every reset empties and no row fills while
INITIALIZING. -/
theorem attnFollowsEnabledEvents : Obligations.AttnFollowsEnabledEvents := by
  unfold Obligations.AttnFollowsEnabledEvents
  refine ⟨attn_eq_true_iff, ?_, ?_, ?_, ?_, ?_⟩
  · exact fun m k a s t h => attn_of_enable_zero (enable_of_exec_powerOnReset h)
  · exact fun s t h => attn_of_enable_zero (enable_of_exec_restartN h)
  · exact fun tag s t hmode h => attn_of_enable_zero (enable_of_exec_restart hmode h)
  · exact fun c s t hquiet h hinit =>
      attn_of_enable_zero (exec_noneEnabledAtInit (noneEnabledAtInit_of_quiet hquiet) h hinit)
  · exact fun s e => decide_eq_true_iff

end Sys2Proof.Machine

/-!
The acts a step of the part is made of: each changes one block, or is one of the few operations that change
several blocks at once, and says which law of its block it keeps. An operation is a chain of acts; a law of the
part follows from one look at each act.
-/

namespace Sys2Proof.Machine

/-! ### Counters and outputs only grow -/

/-- No counter of `t` is below that of `s`, and the outputs of `s` stand before those of `t`. -/
def Grows (s t : State) : Prop :=
  (∀ i : Fin 59, (s.status.counters[i]).toNat ≤ (t.status.counters[i]).toNat) ∧ s.out <+: t.out

theorem Grows.refl (s : State) : Grows s s := ⟨fun _ => le_rfl, List.prefix_rfl⟩

theorem Grows.trans {s t u : State} (h : Grows s t) (k : Grows t u) : Grows s u :=
  ⟨fun i => (h.1 i).trans (k.1 i), h.2.trans k.2⟩

/-- Growth speaks of the counters and the outputs alone. -/
theorem grows_of_eq {s t : State} (hc : t.status.counters = s.status.counters) (ho : t.out = s.out) :
    Grows s t := ⟨fun i => by rw [hc], by rw [ho]⟩

theorem countBy_grows (c : Counter) (n : Nat) (s : State) : Grows s (s.countBy c n) := by
  refine ⟨fun i => ?_, List.prefix_rfl⟩
  rw [countBy_counters]
  by_cases h : c.index = i
  · subst h
    simpa using saturate_ge _ n
  · have : (c.index : Nat) ≠ i := fun e => h (Fin.ext e)
    simp [Vector.getElem_set_ne _ _ this]

theorem count_grows (c : Counter) (s : State) : Grows s (s.count c) := countBy_grows c 1 s

theorem block_grows (r : Request) (o : Origin) (s : State) : Grows s (s.block r o) := by
  refine ⟨fun i => ?_, by rw [block_out]; exact List.prefix_append _ _⟩
  unfold State.block
  cases r.isWrite
  · exact (count_grows .blockedReads _).1 i
  · exact (count_grows .blockedWrites _).1 i

theorem expire_grows (h : Held) (s : State) : Grows s (s.expire h) :=
  count_grows .holdExpiries ((s.leaveHold h.request.initiator).joinPass h.request [])

theorem takeIn_grows (r : Request) (s : State) : Grows s (s.takeIn r) := by
  unfold State.takeIn
  cases s.path.holds r.initiator with
  | true => exact count_grows .heldRequests _
  | false =>
    cases s.classify r with
    | hold => exact count_grows .heldRequests _
    | block o => exact block_grows r o s
    | pass taps torn =>
      have hpass : Grows s ((s.countBy .watchTornWords torn).joinPass r taps) := countBy_grows _ torn s
      rw [if_neg Bool.false_ne_true]
      dsimp only
      split
      · exact hpass.trans (count_grows .initPasses _)
      · exact hpass

/-- A held request that leaves with its taps lets the counters and outputs grow (R9). -/
theorem leavePassing_grows (i : BitVec 4) (r : Request) (taps : List Tap) (torn : Nat) (s : State) :
    Grows s (((s.leaveHold i).countBy .watchTornWords torn).joinPass r taps) :=
  countBy_grows .watchTornWords torn (s.leaveHold i)

theorem chainLoop_grows (n : Nat) (i : BitVec 4) (s : State) : Grows s (chainLoop n i s) := by
  induction n generalizing s with
  | zero => exact Grows.refl s
  | succ n ih =>
    unfold chainLoop
    cases s.path.oldest i with
    | none => exact Grows.refl s
    | some h =>
      dsimp only
      cases s.classify h.request with
      | pass taps torn => exact (leavePassing_grows i _ taps torn s).trans (ih _)
      | block o => exact (block_grows h.request o (s.leaveHold i)).trans (ih _)
      | hold =>
        dsimp only
        split
        · exact (expire_grows h s).trans (ih _)
        · exact Grows.refl s

theorem reclassifyLeader_grows (i : BitVec 4) (s : State) : Grows s (s.reclassifyLeader i) := by
  unfold State.reclassifyLeader
  cases s.path.oldest i with
  | none => exact Grows.refl s
  | some h =>
    dsimp only
    cases s.classify h.request with
    | pass taps torn => exact (leavePassing_grows i _ taps torn s).trans (chainLoop_grows _ i _)
    | block o => exact (block_grows h.request o (s.leaveHold i)).trans (chainLoop_grows _ i _)
    | hold => exact Grows.refl s

/-! ### The acts -/

/-- The commands whose end a block owes: the running one of these three stands for a drain, a SPLIT change or a
snapshot walk (R38, R140, R159). -/
def Command.owed : Command → Bool
  | .closeStream | .setSplit | .snapshotCounters => true
  | _ => false

/-- A change is pending only while the link is UP (R133). -/
def LinkUnit.ChangeOnlyUp (l : LinkUnit) : Prop := l.change ≠ none → l.state = .up

/-- The counts of the link unit are in the ranges of R122's table. -/
def LinkUnit.CountsInRange (l : LinkUnit) : Prop :=
  l.lossRun ≤ 7 ∧ l.probeFrames ≤ 63 ∧ l.probeCycles ≤ 65535 ∧ l.trialFrame ≤ 15 ∧ l.trialBaseErrors ≤ 65535 ∧
    l.trialOwnErrors ≤ 65535 ∧ l.monitorFrames ≤ 255 ∧ l.monitorErrors ≤ 65535 ∧ l.dropRepeat ≤ 4

/-- The configured split and that of a pending change are in R140's ranges. -/
def LinkUnit.SplitsInRange (l : LinkUnit) : Prop :=
  splitInRange l.splitF l.splitRt ∧
    ∀ c, l.change = some c → ∀ f rt, c.change = .split f rt → splitInRange f rt

/-- A change of the link unit that keeps its laws: a change stands only in UP, the counts and the splits are in
range (R122, R133, R140). -/
structure LinkUnit.Keeps (l m : LinkUnit) : Prop where
  change : l.ChangeOnlyUp → m.ChangeOnlyUp
  counts : l.CountsInRange → m.CountsInRange
  splits : l.SplitsInRange → m.SplitsInRange

/-- One act of the part from `s`. -/
inductive Act (s : State) : State → Prop where
  /-- The due list moves: without repeats, and not while INITIALIZING (R162). -/
  | due (d : List (Fin 32)) (nodup : s.status.due.Nodup → d.Nodup)
      (quiet : s.path.mode = .initializing → s.status.due = [] → d = []) : Act s (s.withDue d)
  /-- Counters count and events and flags move. -/
  | status (u : StatusUnit) (enable : u.enable = s.status.enable) (due : u.due = s.status.due)
      (snapshot : u.snapshot = s.status.snapshot)
      (counters : ∀ i : Fin 59, (s.status.counters[i]).toNat ≤ (u.counters[i]).toNat) :
      Act s { s with status := u }
  | emit (o : Output) : Act s (s.emit o)
  | free (n : Nat) : Act s { s with free := n }
  /-- The path moves, but for its mode and the hold queue; the pass queue can only lose its head. -/
  | path (p : PathUnit) (mode : p.mode = s.path.mode) (hold : p.hold = s.path.hold)
      (pass : p.pass <:+ s.path.pass) : Act s { s with path := p }
  /-- The open port takes the oldest waiting request (R1). -/
  | takeIn (r : Request) (rest : List Request) (waiting : s.path.waiting = r :: rest)
      (isOpen : s.path.portOpen = true) : Act s ((s.updPath fun p => { p with waiting := rest }).takeIn r)
  /-- A held leader is classified afresh (R9). -/
  | reclassify (i : BitVec 4) : Act s (s.reclassifyLeader i)
  /-- A held leader leaves at its deadline, and its chain is worked (R10). -/
  | expire (i : BitVec 4) (h : Held) (oldest : s.path.oldest i = some h) :
      Act s ((s.expire h).workChain i)
  /-- The map moves, but for its locked entries (R20). -/
  | map (m : RegionMap)
      (locked : ∀ i : Fin 32, (s.map.windows[i]).locked = true → m.windows[i] = s.map.windows[i]) :
      Act s { s with map := m }
  | tracker (k : Tracker) (stream : k.stream = s.tracker.stream)
      (law : s.FramesOnSlots → State.FramesOnSlots { s with tracker := k }) : Act s { s with tracker := k }
  | stitch (u : StitchUnit) (law : s.EntriesDistinct → State.EntriesDistinct { s with stitch := u }) :
      Act s { s with stitch := u }
  | sched (c : Scheduler) (law : s.QueueBounded → State.QueueBounded { s with sched := c }) :
      Act s { s with sched := c }
  | rings (u : RingUnit) (inbound : s.InboundBounded → State.InboundBounded { s with rings := u })
      (heads : s.HeadsFit → State.HeadsFit { s with rings := u })
      (indexed : s.OutboundIndexed → State.OutboundIndexed { s with rings := u }) :
      Act s { s with rings := u }
  | link (l : LinkUnit) (split : l.splitPending = s.link.splitPending) (keeps : s.link.Keeps l) :
      Act s { s with link := l }
  /-- The pending change ends, and with it a running SET SPLIT (R133, R139, R140). -/
  | endSplit (l : LinkUnit) (e : ErrorCode) (d : List Word) (split : l.splitPending = false) (keeps : s.link.Keeps l) :
      Act s (State.finishIf .setSplit e d { s with link := l })
  | mbox (m : Mailbox) (running : m.running = s.mbox.running) : Act s { s with mbox := m }
  /-- A command that no block owes ends. -/
  | finish (c : Command) (e : ErrorCode) (d : List Word) (free : c.owed = false) : Act s (s.finishIf c e d)
  /-- The end of the drain is tested (R73). -/
  | drain : Act s s.drainTest

/-- A chain of acts. -/
abbrev Acts : State → State → Prop := Relation.ReflTransGen Act

theorem Act.acts {s t : State} (h : Act s t) : Acts s t := Relation.ReflTransGen.single h

/-- A law that every act keeps is kept by a chain of acts. -/
theorem Acts.keeps {P : State → Prop} (h : ∀ s t, Act s t → P s → P t) {s t : State} (hst : Acts s t)
    (hs : P s) : P t := by
  induction hst with
  | refl => exact hs
  | tail _ hact ih => exact h _ _ hact ih

/-- A relation that is reflexive and transitive holds along a chain of acts if it holds of every act. -/
theorem Acts.relates {R : State → State → Prop} (hr : ∀ s, R s s) (ht : ∀ s t u, R s t → R t u → R s u)
    (h : ∀ s t, Act s t → R s t) {s t : State} (hst : Acts s t) : R s t := by
  induction hst with
  | refl => exact hr s
  | tail _ hact ih => exact ht _ _ _ ih (h _ _ hact)

end Sys2Proof.Machine

/-!
The laws of the part, act by act.
-/

namespace Sys2Proof.Machine

/-! ### What no act touches -/

/-- No act touches the queue of commands and the straps, and counters and outputs only grow. -/
theorem Act.outside {s t : State} (h : Act s t) :
    t.pending = s.pending ∧ t.straps = s.straps ∧ Grows s t := by
  cases h with
  | due | free | map | tracker | stitch | sched | rings | link | mbox | path => exact ⟨rfl, rfl, grows_of_eq rfl rfl⟩
  | status u _ _ _ counters => exact ⟨rfl, rfl, counters, List.prefix_rfl⟩
  | emit o => exact ⟨rfl, rfl, fun _ => le_rfl, List.prefix_append _ _⟩
  | takeIn r rest => exact ⟨by simp, by simp, takeIn_grows r (s.updPath fun p => { p with waiting := rest })⟩
  | reclassify i => exact ⟨by simp, by simp, reclassifyLeader_grows i s⟩
  | expire i h => exact ⟨by simp, by simp, (expire_grows h s).trans (chainLoop_grows _ i _)⟩
  | endSplit | finish | drain => exact ⟨by simp, by simp, grows_of_eq (by simp) (by simp)⟩

theorem Acts.outside {s t : State} (h : Acts s t) :
    t.pending = s.pending ∧ t.straps = s.straps ∧ Grows s t :=
  h.relates (R := fun s t => t.pending = s.pending ∧ t.straps = s.straps ∧ Grows s t)
    (fun s => ⟨rfl, rfl, Grows.refl s⟩)
    (fun _ _ _ ⟨hp, hs, hg⟩ ⟨kp, ks, kg⟩ => ⟨kp.trans hp, ks.trans hs, hg.trans kg⟩) (fun _ _ => Act.outside)

/-- No act touches the mode, the enable set and the snapshot walk. -/
theorem Act.settings {s t : State} (h : Act s t) :
    t.path.mode = s.path.mode ∧ t.status.enable = s.status.enable ∧ t.status.snapshot = s.status.snapshot := by
  cases h with
  | due | free | map | tracker | stitch | sched | rings | link | mbox | emit => exact ⟨rfl, rfl, rfl⟩
  | path p mode => exact ⟨mode, rfl, rfl⟩
  | status u enable _ snapshot _ => exact ⟨rfl, enable, snapshot⟩
  | takeIn | reclassify | expire | endSplit | finish | drain => exact ⟨by simp, by simp, by simp⟩

theorem Acts.settings {s t : State} (h : Acts s t) :
    t.path.mode = s.path.mode ∧ t.status.enable = s.status.enable ∧ t.status.snapshot = s.status.snapshot :=
  h.relates (R := fun s t => t.path.mode = s.path.mode ∧ t.status.enable = s.status.enable ∧
      t.status.snapshot = s.status.snapshot) (fun _ => ⟨rfl, rfl, rfl⟩)
    (fun _ _ _ ⟨hm, he, hs⟩ ⟨km, ke, ks⟩ => ⟨km.trans hm, ke.trans he, ks.trans hs⟩) (fun _ _ => Act.settings)

/-- The end of a command leaves the running command or ends it (R152). -/
theorem finishIf_running (c : Command) (e : ErrorCode) (d : List Word) (s : State) :
    (s.finishIf c e d).mbox.running = if s.isRunning c then none else s.mbox.running := by
  unfold State.finishIf
  split
  case isFalse => rfl
  case isTrue hrun =>
    obtain ⟨r, hr, -⟩ := (isRunning_iff s c).1 hrun
    unfold State.finish
    rw [hr]
    rfl

/-- An act leaves the running command or ends it. -/
theorem Act.running {s t : State} (h : Act s t) :
    t.mbox.running = s.mbox.running ∨ t.mbox.running = none := by
  have hfinish (c : Command) (e : ErrorCode) (d : List Word) (u : State) (hu : u.mbox = s.mbox) :
      (u.finishIf c e d).mbox.running = s.mbox.running ∨ (u.finishIf c e d).mbox.running = none := by
    rw [finishIf_running, hu]
    split
    · exact .inr rfl
    · exact .inl rfl
  cases h with
  | due | free | map | tracker | stitch | sched | rings | link | emit | path | status => exact .inl rfl
  | mbox m running => exact .inl running
  | takeIn | reclassify | expire => exact .inl (by simp)
  | endSplit l e d => exact hfinish .setSplit e d _ rfl
  | finish c e d => exact hfinish c e d _ rfl
  | drain =>
    unfold State.drainTest
    split
    · exact hfinish .closeStream _ _ _ rfl
    · exact .inl rfl

theorem Acts.running {s t : State} (h : Acts s t) :
    t.mbox.running = s.mbox.running ∨ t.mbox.running = none :=
  h.relates (R := fun s t => t.mbox.running = s.mbox.running ∨ t.mbox.running = none) (fun _ => .inl rfl)
    (fun _ _ _ hst htu => htu.elim (fun h => hst.imp h.trans h.trans) .inr) (fun _ _ => Act.running)

/-! ### The due list and the map -/

/-- No act puts a word on the due list twice (R162). -/
theorem Act.dueDistinct {s t : State} (h : Act s t) (hs : s.DueDistinct) : t.DueDistinct := by
  unfold State.DueDistinct at hs ⊢
  cases h with
  | due d nodup => exact nodup hs
  | status u _ due => exact due ▸ hs
  | free | map | tracker | stitch | sched | rings | link | mbox | emit | path => exact hs
  | takeIn | reclassify | expire | endSplit | finish | drain => simpa using hs

/-- No act touches a locked entry (R20, R24, R26). -/
theorem Act.locked {s t : State} (h : Act s t) (i : Fin 32) (hi : (s.map.windows[i]).locked = true) :
    t.map.windows[i] = s.map.windows[i] := by
  cases h with
  | map m locked => exact locked i hi
  | due | status | free | tracker | stitch | sched | rings | link | mbox | emit | path => rfl
  | takeIn | reclassify | expire | endSplit | finish | drain => simp

/-! ### The video queue, the table and the frame list -/

theorem Act.queueBounded {s t : State} (h : Act s t) (hs : s.QueueBounded) : t.QueueBounded := by
  cases h with
  | sched c law => exact law hs
  | due | status | free | map | tracker | stitch | rings | link | mbox | emit | path => exact hs
  | takeIn | reclassify | expire | endSplit | finish | drain => simpa [State.QueueBounded] using hs

theorem Act.entriesDistinct {s t : State} (h : Act s t) (hs : s.EntriesDistinct) : t.EntriesDistinct := by
  cases h with
  | stitch u law => exact law hs
  | due | status | free | map | tracker | sched | rings | link | mbox | emit | path => exact hs
  | takeIn | reclassify | expire | endSplit | finish | drain => simpa [State.EntriesDistinct] using hs

/-- The end of a drain leaves an empty frame list on no slots (R73). -/
theorem drainTest_tracker (s : State) :
    s.drainTest.tracker = s.tracker ∨
      (s.tracker.stream.state = .draining ∧ s.tracker.frames = [] ∧ s.drainTest.tracker =
        { s.tracker with
          stream := Stream.closed, slots := s.tracker.slots.map (fun r => { r with unfinished := 0 }) }) := by
  unfold State.drainTest
  split
  case isTrue h => exact .inr ⟨h.1, h.2.1, by simp⟩
  case isFalse => exact .inl rfl

theorem Act.framesOnSlots {s t : State} (h : Act s t) (hs : s.FramesOnSlots) : t.FramesOnSlots := by
  cases h with
  | tracker k _ law => exact law hs
  | due | status | free | map | stitch | sched | rings | link | mbox | emit | path => exact hs
  | takeIn | reclassify | expire | endSplit | finish => simpa [State.FramesOnSlots] using hs
  | drain =>
    unfold State.FramesOnSlots at hs ⊢
    obtain hk | ⟨-, hf, hk⟩ := drainTest_tracker s
    · rw [hk]; exact hs
    · rw [hk]; simp [hf]

/-! ### The rings -/

theorem Act.inboundBounded {s t : State} (h : Act s t) (hs : s.InboundBounded) : t.InboundBounded := by
  cases h with
  | rings u inbound => exact inbound hs
  | due | status | free | map | tracker | stitch | sched | link | mbox | emit | path => exact hs
  | takeIn | reclassify | expire | endSplit | finish | drain => simpa [State.InboundBounded] using hs

theorem Act.headsFit {s t : State} (h : Act s t) (hs : s.HeadsFit) : t.HeadsFit := by
  cases h with
  | rings u _ heads => exact heads hs
  | due | status | free | map | tracker | stitch | sched | link | mbox | emit | path => exact hs
  | takeIn | reclassify | expire | endSplit | finish | drain => simpa [State.HeadsFit] using hs

theorem Act.outboundIndexed {s t : State} (h : Act s t) (hs : s.OutboundIndexed) : t.OutboundIndexed := by
  cases h with
  | rings u _ _ indexed => exact indexed hs
  | due | status | free | map | tracker | stitch | sched | link | mbox | emit | path => exact hs
  | takeIn | reclassify | expire | endSplit | finish | drain => simpa [State.OutboundIndexed] using hs

/-! ### The running command -/

/-- A command that has ended is not running (R152). -/
theorem finishIf_isRunning_same (c : Command) (e : ErrorCode) (d : List Word) (s : State) :
    (s.finishIf c e d).isRunning c = false := by
  unfold State.finishIf
  cases hrun : s.isRunning c with
  | false => exact hrun
  | true =>
    have hend := finishIf_running c e d s
    simp only [State.finishIf, hrun, if_true] at hend ⊢
    unfold State.isRunning
    rw [hend]

/-- The end of a command `c` changes no other command's running. -/
theorem finishIf_isRunning_ne {c x : Command} (hne : c ≠ x) (e : ErrorCode) (d : List Word) (s : State) :
    (s.finishIf c e d).isRunning x = s.isRunning x := by
  cases hrun : s.isRunning c with
  | false => rw [State.finishIf, hrun, if_neg Bool.false_ne_true]
  | true =>
    obtain ⟨r, hr, hc⟩ := (isRunning_iff s c).1 hrun
    have hx : r.code ≠ x.code := fun hx => hne (by simpa using congrArg Command.ofCode (hc.symm.trans hx))
    have hend := finishIf_running c e d s
    rw [hrun, if_pos rfl] at hend
    unfold State.isRunning
    rw [hend, hr]
    exact (beq_false_of_ne hx).symm

/-- A command is running by the mailbox unit alone. -/
theorem isRunning_congr {s t : State} (h : t.mbox.running = s.mbox.running) (c : Command) :
    t.isRunning c = s.isRunning c := by unfold State.isRunning; rw [h]

/-- The law of the running command speaks of the link, the stream state, the walk and the running command. -/
theorem runningMatches_of_eq {s t : State} (hl : t.link = s.link)
    (hk : t.tracker.stream.state = s.tracker.stream.state) (hs : t.status.snapshot = s.status.snapshot)
    (hr : t.mbox.running = s.mbox.running) (h : s.RunningMatches) : t.RunningMatches := by
  unfold State.RunningMatches at h ⊢
  rw [hl, hk, hs, isRunning_congr hr, isRunning_congr hr, isRunning_congr hr]
  exact h

theorem Act.runningMatches {s t : State} (h : Act s t) (hs : s.RunningMatches) : t.RunningMatches := by
  cases h with
  | due | free | map | stitch | sched | rings | emit | path => exact hs
  | tracker k stream => exact runningMatches_of_eq (s := s) rfl (congrArg Stream.state stream) rfl rfl hs
  | status u _ _ snapshot => exact runningMatches_of_eq (s := s) rfl rfl snapshot rfl hs
  | mbox m running => exact runningMatches_of_eq (s := s) rfl rfl rfl running hs
  | takeIn | reclassify | expire =>
    exact runningMatches_of_eq (by simp) (by simp) (by simp) (by simp) hs
  | link l split keeps =>
    obtain ⟨hup, hsplit, hclose, hsnap⟩ := hs
    exact ⟨keeps.change hup, split.trans hsplit, hclose, hsnap⟩
  | endSplit l e d split keeps =>
    obtain ⟨hup, hsplit, hclose, hsnap⟩ := hs
    refine ⟨by simpa using show l.change ≠ none → l.state = .up from keeps.change hup, ?_, ?_, ?_⟩
    · rw [finishIf_isRunning_same]; simpa using split
    · rw [finishIf_isRunning_ne (by decide)]
      show _ = s.isRunning .closeStream
      simpa using hclose
    · rw [finishIf_isRunning_ne (by decide)]
      show _ = s.isRunning .snapshotCounters
      simpa using hsnap
  | finish c e d free =>
    obtain ⟨hup, hsplit, hclose, hsnap⟩ := hs
    have hne {x : Command} (hx : x.owed = true) : c ≠ x := fun h => by simp [h, hx] at free
    refine ⟨by simpa using hup, ?_, ?_, ?_⟩
    · rw [finishIf_isRunning_ne (hne rfl)]; simpa using hsplit
    · rw [finishIf_isRunning_ne (hne rfl)]; simpa using hclose
    · rw [finishIf_isRunning_ne (hne rfl)]; simpa using hsnap
  | drain =>
    unfold State.drainTest
    split
    case isFalse => exact hs
    case isTrue =>
      obtain ⟨hup, hsplit, hclose, hsnap⟩ := hs
      refine ⟨by simpa using hup, ?_, ?_, ?_⟩
      · rw [finishIf_isRunning_ne (by decide)]
        show _ = s.isRunning .setSplit
        simpa using hsplit
      · rw [finishIf_isRunning_same]; simp [Stream.closed]
      · rw [finishIf_isRunning_ne (by decide)]
        show _ = s.isRunning .snapshotCounters
        simpa using hsnap

/-! ### The ranges of the link unit -/

theorem Act.countsInRange {s t : State} (h : Act s t) (hs : s.link.CountsInRange) : t.link.CountsInRange := by
  cases h with
  | link l _ keeps => exact keeps.counts hs
  | endSplit l e d _ keeps => simpa using keeps.counts hs
  | due | status | free | map | tracker | stitch | sched | rings | mbox | emit | path => exact hs
  | takeIn | reclassify | expire | finish | drain => simpa using hs

theorem Act.splitsInRange {s t : State} (h : Act s t) (hs : s.link.SplitsInRange) : t.link.SplitsInRange := by
  cases h with
  | link l _ keeps => exact keeps.splits hs
  | endSplit l e d _ keeps => simpa using keeps.splits hs
  | due | status | free | map | tracker | stitch | sched | rings | mbox | emit | path => exact hs
  | takeIn | reclassify | expire | finish | drain => simpa using hs

end Sys2Proof.Machine

/-!
The laws of the hold queue, act by act: its bound, its chains, and its emptiness while INITIALIZING.
-/

namespace Sys2Proof.Machine

/-! ### The chains of the hold queue -/

/-- The held requests of an initiator, oldest first. -/
def chain (i : BitVec 4) (hold : List Held) : List Held := hold.filter (fun h => h.request.initiator == i)

/-- A chain whose first request is the leader and whose others are followers (R7). -/
def Led : List Held → Prop
  | [] => True
  | first :: rest => first.role = .leader ∧ ∀ h ∈ rest, h.role = .follower

/-- The law of the chains, chain by chain. -/
theorem chainsLed_iff (s : State) : s.ChainsLed ↔ ∀ i, Led (chain i s.path.hold) := Iff.rfl

/-- The oldest held request of an initiator is the first of its chain. -/
theorem oldest_eq_head? (p : PathUnit) (i : BitVec 4) : p.oldest i = (chain i p.hold).head? := by
  unfold PathUnit.oldest chain
  rw [List.head?_filter]

/-- An initiator holds nothing when its chain is empty. -/
theorem holds_eq_false_iff (p : PathUnit) (i : BitVec 4) : p.holds i = false ↔ chain i p.hold = [] := by
  simp [PathUnit.holds, chain, List.filter_eq_nil_iff]

/-- The oldest held request of an initiator is one of its own. -/
theorem oldest_initiator {p : PathUnit} {i : BitVec 4} {h : Held} (ho : p.oldest i = some h) :
    h.request.initiator = i := by
  simpa using List.find?_some ho

/-- The leaving of an initiator's oldest request takes the first of its chain, and none of another's. -/
theorem chain_leave (i j : BitVec 4) (hold : List Held) :
    chain j (hold.eraseP (fun h => h.request.initiator == i)) =
      if j = i then (chain i hold).tail else chain j hold := by
  unfold chain
  induction hold with
  | nil => simp
  | cons h hold ih =>
    by_cases hi : h.request.initiator = i
    · by_cases hj : j = i
      · simp [hi, hj]
      · simp [hi, hj, Ne.symm hj]
    · by_cases hj : j = i
      · subst hj
        simpa [hi] using ih
      · simp only [hj, if_false] at ih
        simp [hi, hj, List.filter_cons, ih]

/-- A promotion makes the first of an initiator's chain its leader, and moves no other chain. -/
theorem chain_promote (i j : BitVec 4) (hold : List Held) :
    chain j (promoteFirst i hold) =
      if j = i then (match chain i hold with | [] => [] | h :: rest => { h with role := .leader } :: rest)
      else chain j hold := by
  unfold chain
  induction hold with
  | nil => simp [promoteFirst]
  | cons h hold ih =>
    unfold promoteFirst
    by_cases hi : h.request.initiator = i
    · by_cases hj : j = i
      · simp [hi, hj]
      · simp [hi, hj, Ne.symm hj]
    · by_cases hj : j = i
      · subst hj
        simpa [hi] using ih
      · simp only [hj, if_false] at ih
        simp [hi, hj, List.filter_cons, ih]

/-- The leaving of a request that is held shortens the hold queue by one. -/
theorem length_leave {p : PathUnit} {i : BitVec 4} {h : Held} (ho : p.oldest i = some h) :
    (p.hold.eraseP (fun h => h.request.initiator == i)).length + 1 = p.hold.length := by
  have hmem := List.mem_of_find?_eq_some ho
  have hp := List.find?_some ho
  rw [List.length_eraseP_of_mem hmem hp]
  have := List.length_pos_of_mem hmem
  omega

/-- A promotion keeps the length of the hold queue. -/
theorem length_promoteFirst (i : BitVec 4) (hold : List Held) : (promoteFirst i hold).length = hold.length := by
  induction hold with
  | nil => rfl
  | cons h hold ih =>
    unfold promoteFirst
    split
    · rfl
    · simp [ih]

/-! ### What leaving, joining and promoting do to the queues -/

theorem leaveHold_hold (i : BitVec 4) (s : State) :
    (s.leaveHold i).path.hold = s.path.hold.eraseP (fun h => h.request.initiator == i) := rfl

theorem joinPass_pass (r : Request) (taps : List Tap) (s : State) :
    (s.joinPass r taps).path.pass = s.path.pass ++ [{ request := r, taps }] := rfl

theorem joinHold_hold (r : Request) (role : Role) (s : State) :
    (s.joinHold r role).path.hold = s.path.hold ++
      [{ request := r, role, entry := s.link.count
         deadline := s.link.count + BitVec.ofNat 32 s.tracker.stream.holdLimit }] := rfl

theorem promote_hold (i : BitVec 4) (s : State) :
    (s.promote i).path.hold = promoteFirst i s.path.hold := rfl

theorem expire_hold (h : Held) (s : State) :
    (s.expire h).path.hold = s.path.hold.eraseP (fun x => x.request.initiator == h.request.initiator) := rfl

theorem expire_pass (h : Held) (s : State) :
    (s.expire h).path.pass = s.path.pass ++ [{ request := h.request, taps := [] }] := rfl

/-! ### The chain loop -/

/-- What the work on a chain does one request at a time: the oldest leaves, to the pass queue or blocked, and the
work goes on; or it stays and becomes the leader (R9, R10). -/
theorem chainLoop_succ (n : Nat) (i : BitVec 4) {s : State} {h : Held} (ho : s.path.oldest i = some h) :
    chainLoop (n + 1) i s = s.promote i ∨
      ∃ t : State, chainLoop (n + 1) i s = chainLoop n i t ∧
        t.path.hold = s.path.hold.eraseP (fun x => x.request.initiator == i) ∧
        t.path.pass.length ≤ s.path.pass.length + 1 := by
  rw [chainLoop, ho]
  dsimp only
  cases s.classify h.request with
  | pass taps torn => exact .inr ⟨_, rfl, rfl, by simp [joinPass_pass]⟩
  | block o => exact .inr ⟨_, rfl, by simp [leaveHold_hold], by simp⟩
  | hold =>
    dsimp only
    split
    · exact .inr ⟨_, rfl, by rw [expire_hold, oldest_initiator ho], by simp [expire_pass]⟩
    · exact .inl rfl

/-- The work on a chain makes the hold queue no longer, and the two queues together no longer. -/
theorem chainLoop_lengths (n : Nat) (i : BitVec 4) (s : State) :
    (chainLoop n i s).path.hold.length ≤ s.path.hold.length ∧
      (chainLoop n i s).path.pass.length + (chainLoop n i s).path.hold.length ≤
        s.path.pass.length + s.path.hold.length := by
  induction n generalizing s with
  | zero => exact ⟨le_rfl, le_rfl⟩
  | succ n ih =>
    cases ho : s.path.oldest i with
    | none => rw [chainLoop, ho]; exact ⟨le_rfl, le_rfl⟩
    | some h =>
      obtain hstay | ⟨t, hgo, hhold, hpass⟩ := chainLoop_succ n i ho
      · rw [hstay, promote_hold, length_promoteFirst]
        exact ⟨le_rfl, le_rfl⟩
      · have hleave := length_leave ho
        rw [← hhold] at hleave
        obtain ⟨h1, h2⟩ := ih t
        rw [hgo]
        omega

theorem workChain_lengths (i : BitVec 4) (s : State) :
    (s.workChain i).path.hold.length ≤ s.path.hold.length ∧
      (s.workChain i).path.pass.length + (s.workChain i).path.hold.length ≤
        s.path.pass.length + s.path.hold.length := chainLoop_lengths _ i s

/-- The work on a chain of followers leaves it led, and the others as they were (R9). -/
theorem chainLoop_led (n : Nat) (i : BitVec 4) (s : State) (hfuel : (chain i s.path.hold).length ≤ n)
    (hfollow : ∀ h ∈ chain i s.path.hold, h.role = .follower)
    (hothers : ∀ j, j ≠ i → Led (chain j s.path.hold)) (j : BitVec 4) :
    Led (chain j (chainLoop n i s).path.hold) := by
  have hdone (hnone : chain i s.path.hold = []) : Led (chain j s.path.hold) := by
    by_cases hj : j = i
    · rw [hj, hnone]; trivial
    · exact hothers j hj
  induction n generalizing s with
  | zero => exact hdone (List.eq_nil_of_length_eq_zero (Nat.le_zero.1 hfuel))
  | succ n ih =>
    cases hc : chain i s.path.hold with
    | nil =>
      have ho : s.path.oldest i = none := by rw [oldest_eq_head?, hc]; rfl
      rw [chainLoop, ho]
      exact hdone hc
    | cons h rest =>
      have ho : s.path.oldest i = some h := by rw [oldest_eq_head?, hc]; rfl
      rw [hc] at hfuel hfollow
      obtain hstay | ⟨t, hgo, hhold, -⟩ := chainLoop_succ n i ho
      · rw [hstay, promote_hold, chain_promote]
        split
        · rw [hc]
          exact ⟨rfl, fun x hx => hfollow x (List.mem_cons_of_mem _ hx)⟩
        · next hj => exact hothers j hj
      · have hi : chain i t.path.hold = rest := by rw [hhold, chain_leave, if_pos rfl, hc]; rfl
        have hne (k : BitVec 4) (hk : k ≠ i) : chain k t.path.hold = chain k s.path.hold := by
          rw [hhold, chain_leave, if_neg hk]
        have ht : ∀ k, k ≠ i → Led (chain k t.path.hold) := fun k hk => (hne k hk) ▸ hothers k hk
        rw [hgo]
        refine ih t (by rw [hi]; simpa using hfuel)
          (by rw [hi]; exact fun x hx => hfollow x (List.mem_cons_of_mem _ hx)) ht (fun hnone => ?_)
        by_cases hj : j = i
        · rw [hj, hnone]; trivial
        · exact ht j hj

/-- A led chain whose leader leaves is a chain of followers, and its work leaves every chain led. -/
theorem workChain_led {s t : State} {i : BitVec 4} (hs : ∀ j, Led (chain j s.path.hold))
    (hhold : t.path.hold = s.path.hold.eraseP (fun x => x.request.initiator == i)) (j : BitVec 4) :
    Led (chain j (t.workChain i).path.hold) := by
  have hi : chain i t.path.hold = (chain i s.path.hold).tail := by rw [hhold, chain_leave, if_pos rfl]
  refine chainLoop_led _ i t (List.length_filter_le _ _) ?_ ?_ j
  · rw [hi]
    have := hs i
    cases hc : chain i s.path.hold with
    | nil => simp
    | cons h rest => rw [hc] at this; exact this.2
  · intro k hk
    rw [hhold, chain_leave, if_neg hk]
    exact hs k

/-! ### The bound of the queues (R1) -/

/-- A request that the open port takes finds room in the queue it joins (R1). -/
theorem takeIn_lengths (r : Request) (s : State) :
    (s.takeIn r).path.hold.length ≤ s.path.hold.length + 1 ∧
      (s.takeIn r).path.pass.length + (s.takeIn r).path.hold.length ≤
        s.path.pass.length + s.path.hold.length + 1 := by
  unfold State.takeIn
  split
  · simp [joinHold_hold]; omega
  · cases s.classify r with
    | hold => simp [joinHold_hold]; omega
    | block o => simp
    | pass taps torn => dsimp only; split <;> (simp [joinPass_pass]; omega)

theorem reclassifyLeader_lengths (i : BitVec 4) (s : State) :
    (s.reclassifyLeader i).path.hold.length ≤ s.path.hold.length ∧
      (s.reclassifyLeader i).path.pass.length + (s.reclassifyLeader i).path.hold.length ≤
        s.path.pass.length + s.path.hold.length := by
  unfold State.reclassifyLeader
  cases ho : s.path.oldest i with
  | none => exact ⟨le_rfl, le_rfl⟩
  | some h =>
    have hleave := length_leave ho
    dsimp only
    cases s.classify h.request with
    | hold => exact ⟨le_rfl, le_rfl⟩
    | pass taps torn =>
      obtain ⟨h1, h2⟩ := workChain_lengths i (((s.leaveHold i).countBy .watchTornWords torn).joinPass h.request taps)
      simp only [joinPass_frame, joinPass_pass, countBy_path, leaveHold_hold, leaveHold_frame, List.length_append,
        List.length_singleton] at h1 h2
      dsimp only
      omega
    | block o =>
      obtain ⟨h1, h2⟩ := workChain_lengths i ((s.leaveHold i).block h.request o)
      simp only [block_frame, leaveHold_hold, leaveHold_frame] at h1 h2
      dsimp only
      omega

theorem Act.pathBounded {s t : State} (h : Act s t) (hs : s.PathBounded) : t.PathBounded := by
  unfold State.PathBounded Config.holdCapacity at *
  cases h with
  | path p _ hold pass =>
    have := pass.length_le
    dsimp only
    rw [hold]
    omega
  | takeIn r rest _ isOpen =>
    obtain ⟨h1, h2⟩ := takeIn_lengths r (s.updPath fun p => { p with waiting := rest })
    rw [PathUnit.portOpen, Bool.and_eq_true, decide_eq_true_iff, decide_eq_true_iff] at isOpen
    obtain ⟨hhold, hpass⟩ : s.path.hold.length < 8 ∧ s.path.pass.length < 4 := isOpen
    dsimp only [updPath_path] at h1 h2
    omega
  | reclassify i =>
    have := reclassifyLeader_lengths i s
    omega
  | expire i h oldest =>
    obtain ⟨h1, h2⟩ := workChain_lengths i (s.expire h)
    have := length_leave oldest
    rw [expire_hold, oldest_initiator oldest] at h1 h2
    rw [expire_pass, List.length_append, List.length_singleton] at h2
    omega
  | due | status | free | map | tracker | stitch | sched | rings | link | mbox | emit => exact hs
  | endSplit | finish | drain => simpa using hs

/-! ### The chains stay led (R7, R9, R10) -/

theorem takeIn_led {r : Request} {s : State} (hs : ∀ j, Led (chain j s.path.hold)) (j : BitVec 4) :
    Led (chain j (s.takeIn r).path.hold) := by
  unfold State.takeIn
  split
  case isTrue hholds =>
    rw [joinHold_hold]
    have hne : chain r.initiator s.path.hold ≠ [] := by
      rw [ne_eq, ← holds_eq_false_iff, hholds]; simp
    have hj := hs j
    by_cases hi : r.initiator = j
    · subst hi
      cases hc : chain r.initiator s.path.hold with
      | nil => exact absurd hc hne
      | cons first rest =>
        rw [hc] at hj
        rw [chain, List.filter_append, ← chain, hc]
        simp only [beq_self_eq_true, List.filter_cons_of_pos, List.filter_nil, List.cons_append, Led,
          List.mem_append, List.mem_singleton]
        exact ⟨hj.1, fun x hx => hx.elim (hj.2 x) (fun h => h ▸ rfl)⟩
    · rw [chain, List.filter_append, ← chain]
      simpa [hi] using hj
  case isFalse hholds =>
    have hnone : chain r.initiator s.path.hold = [] :=
      (holds_eq_false_iff _ _).1 (Bool.eq_false_iff.2 hholds)
    cases s.classify r with
    | pass taps torn => dsimp only; split <;> simpa using hs j
    | block o => simpa using hs j
    | hold =>
      dsimp only
      rw [joinHold_hold, chain, List.filter_append, ← chain]
      by_cases hi : r.initiator = j
      · subst hi
        rw [hnone]
        simp [Led]
      · simpa [hi] using hs j

theorem reclassifyLeader_led {i : BitVec 4} {s : State} (hs : ∀ j, Led (chain j s.path.hold)) (j : BitVec 4) :
    Led (chain j (s.reclassifyLeader i).path.hold) := by
  unfold State.reclassifyLeader
  cases ho : s.path.oldest i with
  | none => exact hs j
  | some h =>
    dsimp only
    cases s.classify h.request with
    | hold => exact hs j
    | pass taps torn => exact workChain_led hs rfl j
    | block o => exact workChain_led hs (by simp [leaveHold_hold]) j

theorem Act.chainsLed {s t : State} (h : Act s t) (hs : s.ChainsLed) : t.ChainsLed := by
  rw [chainsLed_iff] at *
  cases h with
  | path p _ hold => dsimp only; rw [hold]; exact hs
  | takeIn r rest => exact takeIn_led hs
  | reclassify i => exact reclassifyLeader_led hs
  | expire i h oldest => exact workChain_led hs (by rw [expire_hold, oldest_initiator oldest])
  | due | status | free | map | tracker | stitch | sched | rings | link | mbox | emit => exact hs
  | endSplit | finish | drain => simpa using hs

/-! ### While INITIALIZING (R17) -/

/-- While INITIALIZING a request that is not blocked passes untapped (R17). -/
theorem classify_initializing {s : State} (hm : s.path.mode = .initializing) (r : Request) :
    s.classify r = .pass [] 0 ∨ ∃ o, s.classify r = .block o := by
  unfold State.classify
  cases s.protection r with
  | some o => exact .inr ⟨o, rfl⟩
  | none => rw [hm]; exact .inl rfl

/-- The law of INITIALIZING speaks of the mode, the queues, the enable set, the due list and the stream. -/
theorem initializingQuiet_of_eq {s t : State} (hm : t.path.mode = s.path.mode) (hh : t.path.hold = s.path.hold)
    (hp : t.path.pass <:+ s.path.pass) (he : t.status.enable = s.status.enable)
    (hd : t.status.due = s.status.due) (hk : t.tracker.stream.state = s.tracker.stream.state)
    (hs : s.InitializingQuiet) : t.InitializingQuiet := by
  intro hmode
  obtain ⟨h1, h2, h3, h4, h5⟩ := hs (hm ▸ hmode)
  exact ⟨hh.trans h1, fun x hx => h2 x (hp.mem hx), he.trans h3, hd.trans h4, hk.trans h5⟩

theorem takeIn_initializingQuiet {s : State} (hs : s.InitializingQuiet) (r : Request) :
    (s.takeIn r).InitializingQuiet := by
  intro hmode
  have hm : s.path.mode = .initializing := by simpa using hmode
  obtain ⟨hhold, htaps, henable, hdue, hclosed⟩ := hs hm
  have hfree : s.path.holds r.initiator = false := by simp [PathUnit.holds, hhold]
  have hmid : (s.takeIn r).path.hold = [] ∧ ∀ x ∈ (s.takeIn r).path.pass, x.taps = [] := by
    unfold State.takeIn
    rw [hfree, if_neg Bool.false_ne_true]
    obtain hc | ⟨o, hc⟩ := classify_initializing hm r
    · rw [hc]
      dsimp only
      rw [if_pos hm]
      refine ⟨by simpa using hhold, fun x hx => ?_⟩
      rw [count_path, joinPass_pass, List.mem_append, List.mem_singleton] at hx
      exact hx.elim (htaps x) (fun h => h ▸ rfl)
    · rw [hc]
      exact ⟨by simpa using hhold, by simpa using htaps⟩
  exact ⟨hmid.1, hmid.2, by simpa using henable, by simpa using hdue, by simpa using hclosed⟩

theorem Act.initializingQuiet {s t : State} (h : Act s t) (hs : s.InitializingQuiet) : t.InitializingQuiet := by
  cases h with
  | due d _ quiet =>
    intro hm
    obtain ⟨h1, h2, h3, h4, h5⟩ := hs hm
    exact ⟨h1, h2, h3, quiet hm h4, h5⟩
  | status u enable due => exact initializingQuiet_of_eq (s := s) rfl rfl List.suffix_rfl enable due rfl hs
  | path p mode hold pass => exact initializingQuiet_of_eq (s := s) mode hold pass rfl rfl rfl hs
  | tracker k stream =>
    exact initializingQuiet_of_eq (s := s) rfl rfl List.suffix_rfl rfl rfl (congrArg Stream.state stream) hs
  | takeIn r rest =>
    exact takeIn_initializingQuiet (s := s.updPath fun p => { p with waiting := rest }) hs r
  | reclassify i =>
    intro hm
    have hmode : s.path.mode = .initializing := by simpa using hm
    have ho : s.path.oldest i = none := by simp [PathUnit.oldest, (hs hmode).1]
    rw [State.reclassifyLeader, ho]
    exact hs hmode
  | expire i h oldest =>
    intro hm
    have hold := (hs (by simpa using hm)).1
    simp [PathUnit.oldest, hold] at oldest
  | free | map | stitch | sched | rings | link | mbox | emit => exact hs
  | endSplit | finish =>
    exact initializingQuiet_of_eq (s := s) (by simp) (by simp) (by simp) (by simp) (by simp) (by simp) hs
  | drain =>
    obtain hk | ⟨-, -, hk⟩ := drainTest_tracker s
    · exact initializingQuiet_of_eq (s := s) (by simp) (by simp) (by simp) (by simp) (by simp) (by rw [hk]) hs
    · intro hm
      obtain ⟨h1, h2, h3, h4, h5⟩ := hs (by simpa using hm)
      exact ⟨by simpa using h1, by simpa using h2, by simpa using h3, by simpa using h4, by rw [hk]; rfl⟩

end Sys2Proof.Machine

/-!
The operations that blocks share, the path, the video queue and the stitch table as chains of acts.
-/

namespace Sys2Proof.Machine

theorem Acts.refl (s : State) : Acts s s := Relation.ReflTransGen.refl

/-! ### Shared operations -/

theorem countBy_acts (c : Counter) (n : Nat) (s : State) : Acts s (s.countBy c n) :=
  (Act.status (s := s) (s.countBy c n).status rfl rfl rfl (countBy_grows c n s).1).acts

theorem count_acts (c : Counter) (s : State) : Acts s (s.count c) := countBy_acts c 1 s

theorem raise_acts (e : Event) (s : State) : Acts s (s.raise e) :=
  (Act.status (s := s) (s.raise e).status rfl rfl rfl (fun _ => le_rfl)).acts

theorem emit_acts (o : Output) (s : State) : Acts s (s.emit o) := (Act.emit o).acts

/-- What leaves the mode, the hold queue and the pass queue is an act. -/
theorem updPath_acts (f : PathUnit → PathUnit) (s : State) (hm : (f s.path).mode = s.path.mode)
    (hh : (f s.path).hold = s.path.hold) (hp : (f s.path).pass <:+ s.path.pass) : Acts s (s.updPath f) :=
  (Act.path (f s.path) hm hh hp).acts

theorem issueEgress_acts (o : Owner) (a n : Nat) (s : State) : Acts s (s.issueEgress o a n) :=
  updPath_acts _ s rfl rfl List.suffix_rfl

theorem issueRead_acts (o : Owner) (a n : Nat) (s : State) : Acts s (s.issueRead o a n) :=
  updPath_acts _ s rfl rfl List.suffix_rfl

theorem issueWrite_acts (o : Owner) (a : Nat) (d : List Byte) (s : State) : Acts s (s.issueWrite o a d) :=
  updPath_acts _ s rfl rfl List.suffix_rfl

/-- A fold of operations that are chains of acts is one. -/
theorem foldl_acts {α : Type} {f : State → α → State} (h : ∀ s a, Acts s (f s a)) (l : List α) (s : State) :
    Acts s (l.foldl f s) := by
  induction l generalizing s with
  | nil => exact Acts.refl s
  | cons a l ih => exact (h s a).trans (ih _)

theorem issueSplit_acts (o : Owner) (a : Nat) (d : List Byte) (s : State) : Acts s (s.issueSplit o a d) :=
  foldl_acts (fun t _ => issueWrite_acts o _ _ t) _ s

theorem issueIndex_acts (o : Owner) (w : Option Nat) (i : RingIndex) (s : State) :
    Acts s (s.issueIndex o w i) := by
  cases w with
  | none => exact Acts.refl s
  | some a => exact issueWrite_acts o a _ s

theorem issueStatus_acts (w : Fin 32) (s : State) : Acts s (s.issueStatus w) := issueWrite_acts _ _ _ s

theorem issueResult_acts (st : ResultStatus) (c : CommandTag) (e : ErrorCode) (b : Bool) (s : State) :
    Acts s (s.issueResult st c e b) := issueWrite_acts _ _ _ s

theorem finishIf_acts {c : Command} (hc : c.owed = false) (e : ErrorCode) (d : List Word) (s : State) :
    Acts s (s.finishIf c e d) := (Act.finish c e d hc).acts

/-- The noting of changes is an act: it moves the due list, and not while INITIALIZING (R162). -/
theorem noteChanges_acts (o : List (Fin 32)) (s t : State) : Acts t (noteChanges o s t) := by
  obtain ⟨d, hd⟩ := noteChanges_eq o s t
  have hdue : (noteChanges o s t).status.due = d := by rw [hd]
  rw [hd]
  refine (Act.due (s := t) d (fun h => hdue ▸ noteChanges_due_nodup o s t h) (fun hm h => ?_)).acts
  rw [← hdue, noteChanges_initializing o s t hm, h]

/-- One change of the part is a chain of acts if it is one but for the due list. -/
theorem mirroredIn_acts {o : WordOrder} {f : State → State} {s : State} (h : Acts s (f s)) :
    Acts s (mirroredIn o f s) := h.trans (noteChanges_acts _ s (f s))

/-! ### The path -/

theorem block_acts (r : Request) (o : Origin) (s : State) : Acts s (s.block r o) := by
  have hcount : Acts s (if r.isWrite then (s.emit (.answer r.initiator true [])).count .blockedWrites
      else (s.emit (.answer r.initiator true [])).count .blockedReads) := by
    split <;> exact (emit_acts _ s).trans (count_acts _ _)
  unfold State.block
  dsimp only
  exact (hcount.trans (raise_acts .guard _)).trans (updPath_acts _ _ (by split <;> rfl) (by split <;> rfl)
    (by split <;> exact List.suffix_rfl))

theorem takeLoop_acts (n : Nat) (s : State) : Acts s (takeLoop n s) := by
  induction n generalizing s with
  | zero => exact Acts.refl s
  | succ n ih =>
    cases hw : s.path.waiting with
    | nil => rw [takeLoop, hw]
    | cons r rest =>
      by_cases ho : s.path.portOpen = true
      · rw [takeLoop_succ_of_open hw ho]
        exact (Act.takeIn r rest hw ho).acts.trans (ih _)
      · rw [takeLoop, hw]
        dsimp only
        rw [if_neg ho]

theorem takeWaiting_acts (s : State) : Acts s s.takeWaiting := takeLoop_acts _ s

theorem reclassify_acts (s : State) : Acts s s.reclassify :=
  foldl_acts (fun _ i => (Act.reclassify i).acts) _ s

theorem grantOwn_acts (s : State) : Acts s s.grantOwn := by
  unfold State.grantOwn
  split
  · exact (updPath_acts _ s rfl rfl List.suffix_rfl).trans (emit_acts _ _)
  · exact (updPath_acts _ s rfl rfl List.suffix_rfl).trans (emit_acts _ _)
  · exact Acts.refl s

/-! ### The video queue -/

/-- What keeps the stream and the law of the frame list is an act (R43). -/
theorem updTracker_law_acts {f : Tracker → Tracker} {s : State} (hs : (f s.tracker).stream = s.tracker.stream)
    (law : s.FramesOnSlots → (s.updTracker f).FramesOnSlots) : Acts s (s.updTracker f) :=
  (Act.tracker (f s.tracker) hs law).acts

/-- What keeps the frames, the stream and each slot's frame is an act. -/
theorem updTracker_acts {f : Tracker → Tracker} {s : State} (hs : (f s.tracker).stream = s.tracker.stream)
    (hf : (f s.tracker).frames = s.tracker.frames)
    (hk : ∀ i : Fin 4, ((f s.tracker).slots[i]).frame = (s.tracker.slots[i]).frame) : Acts s (s.updTracker f) := by
  refine (Act.tracker (f s.tracker) hs fun h => ?_).acts
  unfold State.FramesOnSlots at h ⊢
  dsimp only
  rw [hs, hf]
  simpa only [hk] using h

/-- What makes the video queue no longer is an act (R77). -/
theorem updSched_acts {f : Scheduler → Scheduler} {s : State}
    (h : (f s.sched).queue.length ≤ s.sched.queue.length) : Acts s (s.updSched f) :=
  (Act.sched (f s.sched) fun hs => h.trans hs).acts

theorem finishLines_acts (frame : FrameNumber) (slot : Fin 4) (n : Nat) (s : State) :
    Acts s (s.finishLines frame slot n) := by
  refine updTracker_acts (by split <;> rfl) (by split <;> rfl) fun i => ?_
  split
  · by_cases hi : (slot : Nat) = i
    · simp [Fin.ext hi]
    · simp [Vector.getElem_set_ne _ _ hi]
  · rfl

theorem sink_acts (j : Job) (s : State) : Acts s (s.sink j) :=
  (count_acts .jobsSunk s).trans (finishLines_acts _ _ _ _)

/-- A job joins a queue that has room (R66, R69, R77). -/
theorem appendJob_acts {s : State} (h : s.sched.hasRoom = true) (frame : FrameNumber) (slot : Fin 4)
    (body : JobBody) : Acts s (s.appendJob frame slot body) := by
  have hnext : Acts s (s.updSched fun c => { c with nextJob := c.nextJob + 1 }) := updSched_acts le_rfl
  unfold State.appendJob
  dsimp only
  split
  · refine hnext.trans (Act.sched _ fun _ => ?_).acts
    have : s.sched.queue.length < Config.queueCapacity := by simpa [Scheduler.hasRoom] using h
    unfold State.QueueBounded
    simpa using this
  · exact hnext.trans (sink_acts _ _)

theorem sinkAll_acts (s : State) : Acts s s.sinkAll :=
  Relation.ReflTransGen.trans (updSched_acts (s := s) (f := fun c => { c with queue := [] }) (Nat.zero_le _))
    (foldl_acts (fun t j => sink_acts j t) _ _)

theorem dropJobs_acts (frame : FrameNumber) (slot : Fin 4) (s : State) : Acts s (s.dropJobs frame slot) :=
  updSched_acts (List.length_filter_le _ _)

theorem abandonJob_acts (id : Nat) (s : State) : Acts s (s.abandonJob id) :=
  updSched_acts (le_of_eq (List.length_map _))

theorem drainTest_acts (s : State) : Acts s s.drainTest := Act.drain.acts

theorem jobSent_acts (id : Nat) (s : State) : Acts s (s.jobSent id) := by
  unfold State.jobSent
  split
  · exact Acts.refl s
  · dsimp only
    split
    · exact (updSched_acts (List.length_filter_le _ _)).trans ((finishLines_acts _ _ _ _).trans (drainTest_acts _))
    · exact Acts.refl s

/-! ### The stitch table -/

/-- An entry of a line that has none joins the table (R57, R58). -/
theorem addEntry_acts {s : State} {e : LineEntry} (hid : e.id = s.stitch.nextEntry)
    (hnone : s.stitch.find e.frame e.slot e.line = none) : Acts s (s.addEntry e) := by
  refine (Act.stitch _ fun ⟨hkeys, hids, hlt⟩ => ?_).acts
  have hkey : e.key ∉ s.stitch.entries.map LineEntry.key := by
    simp only [StitchUnit.find, List.find?_eq_none] at hnone
    simp only [List.mem_map, not_exists, not_and]
    intro x hx hxe
    simp only [LineEntry.key, Prod.mk.injEq] at hxe
    exact hnone x hx (by simp [hxe])
  have hnew : e.id ∉ s.stitch.entries.map LineEntry.id := by
    simp only [List.mem_map, not_exists, not_and]
    intro x hx hxe
    have := hlt x hx
    omega
  refine ⟨?_, ?_, ?_⟩
  · simpa using hkeys.concat hkey
  · simpa using hids.concat hnew
  · intro x hx
    simp only [List.mem_append, List.mem_singleton] at hx
    obtain hx | rfl := hx
    · exact (hlt x hx).trans (Nat.lt_succ_self _)
    · exact hid ▸ Nat.lt_succ_self _

/-- A map that keeps what a list maps to keeps the list of it. -/
theorem map_map_of_keeps {α β : Type} {f : α → β} {g : α → α} {l : List α} (h : ∀ x ∈ l, f (g x) = f x) :
    (l.map g).map f = l.map f := by
  rw [List.map_map]
  exact List.map_congr_left h

/-- An entry of the table changes, but for its line and serial number. -/
theorem putEntry_acts {s : State} {e e' : LineEntry} (hmem : e ∈ s.stitch.entries) (hid : e'.id = e.id)
    (hkey : e'.key = e.key) : Acts s (s.putEntry e') := by
  refine (Act.stitch _ fun ⟨hkeys, hids, hlt⟩ => ?_).acts
  have hone : ∀ x ∈ s.stitch.entries, x.id = e'.id → x = e := fun x hx h =>
    List.inj_on_of_nodup_map hids hx hmem (h.trans hid)
  have hsame : ∀ x ∈ s.stitch.entries, (if x.id = e'.id then e' else x).key = x.key ∧
      (if x.id = e'.id then e' else x).id = x.id := by
    intro x hx
    split
    · next h => exact ⟨hone x hx h ▸ hkey, h.symm⟩
    · exact ⟨rfl, rfl⟩
  refine ⟨?_, ?_, ?_⟩
  · show ((s.stitch.entries.map _).map LineEntry.key).Nodup
    rw [map_map_of_keeps fun x hx => (hsame x hx).1]
    exact hkeys
  · show ((s.stitch.entries.map _).map LineEntry.id).Nodup
    rw [map_map_of_keeps fun x hx => (hsame x hx).2]
    exact hids
  · intro x hx
    obtain ⟨y, hy, rfl⟩ := List.mem_map.1 hx
    dsimp only
    rw [(hsame y hy).2]
    exact hlt y hy

/-- Entries that leave the table leave no two of a line. -/
theorem filterEntries_acts (p : LineEntry → Bool) (s : State) :
    Acts s (s.updStitch fun u => { u with entries := u.entries.filter p }) := by
  refine (Act.stitch _ fun ⟨hkeys, hids, hlt⟩ => ?_).acts
  have hsub : List.Sublist (s.stitch.entries.filter p) s.stitch.entries := List.filter_sublist
  exact ⟨(hsub.map LineEntry.key).nodup hkeys, (hsub.map LineEntry.id).nodup hids, fun x hx => hlt x (hsub.mem hx)⟩

theorem ensureHead_acts (s : State) : Acts s s.ensureHead := by
  unfold State.ensureHead
  split
  · exact Acts.refl s
  · split
    · next h => exact addEntry_acts rfl (Option.isNone_iff_eq_none.1 h.2)
    · exact Acts.refl s

theorem countEffect_acts (k : Fin 6) (x : SegmentEffect) (s : State) : Acts s (s.countEffect k x) := by
  cases x with
  | damaged | rewrite => exact count_acts _ s
  | filled | nothing => exact Acts.refl s

/-- Settling moves no entry to another line. -/
theorem settle_key (e : LineEntry) : e.settle.id = e.id ∧ e.settle.key = e.key := by
  unfold LineEntry.settle
  split <;> exact ⟨rfl, rfl⟩

theorem rejudge_key (e : LineEntry) : e.rejudge.id = e.id ∧ e.rejudge.key = e.key := by
  unfold LineEntry.rejudge
  split <;> exact ⟨rfl, rfl⟩

theorem applyWrite_acts {s : State} {e : LineEntry} (hmem : e ∈ s.stitch.entries) (w : Fin 32) (k : Fin 6)
    (b n : Nat) : Acts s (s.applyWrite e w k b n) := by
  unfold State.applyWrite
  refine (countEffect_acts k _ s).trans (putEntry_acts (e := e) (by simpa using hmem) ?_ ?_)
  · exact (settle_key _).1
  · exact (settle_key _).2

/-- The entry that is found for a line stands in the table. -/
theorem mem_of_find {u : StitchUnit} {frame : FrameNumber} {slot : Fin 4} {line : Nat} {e : LineEntry}
    (h : u.find frame slot line = some e) : e ∈ u.entries := List.mem_of_find?_eq_some h

theorem handOn_acts (frame : FrameNumber) (slot : Fin 4) (line : Nat) (w : Fin 32) (k : Fin 6) (b n : Nat)
    (s : State) : Acts s (s.handOn frame slot line w k b n).1 := by
  unfold State.handOn
  split
  · exact count_acts _ s
  · dsimp only
    split
    · exact count_acts _ s
    · split
      · exact Acts.refl s
      · split
        · next e he =>
          split
          · exact count_acts _ s
          · exact applyWrite_acts (mem_of_find he) w k b n
        · next hnone =>
          refine (addEntry_acts (e := s.newEntry frame slot line .live) rfl hnone).trans
            (applyWrite_acts ?_ w k b n)
          exact List.mem_append_right _ (List.mem_singleton_self _)

theorem capture_acts (w : Fin 32) (k : Fin 6) (r : Request) (s : State) : Acts s (s.capture w k r).1 := by
  unfold State.capture
  dsimp only
  split
  · exact Acts.refl s
  · split
    · exact Acts.refl s
    · split
      · exact count_acts _ s
      · exact count_acts _ s
      · exact handOn_acts _ _ _ _ _ _ _ s

theorem damage_acts (a : Applied) (s : State) : Acts s (s.damage a) := by
  unfold State.damage
  split
  · exact Acts.refl s
  · next e he =>
    dsimp only
    split
    · exact Acts.refl s
    · have hmem := List.mem_of_find?_eq_some he
      refine (count_acts (.damagedSegments a.position) s).trans ?_
      split
      · exact putEntry_acts (e := e) hmem (rejudge_key _).1 (rejudge_key _).2
      · exact putEntry_acts (e := e) hmem (settle_key _).1 (settle_key _).2

/-! ### Release and frame end -/

/-- The head frame's record changes, but for its frame and slot. -/
theorem updHead_acts {f : FrameRecord → FrameRecord} (hf : ∀ h, (f h).slot = h.slot ∧ (f h).frame = h.frame)
    (s : State) : Acts s (s.updHead f) := by
  refine (Act.tracker _ (by dsimp only; split <;> rfl) fun h => ?_).acts
  unfold State.FramesOnSlots at h ⊢
  dsimp only
  split
  · exact h
  · next first rest heq =>
    rw [heq] at h
    simpa [hf] using h

theorem removeLines_acts (frame : FrameNumber) (slot : Fin 4) (first n : Nat) (s : State) :
    Acts s (s.removeLines frame slot first n) := filterEntries_acts _ s

theorem advance_acts (f : FrameRecord) (n : Nat) {upd : FrameRecord → FrameRecord}
    (hupd : ∀ h, (upd h).slot = h.slot ∧ (upd h).frame = h.frame) (s : State) : Acts s (s.advance f n upd) := by
  unfold State.advance
  exact (removeLines_acts _ _ _ _ s).trans ((updHead_acts (fun h => hupd { h with cursor := h.cursor + n }) _).trans
    ((ensureHead_acts _).trans (reclassify_acts _)))

theorem releaseHead_acts {s : State} (h : s.sched.hasRoom = true) (f : FrameRecord) (e : LineEntry) :
    Acts s (s.releaseHead f e) := by
  unfold State.releaseHead
  split
  case h_4 | h_5 => exact Acts.refl s
  case h_1 | h_2 =>
    refine (count_acts _ s).trans ((appendJob_acts (by simpa using h) _ _ _).trans (advance_acts f 1 ?_ _))
    exact fun _ => ⟨rfl, rfl⟩
  case h_3 =>
    refine (countBy_acts _ _ s).trans ((appendJob_acts (by simpa using h) _ _ _).trans (advance_acts f _ ?_ _))
    exact fun _ => ⟨rfl, rfl⟩

theorem release_acts (s : State) : Acts s s.release := by
  unfold State.release
  split
  · exact Acts.refl s
  · split
    · exact Acts.refl s
    · split
      · next h => exact (releaseHead_acts h.2.2 _ _).trans ((drainTest_acts _).trans (takeWaiting_acts _))
      · exact Acts.refl s

/-- The head frame leaves the list. -/
theorem popHead_acts (s : State) : Acts s (s.updTracker fun k => { k with frames := k.frames.tail }) := by
  refine updTracker_law_acts rfl fun ⟨hlen, hnodup, hslots⟩ =>
    ⟨?_, ?_, fun f hf => hslots f (List.mem_of_mem_tail hf)⟩
  · exact (List.tail_sublist _).length_le.trans hlen
  · exact ((List.tail_sublist _).map _).nodup hnodup

theorem endHead_acts {s : State} (h : s.sched.hasRoom = true) (f : FrameRecord) : Acts s (s.endHead f) :=
  (appendJob_acts h _ _ _).trans ((popHead_acts _).trans ((ensureHead_acts _).trans
    ((reclassify_acts _).trans (drainTest_acts _))))

theorem hasRoom_of_frameEndDue {s : State} {f : FrameRecord} (h : s.frameEndDue f = true) :
    s.sched.hasRoom = true := (Bool.and_eq_true_iff.1 h).2

theorem endFrame_acts (s : State) : Acts s s.endFrame := by
  unfold State.endFrame
  split
  · exact Acts.refl s
  · split
    · next h => exact (endHead_acts (hasRoom_of_frameEndDue h) _).trans (takeWaiting_acts _)
    · exact Acts.refl s

theorem endFinished_acts (slot : Fin 4) (s : State) : Acts s (s.endFinished slot) := by
  unfold State.endFinished
  split
  · exact Acts.refl s
  · split
    · next h => exact endHead_acts (hasRoom_of_frameEndDue h.2.2.2) _
    · exact Acts.refl s

/-! ### Frame marks -/

/-- Two link units with the same state, pending change and split. -/
structure LinkUnit.SameChange (l m : LinkUnit) : Prop where
  state : m.state = l.state
  change : m.change = l.change
  splitF : m.splitF = l.splitF
  splitRt : m.splitRt = l.splitRt

/-- What keeps the state, the pending change and the split keeps the laws of the link if its counts are in range. -/
theorem LinkUnit.SameChange.keeps {l m : LinkUnit} (same : l.SameChange m)
    (counts : l.CountsInRange → m.CountsInRange) : l.Keeps m where
  change h := by unfold LinkUnit.ChangeOnlyUp at *; rw [same.state, same.change]; exact h
  counts := counts
  splits h := by unfold LinkUnit.SplitsInRange at *; rw [same.change, same.splitF, same.splitRt]; exact h

/-- What keeps the link state, the pending change and the split is an act. -/
theorem updLink_acts {f : LinkUnit → LinkUnit} {s : State} (same : s.link.SameChange (f s.link))
    (counts : s.link.CountsInRange → (f s.link).CountsInRange) : Acts s (s.updLink f) :=
  (Act.link (f s.link) (by unfold LinkUnit.splitPending; rw [same.change]) (same.keeps counts)).acts

theorem reportDrop_acts (frame : FrameNumber) (s : State) : Acts s (s.reportDrop frame) :=
  updLink_acts ⟨rfl, rfl, rfl, rfl⟩ fun ⟨h1, h2, h3, h4, h5, h6, h7, h8, _⟩ =>
    ⟨h1, h2, h3, h4, h5, h6, h7, h8, le_rfl⟩

/-- What a drop does to the tracker: the frame leaves the list, and its slot has no unfinished line (R46). -/
def Tracker.dropped (k : Tracker) (frame : FrameNumber) (slot : Fin 4) : Tracker :=
  { k with
    frames := k.frames.filter (fun f => !(f.frame == frame && f.slot == slot))
    slots := k.slots.set slot { k.slots[slot] with unfinished := 0 } }

/-- A write of one slot record, read at any slot. -/
theorem getElem_set_slot {α : Type} {n : Nat} (v : Vector α n) (i j : Fin n) (x : α) :
    (v.set i x)[j] = if i = j then x else v[j] := by
  by_cases h : i = j
  · simp [h]
  · have : (i : Nat) ≠ j := fun e => h (Fin.ext e)
    simp [h, Vector.getElem_set_ne _ _ this]

theorem dropped_slot_frame (k : Tracker) (frame : FrameNumber) (slot i : Fin 4) :
    ((k.dropped frame slot).slots[i]).frame = (k.slots[i]).frame := by
  unfold Tracker.dropped
  dsimp only
  rw [getElem_set_slot]
  split
  · next h => rw [h]
  · rfl

theorem dropFrame_tracker (frame : FrameNumber) (slot : Fin 4) (s : State) :
    (s.dropFrame frame slot).tracker = s.tracker.dropped frame slot := by
  unfold State.dropFrame
  simp [Tracker.dropped]

theorem dropFrame_acts (frame : FrameNumber) (slot : Fin 4) (s : State) : Acts s (s.dropFrame frame slot) := by
  have hdrop (t : State) : Acts t (t.updTracker fun k => k.dropped frame slot) := by
    refine updTracker_law_acts rfl fun ⟨hlen, hnodup, hslots⟩ => ⟨?_, ?_, fun f hf => ?_⟩
    · exact (List.length_filter_le _ _).trans hlen
    · exact (List.filter_sublist.map _).nodup hnodup
    · have hslot := hslots f (List.mem_of_mem_filter hf)
      exact ⟨hslot.1, (dropped_slot_frame _ _ _ _).trans hslot.2⟩
  unfold State.dropFrame
  exact (filterEntries_acts _ s).trans ((dropJobs_acts _ _ _).trans ((hdrop _).trans ((count_acts _ _).trans
    ((countBy_acts _ _ _).trans ((raise_acts _ _).trans ((reportDrop_acts _ _).trans (ensureHead_acts _)))))))

/-- A list of distinct slots below a bound is no longer than the bound. -/
theorem length_le_of_slots {l : List (Fin 4)} {n : Nat} (hnodup : l.Nodup) (hlt : ∀ i ∈ l, i.val < n) :
    l.length ≤ n := by
  have hsub : l.map Fin.val ⊆ List.range n := fun x hx => by
    obtain ⟨i, hi, rfl⟩ := List.mem_map.1 hx
    exact List.mem_range.2 (hlt i hi)
  simpa using ((hnodup.map Fin.val_injective).subperm hsub).length_le

/-- A frame comes onto the list on a slot that no frame of the list has (R42). -/
theorem pushFrame_acts {s : State} {frame : FrameNumber} {slot : Fin 4}
    (hslot : slot.val < s.tracker.stream.slotCount)
    (hfree : s.FramesOnSlots → ∀ f ∈ s.tracker.frames, f.slot ≠ slot) :
    Acts s (s.updTracker fun k =>
      { k with
        slots := k.slots.set slot { frame := some frame, unfinished := k.stream.lines }
        frames := k.frames ++ [{ frame, slot, cursor := 0, whole := 0, torn := 0, absent := 0 }]
        newest := some frame }) := by
  refine updTracker_law_acts rfl fun h => ?_
  have hno := hfree h
  obtain ⟨hlen, hnodup, hslots⟩ := h
  have hall : ∀ f ∈ s.tracker.frames ++ [{ frame, slot, cursor := 0, whole := 0, torn := 0, absent := 0 }],
      f.slot.val < s.tracker.stream.slotCount ∧
        ((s.tracker.slots.set slot { frame := some frame, unfinished := s.tracker.stream.lines })[f.slot]).frame =
          some f.frame := by
    intro f hf
    rw [List.mem_append, List.mem_singleton] at hf
    obtain hf | rfl := hf
    · rw [getElem_set_slot, if_neg (Ne.symm (hno f hf))]
      exact hslots f hf
    · exact ⟨hslot, by simp⟩
  have hdistinct : ((s.tracker.frames ++ ([{ frame, slot, cursor := 0, whole := 0, torn := 0, absent := 0 }] :
      List FrameRecord)).map FrameRecord.slot).Nodup := by
    have hnew : slot ∉ s.tracker.frames.map FrameRecord.slot := fun hx => by
      obtain ⟨f, hf, he⟩ := List.mem_map.1 hx
      exact hno f hf he
    simpa using hnodup.concat hnew
  refine ⟨?_, hdistinct, hall⟩
  rw [← List.length_map FrameRecord.slot]
  refine length_le_of_slots hdistinct fun i hi => ?_
  obtain ⟨f, hf, rfl⟩ := List.mem_map.1 hi
  exact (hall f hf).1

/-- The frame that a mark's slot is pinned to is its slot's current frame (R45). -/
theorem frame_of_pinned {k : Tracker} {slot : Fin 4} {f : FrameNumber} (h : k.pinned slot = some f) :
    (k.slots[slot]).frame = some f := by
  unfold Tracker.pinned at h
  exact (Option.filter_eq_some_iff.1 h).1

/-- A slot that is pinned to no frame has none on the list (R45). -/
theorem no_frame_of_unpinned {s : State} {slot : Fin 4} (h : s.tracker.pinned slot = none)
    (hs : s.FramesOnSlots) : ∀ f ∈ s.tracker.frames, f.slot ≠ slot := by
  intro f hf he
  have hframe := (hs.2.2 f hf).2
  subst he
  have hidx : (s.tracker.indexOf f.frame f.slot).isSome = true := by
    rw [Tracker.indexOf, List.findIdx?_isSome, List.any_eq_true]
    exact ⟨f, hf, by simp⟩
  unfold Tracker.pinned at h
  dsimp only at h
  rw [hframe] at h
  simp [Option.filter, hidx] at h

/-- A mark on a slot below the slot count is accepted (R42). -/
theorem acceptMark_acts {s : State} {slot : Fin 4} (frame : FrameNumber)
    (hslot : slot.val < (s.endFinished slot).tracker.stream.slotCount) : Acts s (s.acceptMark frame slot) := by
  unfold State.acceptMark
  dsimp only
  refine Relation.ReflTransGen.trans (endFinished_acts slot s) ?_
  generalize s.endFinished slot = u at hslot ⊢
  have hclose {t w : State} {b : Bool} (h : Acts t w) :
      Acts t (if b = true then w.ensureHead.reclassify else w.ensureHead) := by
    split
    · exact h.trans ((ensureHead_acts w).trans (reclassify_acts _))
    · exact h.trans (ensureHead_acts w)
  cases hp : u.tracker.pinned slot with
  | none => exact hclose (pushFrame_acts hslot (no_frame_of_unpinned hp))
  | some f =>
    refine (dropFrame_acts f slot u).trans (hclose (pushFrame_acts ?_ fun hs g hg he => ?_))
    · rw [dropFrame_tracker]; exact hslot
    · have hframe := (hs.2.2 g hg).2
      subst he
      rw [dropFrame_tracker, dropped_slot_frame, frame_of_pinned hp] at hframe
      rw [dropFrame_tracker] at hg
      have := List.of_mem_filter hg
      simp [Option.some.inj hframe] at this

/-- A frame that ends before a mark is accepted leaves the stream as it is, unless it is DRAINING (R69, R73). -/
theorem endFinished_stream {s : State} (h : s.tracker.stream.state ≠ .draining) (slot : Fin 4) :
    (s.endFinished slot).tracker.stream = s.tracker.stream := by
  unfold State.endFinished
  split
  · rfl
  · split
    · unfold State.endHead
      obtain hk | ⟨hdraining, -⟩ := drainTest_tracker _
      · rw [hk]; simp
      · exact absurd (by simpa using hdraining) h
    · rfl

theorem frameMark_acts (a : Nat) (v : Word) (s : State) : Acts s (s.frameMark a v) := by
  unfold State.frameMark
  dsimp only
  split
  · exact Acts.refl s
  · split
    · exact Acts.refl s
    · split
      · exact count_acts _ s
      · next hdraining =>
        split
        · exact count_acts _ s
        · next hslot =>
          split
          · exact count_acts _ s
          · split
            · refine acceptMark_acts _ ?_
              rw [endFinished_stream hdraining]
              exact not_le.1 hslot
            · exact count_acts _ s

end Sys2Proof.Machine

/-!
The operations of the ring unit and of the scheduler as chains of acts.
-/

namespace Sys2Proof.Machine

/-! ### The rings -/

/-- The bound of an inbound ring (R111). -/
def InRing.bounded (q : InRing) : Prop := q.count ≤ 256 ∧ q.occupied ≤ q.count

/-- A change of the ring unit that keeps its laws is an act. -/
theorem updRings_law_acts {f : RingUnit → RingUnit} {s : State}
    (inbound : s.InboundBounded → (s.updRings f).InboundBounded) (heads : s.HeadsFit → (s.updRings f).HeadsFit)
    (indexed : s.OutboundIndexed → (s.updRings f).OutboundIndexed) : Acts s (s.updRings f) :=
  (Act.rings (f s.rings) inbound heads indexed).acts

/-- A change of one outbound ring that keeps its laws is an act. -/
theorem updOut_acts {r : Fin 4} {f : OutRing → OutRing} {s : State}
    (heads : (s.rings.outbound[r]).headFits → (f s.rings.outbound[r]).headFits)
    (indexed : (s.rings.outbound[r]).indexed → (f s.rings.outbound[r]).indexed) : Acts s (s.updOut r f) := by
  refine updRings_law_acts id (fun h q => ?_) (fun h q => ?_)
  · show OutRing.headFits (s.rings.outbound.set r (f s.rings.outbound[r]))[q]
    rw [getElem_set_slot]
    split
    · exact heads (h r)
    · exact h q
  · show OutRing.indexed (s.rings.outbound.set r (f s.rings.outbound[r]))[q]
    rw [getElem_set_slot]
    split
    · exact indexed (h r)
    · exact h q

/-- A change of one inbound ring that keeps its bound is an act. -/
theorem updIn_acts {r : Fin 2} {f : InRing → InRing} {s : State}
    (bounded : (s.rings.inbound[r]).bounded → (f s.rings.inbound[r]).bounded) : Acts s (s.updIn r f) := by
  refine updRings_law_acts (fun h q => ?_) id id
  show InRing.bounded (s.rings.inbound.set r (f s.rings.inbound[r]))[q]
  rw [getElem_set_slot]
  split
  · exact bounded (h r)
  · exact h q

/-- A change of the return binding is an act. -/
theorem updRet_acts (f : ReturnBinding → ReturnBinding) (s : State) : Acts s (s.updRet f) :=
  (Act.rings (s := s) { s.rings with ret := f s.rings.ret } id id id).acts

theorem bumpSerial_acts (s : State) : Acts s s.bumpSerial :=
  (Act.rings (s := s) { s.rings with nextSerial := s.rings.nextSerial + 1 } id id id).acts

/-! ### Outbound rings -/

/-- A ring whose record is not taken has a taken count of 0 (R98). -/
theorem takenCount_of_none {h : HeadRecord} (hn : h.taken = none) : h.takenCount = 0 := by
  simp [HeadRecord.takenCount, hn]

/-- A taken record stands among the pending ones (R95). -/
theorem pending_of_taken {o : OutRing} {sr : SendRecord} (ht : o.head.taken = some sr) (h : o.indexed) :
    0 < o.pendingCount := by
  have : o.head.takenCount = 1 := by simp [HeadRecord.takenCount, ht]
  have := h.1
  omega

/-- A head record that is taken no more than the one it replaces keeps the indices' law (R95, R98). -/
theorem indexed_of_head {o : OutRing} {h : HeadRecord} (ht : h.takenCount ≤ o.head.takenCount) (ho : o.indexed) :
    OutRing.indexed { o with head := h } := ⟨ht.trans ho.1, ho.2⟩

/-- A head record that fits its ring and is taken no more than the one it replaces keeps the laws. -/
theorem setHead_acts {r : Fin 4} {h : HeadRecord} {s : State}
    (fits : OutRing.headFits { s.rings.outbound[r] with head := h })
    (ht : h.takenCount ≤ (s.rings.outbound[r]).head.takenCount) :
    Acts s (s.updOut r fun o => { o with head := h }) :=
  updOut_acts (f := fun o => { o with head := h }) (fun _ => fits) (indexed_of_head ht)

/-- An empty head record keeps both laws. -/
theorem emptyHead_acts (r : Fin 4) (s : State) : Acts s (s.updOut r fun o => { o with head := .empty }) :=
  setHead_acts (by trivial) (Nat.zero_le _)

theorem tryFetch_acts (r : Fin 4) (s : State) : Acts s (s.tryFetch r) := by
  unfold State.tryFetch
  dsimp only
  split
  · have hfetch : Acts s (s.updOut r fun o => { o with head := .fetching s.rings.nextSerial }) :=
      setHead_acts trivial (Nat.zero_le _)
    have hbump := hfetch.trans (bumpSerial_acts _)
    exact hbump.trans (issueEgress_acts _ _ 64 _)
  · exact Acts.refl s

theorem haltOut_acts (r : Fin 4) (c : HaltCause) (w : RingIndex) (s : State) : Acts s (s.haltOut r c w) :=
  (updOut_acts id id).trans (raise_acts _ _)

/-- The test of an index in numbers (R98). -/
theorem outIndexOk_iff (o : OutRing) (v : RingIndex) :
    o.indexOk v = true ↔ (v - o.consumer).toNat ≤ o.count ∧ o.head.takenCount ≤ (v - o.consumer).toNat := by
  simp [OutRing.indexOk]

/-- An index that passes the test keeps the indices' law as the producer seen (R98). -/
theorem indexed_of_indexOk {o : OutRing} {v : RingIndex} (h : o.indexOk v = true) :
    OutRing.indexed { o with producerSeen := v } := ((outIndexOk_iff o v).1 h).symm

theorem producerWrite_acts (r : Fin 4) (v : Word) (s : State) : Acts s (s.producerWrite r v) := by
  unfold State.producerWrite
  dsimp only
  split
  · exact Acts.refl s
  · exact updOut_acts id id
  · split
    · next hok =>
      refine Relation.ReflTransGen.trans ?_ (tryFetch_acts r _)
      exact updOut_acts id fun _ => indexed_of_indexOk hok
    · exact haltOut_acts r _ _ s

theorem takeAttempts_acts (n : Nat) (s : State) : Acts s (s.takeAttempts n) := by
  unfold State.takeAttempts
  split
  · exact Acts.refl s
  · exact (Act.free _).acts

theorem issueRecordStatus_acts (o : OutRing) (sr : SendRecord) (st : RecordStatus) (s : State) :
    Acts s (s.issueRecordStatus o sr st) := (issueWrite_acts _ _ _ s).trans (takeAttempts_acts _ _)

/-- The settling of the toggle leaves the indices and the count (R104). -/
theorem settleToggle_indices (o : OutRing) (st : RecordStatus) :
    (o.settleToggle st).producerSeen = o.producerSeen ∧ (o.settleToggle st).consumer = o.consumer ∧
      (o.settleToggle st).count = o.count := by
  unfold OutRing.settleToggle
  cases o.kind with
  | plain => exact ⟨rfl, rfl, rfl⟩
  | reliable =>
    cases st with
    | tooLarge => dsimp only; split <;> exact ⟨rfl, rfl, rfl⟩
    | sent | delivered | failed | memoryError | badRecord => exact ⟨rfl, rfl, rfl⟩

/-- The consumer index passes one pending record (R104). -/
theorem pending_succ {o : OutRing} (h : 0 < o.pendingCount) :
    (o.producerSeen - (o.consumer + 1)).toNat = o.pendingCount - 1 := by
  unfold OutRing.pendingCount at *
  bv_omega

/-- A record that is among the pending ones is retired (R104). -/
theorem retire_acts {r : Fin 4} {s : State} (sr : SendRecord) (st : RecordStatus)
    (h : (s.rings.outbound[r]).indexed → 0 < (s.rings.outbound[r]).pendingCount) : Acts s (s.retire r sr st) := by
  have hout (t : State) (ht : t.rings = s.rings) : Acts t (t.updOut r fun o =>
      { o.settleToggle st with consumer := (s.rings.outbound[r]).consumer + 1, head := .empty, sendCount := 0 }) := by
    refine updOut_acts (fun _ => trivial) fun ho => ?_
    rw [ht] at ho ⊢
    obtain ⟨hseen, -, hcount⟩ := settleToggle_indices (s.rings.outbound[r]) st
    refine ⟨Nat.zero_le _, ?_⟩
    show ((OutRing.settleToggle _ st).producerSeen - _).toNat ≤ (OutRing.settleToggle _ st).count
    rw [hseen, hcount, pending_succ (h ho)]
    exact (Nat.sub_le _ _).trans ho.2
  have hattn (t : State) : Acts t (if sr.attention then t.raise .ringAttn else t) := by
    split
    · exact raise_acts _ t
    · exact Acts.refl t
  have hbody := (((issueRecordStatus_acts (s.rings.outbound[r]) sr st s).trans
    (issueIndex_acts .indexWord (s.rings.outbound[r]).consumerWord ((s.rings.outbound[r]).consumer + 1) _)).trans
      (hout _ (by simp))).trans (hattn _)
  unfold State.retire
  dsimp only
  cases st with
  | tooLarge | failed => exact hbody.trans (count_acts _ _)
  | sent | delivered | memoryError | badRecord => exact hbody

theorem retireNext_acts {r : Fin 4} {s : State} (sr : SendRecord) (st : RecordStatus)
    (h : (s.rings.outbound[r]).indexed → 0 < (s.rings.outbound[r]).pendingCount) :
    Acts s (s.retireNext r sr st) := (retire_acts sr st h).trans (tryFetch_acts r _)

theorem recordFetched_acts (r : Fin 4) (serial : Nat) (e : Bool) (d : List Byte) (s : State) :
    Acts s (s.recordFetched r serial e d) := by
  unfold State.recordFetched
  dsimp only
  split
  · exact Acts.refl s
  · split
    · exact (emptyHead_acts r s).trans ((raise_acts _ _).trans (haltOut_acts _ _ _ _))
    · split
      · exact emptyHead_acts r s
      · next hpending =>
        split
        · exact retireNext_acts _ _ fun _ => Nat.pos_of_ne_zero hpending
        · exact updOut_acts (fun _ => trivial) fun ho => ⟨Nat.pos_of_ne_zero hpending, ho.2⟩

theorem endSend_acts {r : Fin 4} {sr : SendRecord} {s : State}
    (hh : (s.rings.outbound[r]).head = .inFlight sr) : Acts s (s.endSend r sr) := by
  have htaken : (s.rings.outbound[r]).head.taken = some sr := by rw [hh]; rfl
  unfold State.endSend
  dsimp only
  split
  · refine Relation.ReflTransGen.trans (setHead_acts (by trivial) ?_) (count_acts _ _)
    rw [hh]
    exact le_rfl
  · exact (retire_acts sr .failed (pending_of_taken htaken)).trans (haltOut_acts _ _ _ _)

/-- The record that an ACK can retire is taken (R101). -/
theorem taken_of_acknowledgeable {o : OutRing} {sr : SendRecord} (h : o.acknowledgeable = some sr) :
    o.head.taken = some sr := by
  unfold OutRing.acknowledgeable at h
  cases hh : o.head with
  | inFlight x => rw [hh] at h; exact h
  | ready x => rw [hh] at h; dsimp only at h; split at h <;> simp_all [HeadRecord.taken]
  | empty | fetching | placed => rw [hh] at h; simp at h

theorem takeAnswer_acts (r : Fin 4) (a : Answer) (s : State) : Acts s (s.takeAnswer r a) := by
  unfold State.takeAnswer
  cases a with
  | none => exact Acts.refl s
  | ack t =>
    dsimp only
    split
    · exact Acts.refl s
    · next sr hsr =>
      split
      · exact retireNext_acts sr _ (pending_of_taken (taken_of_acknowledgeable hsr))
      · exact Acts.refl s
  | nak t =>
    dsimp only
    split
    · next sr hsr =>
      split
      · exact endSend_acts hsr
      · exact Acts.refl s
    all_goals exact Acts.refl s

theorem ackTimeout_acts (r : Fin 4) (s : State) : Acts s (s.ackTimeout r) := by
  unfold State.ackTimeout
  dsimp only
  split
  · next sr hsr =>
    split
    · exact endSend_acts hsr
    · exact Acts.refl s
  all_goals exact Acts.refl s

theorem parcelFetched_acts (r : Fin 4) (record : Nat) (e : Bool) (s : State) :
    Acts s (s.parcelFetched r record e) := by
  have htaken {sr : SendRecord} {st : RecordStatus} (h : (s.rings.outbound[r]).head.taken = some sr) :
      Acts s (s.retireNext r sr st) := retireNext_acts sr st (pending_of_taken h)
  unfold State.parcelFetched
  dsimp only
  split
  case h_4 | h_5 => exact Acts.refl s
  all_goals
    next hh =>
    split
    · exact htaken (by rw [hh]; rfl)
    · exact Acts.refl s

/-! ### Inbound rings -/

/-- The flow of a ring moves its hold request alone (R114). -/
theorem flow_bounded {q : InRing} (h : q.bounded) : q.flow.bounded := by
  unfold InRing.flow
  dsimp only
  split
  · exact h
  · split
    · exact h
    · exact h

/-- An index that passes the test keeps the bound as the consumer seen (R110). -/
theorem bounded_of_indexOk {q : InRing} {v : RingIndex} (hv : q.indexOk v = true) (h : q.bounded) :
    InRing.bounded { q with consumerSeen := v } := by
  have hle : (v - q.consumerSeen).toNat ≤ (q.producer - q.consumerSeen).toNat := of_decide_eq_true hv
  have hocc := h.2
  unfold InRing.occupied at hocc
  refine ⟨h.1, ?_⟩
  show (q.producer - v).toNat ≤ q.count
  have : (q.producer - v).toNat ≤ (q.producer - q.consumerSeen).toNat := by bv_omega
  exact this.trans hocc

theorem consumerWrite_acts (r : Fin 2) (v : Word) (s : State) : Acts s (s.consumerWrite r v) := by
  unfold State.consumerWrite
  dsimp only
  split
  · exact Acts.refl s
  · exact updIn_acts id
  · split
    · next hok => exact updIn_acts fun h => flow_bounded (bounded_of_indexOk hok h)
    · exact (updIn_acts id).trans (raise_acts _ _)

/-- A landing on a ring with a free slot takes one (R112). -/
theorem bounded_of_landed {q : InRing} (hfree : q.occupied ≠ q.count) (h : q.bounded) (m : Option Bool)
    (l : Landing) : InRing.bounded { q with producer := q.producer + 1, lastAccepted := m, landing := l } := by
  have hlt : (q.producer - q.consumerSeen).toNat < q.count := lt_of_le_of_ne h.2 hfree
  have := h.1
  refine ⟨h.1, ?_⟩
  show (q.producer + 1 - q.consumerSeen).toNat ≤ q.count
  have : (q.producer + 1 - q.consumerSeen).toNat = (q.producer - q.consumerSeen).toNat + 1 := by bv_omega
  omega

theorem land_acts {r : Fin 2} {s : State} (m : Cmsg)
    (hfree : (s.rings.inbound[r]).occupied ≠ (s.rings.inbound[r]).count) : Acts s (s.land r m) := by
  unfold State.land
  dsimp only
  have hland (t : State) (ht : t.rings.inbound = s.rings.inbound) (l : Landing) : Acts t (t.updIn r fun q =>
      ({ q with
          producer := q.producer + 1, lastAccepted := some m.toggle, landing := l }).flow) := by
    refine updIn_acts fun h => ?_
    rw [ht] at h ⊢
    exact flow_bounded (bounded_of_landed hfree h _ _)
  have hwrites (o : Owner) (a b : Nat) (d e : List Byte) (w : Option Nat) (i : RingIndex) :
      Acts s ((((s.issueWrite o a d).issueSplit o b e).issueIndex o w i).bumpSerial) :=
    (issueWrite_acts o a d s).trans ((issueSplit_acts o b e _).trans ((issueIndex_acts o w i _).trans
      (bumpSerial_acts _)))
  exact Relation.ReflTransGen.trans (hwrites _ _ _ _ _ _ _) (hland _ (by simp) _)

/-- An answer moves the answer to send alone (R113). -/
theorem answer_acts (r : Fin 2) (a : Answer) (s : State) : Acts s (s.updIn r fun q => q.answer a) := by
  refine updIn_acts fun h => ?_
  unfold InRing.answer
  split
  · exact h
  · exact h

/-- The status flag of a full inbound ring is set (R112). -/
theorem markFull_acts (s : State) : Acts s (s.updStatus fun u => { u with inboundFull := true }) :=
  (Act.status (s := s) { s.status with inboundFull := true } rfl rfl rfl fun _ => le_rfl).acts

theorem takeCmsg_acts (r : Fin 2) (m : Cmsg) (s : State) : Acts s (s.takeCmsg r m) := by
  have hrefuse (a : Answer) (c : Counter) : Acts s ((s.updIn r fun q => q.answer a).count c) :=
    (answer_acts r a s).trans (count_acts c _)
  unfold State.takeCmsg
  dsimp only
  split
  · exact hrefuse _ _
  · split
    · exact hrefuse _ _
    · split
      · exact hrefuse _ _
      · split
        · exact hrefuse _ _
        · split
          · exact hrefuse _ _
          · split
            · exact (hrefuse _ _).trans (markFull_acts _)
            · next hfree => exact (land_acts m hfree).trans (count_acts _ _)

theorem landingAccepted_acts (r : Fin 2) (n : Nat) (s : State) : Acts s (s.landingAccepted r n) := by
  refine updIn_acts fun h => ?_
  split
  · exact h
  · split
    · exact h
    · split
      · exact h
      · exact h

/-! ### The return picture -/

theorem doneTest_acts (b : Bool) (s : State) : Acts s (s.doneTest b) := by
  unfold State.doneTest
  dsimp only
  split
  · split
    · refine Relation.ReflTransGen.trans ?_ (updRet_acts _ _)
      split
      · exact issueWrite_acts _ _ _ s
      · exact (issueWrite_acts _ _ _ s).trans (Act.free _).acts
    · exact Acts.refl s
  · exact Acts.refl s

theorem takePiece_acts (p : Piece) (s : State) : Acts s (s.takePiece p) := by
  unfold State.takePiece
  dsimp only
  split
  · exact (issueSplit_acts _ _ _ s).trans ((updRet_acts _ _).trans (count_acts _ _))
  · exact count_acts _ s

theorem takeReturnEnd_acts (b : Bool) (f : BitVec 16) (p : Bool) (s : State) :
    Acts s (s.takeReturnEnd b f p) := by
  unfold State.takeReturnEnd
  split
  · exact (updRet_acts _ s).trans (doneTest_acts b _)
  · exact Acts.refl s

theorem returnAccepted_acts (b : Bool) (n : Nat) (s : State) : Acts s (s.returnAccepted b n) := by
  unfold State.returnAccepted
  split
  · exact (updRet_acts _ s).trans (doneTest_acts b _)
  · exact Acts.refl s

/-! ### The rings as the link leaves UP -/

/-- A ring at the moment the link leaves UP keeps its indices, and its record is taken no more (R108). -/
theorem outLeaveUp_laws (o : OutRing) :
    (o.headFits → o.leaveUp.headFits) ∧ (o.indexed → o.leaveUp.indexed) := by
  obtain ⟨state, cause, kind, count, base, pw, cw, seen, written, consumer, head, toggle, sync, sends, sent⟩ := o
  cases state <;> cases kind <;> cases head <;> exact ⟨by simp [OutRing.leaveUp, OutRing.headFits], id⟩

theorem ringsLeaveUp_acts (s : State) : Acts s s.ringsLeaveUp := by
  refine updRings_law_acts (fun h q => ?_) (fun h q => ?_) (fun h q => ?_)
  · simpa [InRing.leaveUp, InRing.occupied] using h q
  · simpa using (outLeaveUp_laws _).1 (h q)
  · simpa using (outLeaveUp_laws _).2 (h q)

/-! ### Placing parcels -/

theorem place_acts (b : ParcelBody) (s : State) : Acts s (s.place b) := updSched_acts le_rfl

theorem putJob_acts (j : Job) (s : State) : Acts s (s.putJob j) := updSched_acts (le_of_eq (List.length_map _))

theorem cutPiece_acts {j : Job} {l : Nat} {k : LineKind} {ps : List (Fin 6)} {q : Fin 6} {of b : Nat} {s : State}
    {x : State × Nat} (h : s.cutPiece j l k ps q of b = some x) : Acts s x.1 := by
  unfold State.cutPiece at h
  split at h
  · cases h
  · cases h
    exact (place_acts _ s).trans (putJob_acts _ _)

theorem nextVideo_acts {b : Nat} {s : State} {x : State × Nat} (h : s.nextVideo b = some x) : Acts s x.1 := by
  unfold State.nextVideo at h
  split at h
  · cases h
  · split at h
    · exact cutPiece_acts h
    all_goals
      split at h
      · cases h
      · cases h
        exact (place_acts _ s).trans (putJob_acts _ _)

theorem serveVideo_acts (n b : Nat) (s : State) : Acts s (serveVideo n b s).1 := by
  induction n generalizing b s with
  | zero => exact Acts.refl s
  | succ n ih =>
    unfold serveVideo
    split
    · exact Acts.refl s
    · next h => exact (nextVideo_acts h).trans (ih _ _)

/-- The head record of a placed parcel fits its ring's kind, and is taken as before (R95, R100). -/
theorem serveRing_acts (r : Fin 4) (c b : Nat) (s : State) : Acts s (s.serveRing r c b).1 := by
  unfold State.serveRing
  dsimp only
  split
  case h_1 sr hsr =>
    have htaken : (s.rings.outbound[r]).head.taken = some sr := by rw [hsr]; rfl
    split
    · exact Acts.refl s
    · split
      · exact retireNext_acts sr _ (pending_of_taken htaken)
      · split
        · exact Acts.refl s
        · dsimp only
          generalize ParcelBody.ring r sr.serial sr.tag sr.length sr.buffer _ _ = body
          refine (place_acts body s).trans ?_
          refine updOut_acts (fun _ => ?_) (fun h => ?_)
          · rw [(place_frame _ s).2.2.2.2.2.1]
            cases hk : (s.rings.outbound[r]).kind <;> simp [OutRing.headFits]
          · rw [(place_frame _ s).2.2.2.2.2.1] at h ⊢
            have hone : (s.rings.outbound[r]).head.takenCount = 1 := by rw [hsr]; rfl
            have hpos := h.1
            rw [hone] at hpos
            cases (s.rings.outbound[r]).kind <;> exact ⟨hpos, h.2⟩
  all_goals exact Acts.refl s

theorem haltSchedule_acts (s : State) : Acts s s.haltSchedule := (updSched_acts le_rfl).trans (raise_acts _ _)

theorem walkEntries_acts (c : Nat) (l : List ServiceEntry) (b : Nat) (s : State) :
    Acts s (walkEntries c l b s).1 := by
  induction l generalizing b s with
  | nil => exact Acts.refl s
  | cons e l ih =>
    unfold walkEntries
    split
    · exact ih b s
    · split
      · exact (serveVideo_acts _ b s).trans (ih _ _)
      · split
        · exact haltSchedule_acts s
        · exact ih b s
        · exact (serveRing_acts _ c b s).trans (ih _ _)

theorem issueFetch_acts (p : Parcel) (s : State) : Acts s (s.issueFetch p) :=
  foldl_acts (fun t _ => issueEgress_acts _ _ _ t) _ s

theorem buildWindow_acts (s : State) : Acts s s.buildWindow.1 := by
  unfold State.buildWindow
  dsimp only
  refine Relation.ReflTransGen.trans ?_ (foldl_acts (fun t p => issueFetch_acts p t) _ _)
  split
  · exact walkEntries_acts _ _ _ s
  · exact Acts.refl s

theorem takeHold_acts (l : List (Fin 5)) (c : Byte) (s : State) : Acts s (s.takeHold l c) := updSched_acts le_rfl

theorem schedLeaveUp_acts (s : State) : Acts s s.schedLeaveUp :=
  (sinkAll_acts s).trans ((updSched_acts le_rfl).trans (drainTest_acts _))

theorem promote_queue (n : FrameCount) (c : Scheduler) : (c.promote n).queue = c.queue := by
  unfold Scheduler.promote
  split
  · rfl
  · dsimp only
    split
    · split <;> rfl
    · split <;> rfl

/-! ### Fetches and sending -/

theorem fetchOutcome_acts (b : ParcelBody) (e : Bool) (s : State) : Acts s (s.fetchOutcome b e) := by
  unfold State.fetchOutcome
  dsimp only
  have hraise : Acts s (if e = true then s.raise .memErr else s) := by
    split
    · exact raise_acts _ s
    · exact Acts.refl s
  refine Relation.ReflTransGen.trans hraise ?_
  generalize (if e = true then s.raise .memErr else s) = t
  split
  · split
    · exact abandonJob_acts _ _
    · exact Acts.refl _
  · exact parcelFetched_acts _ _ _ _
  all_goals exact Acts.refl _

theorem payloadArrived_acts (n : Nat) (e : Bool) (d : List Byte) (s : State) : Acts s (s.payloadArrived n e d) := by
  unfold State.payloadArrived
  split
  · exact Acts.refl s
  · exact (updSched_acts le_rfl).trans (fetchOutcome_acts _ _ _)

theorem countSent_acts (b : ParcelBody) (p : Bool) (s : State) : Acts s (s.countSent b p) := by
  unfold State.countSent
  dsimp only
  have hkind : Acts s (match b with
      | .piece _ _ _ _ _ _ _ _ n _ _ => (s.count .videoPiecesSent).countBy .videoBytesSent n
      | .ring _ _ _ _ _ _ _ => s.count .ringParcelsSent
      | .absentRun _ _ _ _ _ | .frameEnd _ _ _ _ _ _ => s) := by
    split
    · exact (count_acts _ s).trans (countBy_acts _ _ _)
    · exact count_acts _ s
    all_goals exact Acts.refl s
  split
  · exact Relation.ReflTransGen.trans hkind (count_acts _ _)
  · exact hkind

theorem transmit_acts (p : Parcel) (s : State) : Acts s (s.transmit p) := by
  unfold State.transmit
  dsimp only
  refine Relation.ReflTransGen.trans
    (updSched_acts (s := s) (f := fun c => { c with window := c.window.tail }) le_rfl) ?_
  split
  · exact (emit_acts _ _).trans (countSent_acts _ _ _)
  · exact (emit_acts _ _).trans (countSent_acts _ _ _)
  · exact (Act.free _).acts.trans ((emit_acts _ _).trans ((countSent_acts _ _ _).trans (fetchOutcome_acts _ _ _)))

theorem finishParcel_acts (p : Parcel) (s : State) : Acts s (s.finishParcel p) := by
  unfold State.finishParcel
  split
  · exact Acts.refl s
  · exact jobSent_acts _ s

theorem sendNext_acts (s : State) : Acts s s.sendNext := by
  unfold State.sendNext
  split
  · exact Acts.refl s
  · next p _ _ => exact (mirroredIn_acts (transmit_acts p s)).trans (mirroredIn_acts (finishParcel_acts p _))

theorem imageArrived_acts (e : Bool) (d : List Byte) (s : State) : Acts s (s.imageArrived e d) := by
  unfold State.imageArrived
  split
  · exact finishIf_acts rfl _ _ s
  · split
    · exact finishIf_acts rfl _ _ s
    · exact (updSched_acts le_rfl).trans (finishIf_acts rfl _ _ _)

end Sys2Proof.Machine

/-!
The operations of the link unit as chains of acts.
-/

namespace Sys2Proof.Machine

/-! ### Link state changes (R122 to R131, R133) -/

/-- What keeps the kind of the pending change and the laws of the link is an act. -/
theorem updLink_law_acts {f : LinkUnit → LinkUnit} {s : State}
    (split : (f s.link).splitPending = s.link.splitPending) (keeps : s.link.Keeps (f s.link)) :
    Acts s (s.updLink f) := (Act.link (f s.link) split keeps).acts

/-- Without a pending change none of a SPLIT is pending. -/
theorem splitPending_of_none {l : LinkUnit} (h : l.change = none) : l.splitPending = false := by
  simp [LinkUnit.splitPending, h]

/-- A change that ends, with the split left as it was, keeps the laws of the link. -/
theorem keeps_of_none {l m : LinkUnit} (h : m.change = none) (hf : m.splitF = l.splitF) (hr : m.splitRt = l.splitRt)
    (counts : l.CountsInRange → m.CountsInRange) : l.Keeps m where
  change _ hc := absurd h hc
  counts := counts
  splits hs := ⟨by rw [hf, hr]; exact hs.1, fun c hc => by rw [h] at hc; cases hc⟩

/-- A count that saturates at 65535 is at most that (R122). -/
theorem saturate16_le (n : Nat) : saturate16 n ≤ 65535 := by
  unfold saturate16
  split <;> omega

/-- A move of the link state that leaves no change pending outside UP is an act (R122, R133). -/
theorem setLink_acts {st : LinkState} {s : State}
    (h : s.link.ChangeOnlyUp → s.link.change ≠ none → st = .up) : Acts s (s.setLink st) := by
  unfold State.setLink
  split
  · exact Acts.refl s
  · exact (updLink_law_acts (f := fun l => { l with state := st }) rfl ⟨h, id, id⟩).trans (raise_acts _ _)

theorem cancelChange_acts (s : State) : Acts s s.cancelChange := by
  unfold State.cancelChange
  split
  · exact Acts.refl s
  · next c hc =>
    dsimp only
    split
    · exact (Act.endSplit (s := s) { s.link with change := none } _ _ rfl (keeps_of_none rfl rfl rfl id)).acts
    · next r hr =>
      refine updLink_law_acts ?_ (keeps_of_none rfl rfl rfl id)
      simp [LinkUnit.splitPending, hc, hr]

/-- A cancelled change is pending no more (R133). -/
theorem cancelChange_change (s : State) : s.cancelChange.link.change = none := by
  unfold State.cancelChange
  split
  · next h => exact h
  · dsimp only
    split
    · unfold State.endSetSplit
      simp
    · rfl

/-- A reset of the monitor keeps the counts in range. -/
theorem monitorReset_counts {l : LinkUnit} (h : l.CountsInRange) :
    LinkUnit.CountsInRange { l with monitorFrames := 0, monitorErrors := 0 } := by
  unfold LinkUnit.CountsInRange at *
  dsimp only
  omega

/-- The end of a trial keeps the counts in range. -/
theorem noTrial_counts {l : LinkUnit} (h : l.CountsInRange) : l.noTrial.CountsInRange := by
  unfold LinkUnit.CountsInRange LinkUnit.noTrial at *
  dsimp only
  omega

/-- The start of probing keeps the counts in range. -/
theorem probing_counts {l : LinkUnit} (h : l.CountsInRange) :
    LinkUnit.CountsInRange { l.noTrial with probeFrames := 0, probeCycles := 0, lossRun := 0 } := by
  unfold LinkUnit.CountsInRange LinkUnit.noTrial at *
  dsimp only
  omega

theorem leaveUp_acts (s : State) : Acts s s.leaveUp := by
  unfold State.leaveUp
  split
  · exact (cancelChange_acts s).trans ((updLink_acts ⟨rfl, rfl, rfl, rfl⟩ monitorReset_counts).trans
      ((schedLeaveUp_acts _).trans (ringsLeaveUp_acts _)))
  · exact Acts.refl s

/-- After the link has left UP no change is pending, by the law that none is outside UP (R133). -/
theorem leaveUp_change {s : State} (h : s.leaveUp.link.ChangeOnlyUp) : s.leaveUp.link.change = none := by
  unfold State.leaveUp at h ⊢
  split
  · simp [cancelChange_change]
  · next hst =>
    rw [if_neg hst] at h
    by_contra hc
    exact hst (h hc)

theorem enterProbing_acts (s : State) : Acts s s.enterProbing :=
  (leaveUp_acts s).trans ((setLink_acts fun h hc => absurd (leaveUp_change h) hc).trans
    (updLink_acts ⟨rfl, rfl, rfl, rfl⟩ probing_counts))

theorem enterDown_acts (s : State) : Acts s s.enterDown :=
  (leaveUp_acts s).trans ((setLink_acts fun h hc => absurd (leaveUp_change h) hc).trans
    (updLink_acts ⟨rfl, rfl, rfl, rfl⟩ noTrial_counts))

theorem lose_acts (s : State) : Acts s s.lose := (count_acts _ s).trans (enterProbing_acts _)

theorem judgeTrial_acts (s : State) : Acts s s.judgeTrial := by
  unfold State.judgeTrial
  dsimp only
  split
  · exact updLink_acts ⟨rfl, rfl, rfl, rfl⟩ id
  · split
    · exact updLink_acts ⟨rfl, rfl, rfl, rfl⟩ id
    · exact (count_acts _ s).trans (updLink_acts ⟨rfl, rfl, rfl, rfl⟩ id)

theorem becomeUp_acts (s : State) : Acts s s.becomeUp := by
  refine Relation.ReflTransGen.trans (setLink_acts fun _ _ => rfl) (updLink_acts ⟨rfl, rfl, rfl, rfl⟩ fun h => ?_)
  unfold LinkUnit.CountsInRange LinkUnit.noTrial at *
  dsimp only
  split <;> omega

/-! ### The pending change (R137 to R140) -/

/-- A rate change is created in UP where no SPLIT change is pending (R137, R139). -/
theorem createRate_acts {s : State} (r : Rate) (hup : s.link.state = .up) (hsplit : s.link.splitPending = false) :
    Acts s (s.createChange (.rate r)) := by
  refine updLink_law_acts (by rw [hsplit]; rfl) ⟨fun _ _ => hup, id, fun h => ⟨h.1, fun c hc f rt he => ?_⟩⟩
  cases hc
  cases he

theorem stepDown_acts {s : State} (r : Rate) (hup : s.link.state = .up) : Acts s (s.stepDown r) := by
  unfold State.stepDown
  split
  · next hc => exact createRate_acts r hup (splitPending_of_none hc)
  · split
    · refine (Act.endSplit (s := s) { s.link with change := none } _ _ rfl
        (keeps_of_none rfl rfl rfl id)).acts.trans (createRate_acts r ?_ ?_)
      · simpa using hup
      · simpa using splitPending_of_none (l := { s.link with change := none }) rfl
    · exact Acts.refl s

theorem judgeBlock_acts {s : State} (hup : s.link.state = .up) : Acts s s.judgeBlock := by
  unfold State.judgeBlock
  dsimp only
  refine Relation.ReflTransGen.trans ?_ (updLink_acts ⟨rfl, rfl, rfl, rfl⟩ monitorReset_counts)
  split
  · split
    · exact stepDown_acts _ hup
    · exact Acts.refl s
  · exact Acts.refl s

theorem rateEffect_acts (s : State) : Acts s s.rateEffect := by
  unfold State.rateEffect
  split
  · next r d e hc =>
    split
    · refine Relation.ReflTransGen.trans ?_ ((count_acts _ _).trans (raise_acts _ _))
      refine updLink_law_acts ?_ (keeps_of_none rfl rfl rfl id)
      simp [LinkUnit.splitPending, hc, LinkUnit.enforce]
    · exact Acts.refl s
  · exact Acts.refl s

theorem splitEffect_acts (s : State) : Acts s s.splitEffect := by
  unfold State.splitEffect
  split
  · next f rt d e hc =>
    split
    · split
      · exact (raise_acts .linkChange s).trans (Act.endSplit (s := s.raise .linkChange)
          (LinkUnit.enforce { s.link with splitF := f, splitRt := rt, change := none }) _ _ rfl
          ⟨fun _ hno => absurd rfl hno, id, fun h => ⟨h.2 _ hc f rt rfl, fun _ hno => by cases hno⟩⟩).acts
      · exact (Act.endSplit (s := s) { s.link with change := none } _ _ rfl
          (keeps_of_none rfl rfl rfl id)).acts
    · exact Acts.refl s
  · exact Acts.refl s

/-- An echo marks the pending change, and is none (R138). -/
theorem takeEcho_acts (e : Option (Change × Byte)) (s : State) : Acts s (s.takeEcho e) := by
  unfold State.takeEcho
  split
  · next c n p hp =>
    split
    · refine updLink_law_acts ?_ ⟨fun h _ => h (by simp [hp]), id, fun h => ⟨h.1, fun x hx => ?_⟩⟩
      case refine_2 =>
        cases hx
        exact h.2 p hp
      simp [LinkUnit.splitPending, hp]
    · exact Acts.refl s
  · exact Acts.refl s

/-! ### Forward windows and the link frame start (R121, R124, R125, R142) -/

/-- One drop repeat less keeps the counts in range (R143). -/
theorem dropRepeat_counts {l : LinkUnit} (h : l.CountsInRange) :
    LinkUnit.CountsInRange { l with dropRepeat := l.dropRepeat - 1 } := by
  unfold LinkUnit.CountsInRange at *
  dsimp only
  omega

/-- The start of a trial keeps the counts in range (R125). -/
theorem startTrial_counts {r : Rate} {l : LinkUnit} (h : l.CountsInRange) : (l.startTrial r).CountsInRange :=
  noTrial_counts (l := l) h

/-- The next trial frame is at most 15 (R126). -/
theorem trialFrame_counts {l : LinkUnit} (h : l.CountsInRange) :
    LinkUnit.CountsInRange { l with trialFrame := min (l.trialFrame + 1) Config.lastTrialFrame } := by
  have hmin : min (l.trialFrame + 1) Config.lastTrialFrame ≤ 15 := Nat.min_le_right _ _
  unfold LinkUnit.CountsInRange at *
  dsimp only
  omega

/-- The building of a header leaves the indices of the inbound rings (R113, R114). -/
theorem headerBuilt_acts (s : State) : Acts s s.headerBuilt := by
  refine Relation.ReflTransGen.trans ?_ (updLink_acts ⟨rfl, rfl, rfl, rfl⟩ dropRepeat_counts)
  refine updRings_law_acts (fun h q => ?_) id id
  have hq : (s.rings.inbound.map fun q => { q with toSend := .none, releaseDue := false })[q] =
      { s.rings.inbound[q] with toSend := .none, releaseDue := false } := by simp
  show InRing.bounded (s.rings.inbound.map fun q => { q with toSend := .none, releaseDue := false })[q]
  rw [hq]
  exact h q

theorem upWindow_acts (s : State) : Acts s s.upWindow :=
  (buildWindow_acts s).trans ((emit_acts _ _).trans (headerBuilt_acts _))

theorem trainingWindow_acts (s : State) : Acts s s.trainingWindow :=
  (emit_acts _ s).trans (foldl_acts (fun t _ => emit_acts _ t) _ _)

theorem frameWindow_acts (s : State) : Acts s s.frameWindow := by
  unfold State.frameWindow
  cases s.link.state with
  | down => exact Acts.refl s
  | probing => exact emit_acts _ s
  | training => exact trainingWindow_acts s
  | up => exact upWindow_acts s

theorem tick_acts (s : State) : Acts s s.tick := updLink_acts ⟨rfl, rfl, rfl, rfl⟩ id

/-- A link that is not UP moves within the states but UP (R133). -/
theorem changeLink_acts (s : State) : Acts s s.changeLink := by
  unfold State.changeLink
  split
  · next hst _ =>
    exact (setLink_acts fun h hc => absurd (h hc) (by simp [hst])).trans
      (updLink_acts ⟨rfl, rfl, rfl, rfl⟩ startTrial_counts)
  · exact becomeUp_acts s
  · exact updLink_acts ⟨rfl, rfl, rfl, rfl⟩ startTrial_counts
  · exact enterProbing_acts s
  · exact updLink_acts ⟨rfl, rfl, rfl, rfl⟩ trialFrame_counts
  · split
    · exact enterProbing_acts s
    · exact Acts.refl s
  · exact Acts.refl s
  · exact Acts.refl s

theorem moveLink_acts (s : State) : Acts s s.moveLink := (changeLink_acts s).trans (updLink_acts ⟨rfl, rfl, rfl, rfl⟩ id)

theorem promoteSchedule_acts (s : State) :
    Acts s (s.updSched (Scheduler.promote s.link.count)) :=
  updSched_acts (le_of_eq (congrArg List.length (promote_queue _ _)))

theorem frameStart_acts (s : State) : Acts s s.frameStart :=
  (mirroredIn_acts (tick_acts _)).trans <| (mirroredIn_acts (rateEffect_acts _)).trans <|
    (mirroredIn_acts (splitEffect_acts _)).trans <| (mirroredIn_acts (promoteSchedule_acts _)).trans <|
    (mirroredIn_acts (moveLink_acts _)).trans <| (mirroredIn_acts (frameWindow_acts _)).trans <|
    mirroredIn_acts (updSched_acts le_rfl)

/-! ### Return windows (R124, R125, R131 to R136) -/

theorem takeTally_acts (b : Byte) (s : State) : Acts s (s.takeTally b) := by
  unfold State.takeTally
  split
  · exact Acts.refl s
  · exact (updLink_acts ⟨rfl, rfl, rfl, rfl⟩ id).trans (raise_acts _ _)

/-- The end of a probe cycle keeps the counts in range (R124). -/
theorem probeCycle_counts {l : LinkUnit} (h : l.CountsInRange) :
    LinkUnit.CountsInRange { l with probeFrames := 0, probeCycles := saturate16 (l.probeCycles + 1) } := by
  have hsat := saturate16_le (l.probeCycles + 1)
  unfold LinkUnit.CountsInRange at *
  dsimp only
  omega

theorem endProbeCycle_acts (s : State) : Acts s s.endProbeCycle := by
  unfold State.endProbeCycle
  split
  · exact updLink_acts ⟨rfl, rfl, rfl, rfl⟩ probeCycle_counts
  · exact Acts.refl s

/-- One more window of a probe cycle, which ends with the 64th (R124). -/
theorem probeMore_acts {s : State} (hst : s.link.state = .probing) :
    Acts s (s.updLink fun l => { l with probeFrames := l.probeFrames + 1 }).endProbeCycle := by
  by_cases hend : Config.probeCycleLength ≤ s.link.probeFrames + 1
  · have hcycle : (s.updLink fun l => { l with probeFrames := l.probeFrames + 1 }).endProbeCycle =
        s.updLink fun l => { l with probeFrames := 0, probeCycles := saturate16 (l.probeCycles + 1) } := by
      rw [State.endProbeCycle, if_pos ⟨hst, hend⟩]
      rfl
    rw [hcycle]
    exact updLink_acts ⟨rfl, rfl, rfl, rfl⟩ probeCycle_counts
  · have hmore : (s.updLink fun l => { l with probeFrames := l.probeFrames + 1 }).endProbeCycle =
        s.updLink fun l => { l with probeFrames := l.probeFrames + 1 } := by
      rw [State.endProbeCycle, if_neg fun h => hend h.2]
    rw [hmore]
    refine updLink_acts ⟨rfl, rfl, rfl, rfl⟩ fun h => ?_
    have hlt : s.link.probeFrames + 1 < 64 := not_le.1 hend
    unfold LinkUnit.CountsInRange at *
    dsimp only
    omega

theorem probeWindow_acts {s : State} (hst : s.link.state = .probing) :
    Acts s (mirrored (fun u => (u.updLink fun l => { l with probeFrames := l.probeFrames + 1 }).endProbeCycle) s) :=
  mirroredIn_acts (probeMore_acts hst)

/-- The tally of a header leaves the link state (R144). -/
theorem takeTally_state (b : Byte) (s : State) : (mirrored (State.takeTally b) s).link.state = s.link.state := by
  unfold mirrored mirroredIn
  simp

theorem arriveProbing_acts (h : Option (List Byte)) {s : State} (hst : s.link.state = .probing) :
    Acts s (s.arriveProbing h) := by
  unfold State.arriveProbing
  dsimp only
  split
  · exact probeWindow_acts hst
  · split
    · split
      · exact Relation.ReflTransGen.trans (updLink_acts ⟨rfl, rfl, rfl, rfl⟩ id) (mirroredIn_acts (takeTally_acts _ _))
      · exact (mirroredIn_acts (takeTally_acts _ _)).trans (probeWindow_acts ((takeTally_state _ s).trans hst))
    · exact probeWindow_acts hst

/-- Trial errors saturate (R122, R125). -/
theorem trialErrors_acts (b o : Nat) (s : State) : Acts s (s.trialErrors b o) := by
  refine updLink_acts ⟨rfl, rfl, rfl, rfl⟩ fun h => ?_
  have hbase := saturate16_le (s.link.trialBaseErrors + b)
  have hown := saturate16_le (s.link.trialOwnErrors + o)
  unfold LinkUnit.CountsInRange at *
  dsimp only
  omega

/-- Monitor errors saturate (R122, R136). -/
theorem monitorErrors_acts (n : Nat) (s : State) : Acts s (s.monitorErrors n) := by
  refine updLink_acts ⟨rfl, rfl, rfl, rfl⟩ fun h => ?_
  have hsat := saturate16_le (s.link.monitorErrors + n)
  unfold LinkUnit.CountsInRange at *
  dsimp only
  omega

theorem testLoss_acts (s : State) : Acts s s.testLoss := by
  unfold State.testLoss
  split
  · exact lose_acts s
  · exact Acts.refl s

theorem testTrial_acts (s : State) : Acts s s.testTrial := by
  unfold State.testTrial
  split
  · exact judgeTrial_acts s
  · exact Acts.refl s

theorem testBlock_acts (s : State) : Acts s s.testBlock := by
  unfold State.testBlock
  split
  · next h => exact judgeBlock_acts h.1
  · exact Acts.refl s

/-- The end of a command does not look at the link. -/
theorem finishIf_updLink (f : LinkUnit → LinkUnit) (c : Command) (e : ErrorCode) (d : List Word) (s : State) :
    (s.updLink f).finishIf c e d = (s.finishIf c e d).updLink f := by
  have hrun : (s.updLink f).isRunning c = s.isRunning c := rfl
  unfold State.finishIf
  rw [hrun]
  cases s.isRunning c with
  | false => rfl
  | true =>
    rw [if_pos rfl, if_pos rfl]
    unfold State.finish
    rw [updLink_mbox]
    cases s.mbox.running <;> rfl

/-- The judgement of a block does not look at the count of its windows (R136). -/
theorem judgeBlock_monitorFrames (n : Nat) (s : State) :
    (s.updLink fun l => { l with monitorFrames := n }).judgeBlock = s.judgeBlock := by
  have hstep (r : Rate) : (s.updLink fun l => { l with monitorFrames := n }).stepDown r =
      (s.stepDown r).updLink fun l => { l with monitorFrames := n } := by
    unfold State.stepDown
    dsimp only [updLink_link]
    cases s.link.change with
    | none => rfl
    | some c =>
      dsimp only
      cases c.change with
      | rate => rfl
      | split f rt =>
        have hend := finishIf_updLink (fun l => { l with monitorFrames := n }) .setSplit .superseded s.splitData
          (s.updLink fun l => { l with change := none })
        exact congrArg (State.createChange (.rate r)) hend
  unfold State.judgeBlock
  dsimp only [updLink_link]
  cases s.link.rate.lower with
  | none => rfl
  | some r =>
    dsimp only
    rw [hstep]
    split <;> rfl

theorem monitorArrival_acts (s : State) : Acts s s.monitorArrival := by
  unfold State.monitorArrival
  split
  case isFalse => exact Acts.refl s
  case isTrue hup =>
    unfold State.testBlock
    split
    · show Acts s (State.judgeBlock (s.updLink fun l => { l with monitorFrames := s.link.monitorFrames + 1 }))
      rw [judgeBlock_monitorFrames]
      exact judgeBlock_acts hup
    · next hblock =>
      refine updLink_acts ⟨rfl, rfl, rfl, rfl⟩ fun h => ?_
      have hlt : s.link.monitorFrames + 1 < 256 := not_le.1 fun hle => hblock ⟨hup, hle⟩
      unfold LinkUnit.CountsInRange at *
      dsimp only
      omega

/-! ### A bad window (R131, R132) -/

/-- The test of a drain looks at the count of the link alone (R73). -/
theorem drainTest_updLink {f : LinkUnit → LinkUnit} (hf : ∀ l, (f l).count = l.count) (s : State) :
    (s.updLink f).drainTest = s.drainTest.updLink f := by
  have hcount : (s.updLink f).countWord = s.countWord := by
    unfold State.countWord
    rw [updLink_link, hf]
  unfold State.drainTest
  rw [updLink_tracker, updLink_sched, hcount]
  split
  · exact finishIf_updLink f _ _ _ ((s.updTracker fun t =>
      { t with stream := Stream.closed, slots := t.slots.map fun r => { r with unfinished := 0 } }).raise .streamClosed)
  · rfl

/-- Sinking does not look at the link (R79). -/
theorem sinkAll_updLink (f : LinkUnit → LinkUnit) (s : State) : (s.updLink f).sinkAll = s.sinkAll.updLink f := by
  unfold State.sinkAll
  exact List.foldl_hom (g₁ := fun t j => t.sink j) (g₂ := fun t j => t.sink j) (l := s.sched.queue)
    (init := s.updSched fun c => { c with queue := [] }) (State.updLink f) fun _ _ => rfl

/-- The cancelling of a change does not look at the loss run (R133). -/
theorem cancelChange_lossRun (n : Nat) (s : State) :
    (s.updLink fun l => { l with lossRun := n }).cancelChange =
      s.cancelChange.updLink fun l => { l with lossRun := n } := by
  unfold State.cancelChange
  rw [updLink_link]
  cases s.link.change with
  | none => rfl
  | some c =>
    dsimp only
    cases c.change with
    | rate => rfl
    | split f rt =>
      exact finishIf_updLink (fun l => { l with lossRun := n }) .setSplit .noAgreement s.splitData
        (s.updLink fun l => { l with change := none })

/-- The leaving of UP does not look at the loss run (R133). -/
theorem leaveUp_lossRun (n : Nat) (s : State) :
    (s.updLink fun l => { l with lossRun := n }).leaveUp = s.leaveUp.updLink fun l => { l with lossRun := n } := by
  have hsched (t : State) : (t.updLink fun l => { l with lossRun := n }).schedLeaveUp =
      t.schedLeaveUp.updLink fun l => { l with lossRun := n } := by
    unfold State.schedLeaveUp
    rw [sinkAll_updLink]
    exact drainTest_updLink (f := fun l => { l with lossRun := n }) (fun _ => rfl)
      (t.sinkAll.updSched fun c => { c with window := [], hold := Vector.replicate 5 0 })
  unfold State.leaveUp
  rw [updLink_link, cancelChange_lossRun]
  dsimp only
  split
  · exact congrArg State.ringsLeaveUp (hsched (s.cancelChange.updLink fun l =>
      { l with monitorFrames := 0, monitorErrors := 0 }))
  · rfl

/-- The loss run that a loss finds is not looked at: it enters PROBING with none (R131). -/
theorem lose_lossRun (n : Nat) (s : State) : (s.updLink fun l => { l with lossRun := n }).lose = s.lose := by
  have hset (t : State) : (t.updLink fun l => { l with lossRun := n }).setLink .probing =
      (t.setLink .probing).updLink fun l => { l with lossRun := n } := by
    unfold State.setLink
    rw [updLink_link]
    dsimp only
    split <;> rfl
  have hleave := leaveUp_lossRun n (s.count .linkLosses)
  show State.enterProbing ((s.count .linkLosses).updLink fun l => { l with lossRun := n }) = _
  unfold State.lose State.enterProbing
  rw [hleave, hset]
  rfl

theorem takeFound_acts (f : Found) (s : State) : Acts s (s.takeFound f) := by
  unfold State.takeFound
  split
  · exact (count_acts _ s).trans (monitorErrors_acts _ _)
  · split
    · exact Acts.refl s
    · split
      · exact takeCmsg_acts _ _ s
      · exact takePiece_acts _ s
      · exact takeReturnEnd_acts _ _ _ s
      · exact Acts.refl s

theorem handOut_acts (h body : List Byte) (s : State) : Acts s (s.handOut h body) :=
  (mirroredIn_acts (takeTally_acts _ s)).trans <|
    (mirroredIn_acts ((countBy_acts _ _ _).trans (monitorErrors_acts _ _))).trans <|
    (foldl_acts (fun t r => mirroredIn_acts (takeAnswer_acts r _ t)) _ _).trans <|
    (mirroredIn_acts (takeHold_acts _ _ _)).trans <| (mirroredIn_acts (takeEcho_acts _ _)).trans <|
    foldl_acts (fun t f => mirroredIn_acts (takeFound_acts f t)) _ _

/-- What is noted of a change is due from every state of the same due list and mode (R162). -/
theorem noteChanges_withDue (o : List (Fin 32)) (s t : State) :
    ∃ d, noteChanges o s t = t.withDue d ∧
      ∀ w : State, w.status.due = t.status.due → w.path.mode = t.path.mode → Act w (w.withDue d) := by
  obtain ⟨d, hd⟩ := noteChanges_eq o s t
  have hdue : (noteChanges o s t).status.due = d := by rw [hd]
  refine ⟨d, hd, fun w hw hm => .due d (fun h => ?_) (fun hmode h => ?_)⟩
  · exact hdue ▸ noteChanges_due_nodup o s t (hw ▸ h)
  · rw [← hdue, noteChanges_initializing o s t (hm ▸ hmode), ← hw, h]

/-- A bad window, with what else it does to the link, and the test of its loss run: the eighth in a row loses the
link, which leaves no run (R131, R132). -/
theorem missedWindow_acts {s : State} {k : LinkUnit → LinkUnit} (hk : ∀ t : State, Acts t (t.updLink k))
    (hrun : ∀ l, k { l with lossRun := l.lossRun + 1 } = { k l with lossRun := (k l).lossRun + 1 })
    (hst : (k s.link).state = .training ∨ (k s.link).state = .up) :
    Acts s (mirroredIn linkOrder State.testLoss (mirrored (fun u => u.badWindow.updLink k) s)) := by
  have hw : Acts s ((s.count .returnHeaderErrors).updLink k) := (count_acts _ s).trans (hk _)
  have hu : s.badWindow.updLink k =
      ((s.count .returnHeaderErrors).updLink k).updLink fun l => { l with lossRun := l.lossRun + 1 } :=
    congrArg (fun l => { s.count .returnHeaderErrors with link := l }) (hrun s.link)
  obtain ⟨d, hd, hdue⟩ := noteChanges_withDue [] s (s.badWindow.updLink k)
  have hv := hw.trans (hdue ((s.count .returnHeaderErrors).updLink k) rfl rfl).acts
  have hmissed : mirrored (fun u => u.badWindow.updLink k) s =
      (((s.count .returnHeaderErrors).updLink k).withDue d).updLink fun l => { l with lossRun := l.lossRun + 1 } :=
    hd.trans (congrArg (State.withDue · d) hu)
  rw [hmissed]
  have hvst : (((s.count .returnHeaderErrors).updLink k).withDue d).link.state = .training ∨
      (((s.count .returnHeaderErrors).updLink k).withDue d).link.state = .up := hst
  refine Relation.ReflTransGen.trans hv ?_
  generalize ((s.count .returnHeaderErrors).updLink k).withDue d = v at hvst
  refine Relation.ReflTransGen.trans ?_ (noteChanges_acts _ _ _)
  unfold State.testLoss
  split
  · have hlose := lose_lossRun (v.link.lossRun + 1) v
    exact hlose ▸ lose_acts v
  · next hno =>
    refine updLink_acts ⟨rfl, rfl, rfl, rfl⟩ fun h => ?_
    have hlt : v.link.lossRun + 1 < 8 := not_le.1 fun hle => hno ⟨hvst, hle⟩
    unfold LinkUnit.CountsInRange at *
    dsimp only
    omega

/-- The end of a loss run keeps the counts in range (R131). -/
theorem noLossRun_acts (s : State) : Acts s (s.updLink fun l => { l with lossRun := 0 }) := by
  refine updLink_acts ⟨rfl, rfl, rfl, rfl⟩ fun h => ?_
  unfold LinkUnit.CountsInRange at *
  dsimp only
  omega

/-- A bad window while UP (R131, R132, R136). -/
theorem badUp_acts {s : State} (hst : s.link.state = .up) : Acts s (mirrored State.monitorArrival
    (mirroredIn linkOrder State.testLoss (mirrored (fun u => u.badWindow.monitorErrors 1) s))) := by
  refine Relation.ReflTransGen.trans ?_ (mirroredIn_acts (monitorArrival_acts _))
  exact missedWindow_acts (k := fun l => { l with monitorErrors := saturate16 (l.monitorErrors + 1) })
    (monitorErrors_acts 1) (fun _ => rfl) (.inr hst)

theorem arriveUp_acts (h : Option (List Byte)) (body : List Byte) {s : State} (hst : s.link.state = .up) :
    Acts s (s.arriveUp h body) := by
  have hgood : Acts s (mirrored (fun u => (u.count .returnWindowsGood).updLink fun l => { l with lossRun := 0 }) s) :=
    mirroredIn_acts ((count_acts _ s).trans (noLossRun_acts _))
  unfold State.arriveUp
  dsimp only
  split
  · exact badUp_acts hst
  · split
    · split
      · exact hgood.trans ((handOut_acts _ _ _).trans (mirroredIn_acts (monitorArrival_acts _)))
      · exact hgood.trans (mirroredIn_acts (lose_acts _))
    · exact badUp_acts hst

/-- A bad window while TRAINING (R125, R131, R132). -/
theorem badTraining_acts {s : State} (hst : s.link.state = .training) : Acts s (mirrored State.testTrial
    (mirroredIn linkOrder State.testLoss (mirrored (fun u => u.badWindow.trialErrors 0 1) s))) := by
  refine Relation.ReflTransGen.trans ?_ (mirroredIn_acts (testTrial_acts _))
  exact missedWindow_acts (k := fun l =>
      { l with
        trialBaseErrors := saturate16 (l.trialBaseErrors + 0), trialOwnErrors := saturate16 (l.trialOwnErrors + 1) })
    (trialErrors_acts 0 1) (fun _ => rfl) (.inl hst)

theorem arriveTraining_acts (h : Option (List Byte)) (body : List Byte) {s : State} (hst : s.link.state = .training) :
    Acts s (s.arriveTraining h body) := by
  have hgood := noLossRun_acts s
  unfold State.arriveTraining
  dsimp only
  split
  · exact badTraining_acts hst
  · split
    · split
      · exact hgood.trans ((mirroredIn_acts (takeTally_acts _ _)).trans ((mirroredIn_acts
          ((countBy_acts _ _ _).trans ((countBy_acts _ _ _).trans (trialErrors_acts _ _ _)))).trans
            (mirroredIn_acts (testTrial_acts _))))
      · exact hgood.trans (mirroredIn_acts (lose_acts _))
    · exact badTraining_acts hst

theorem arrive_acts (h : Option (List Byte)) (body : List Byte) (s : State) : Acts s (s.arrive h body) := by
  have htaken : Acts s (s.updLink fun l => { l with returnTaken := true }) := updLink_acts ⟨rfl, rfl, rfl, rfl⟩ id
  unfold State.arrive
  dsimp only
  cases hst : s.link.state with
  | down => exact Acts.refl s
  | probing => exact htaken.trans (arriveProbing_acts _ hst)
  | training => exact htaken.trans (arriveTraining_acts _ _ hst)
  | up => exact htaken.trans (arriveUp_acts _ _ hst)

end Sys2Proof.Machine

/-!
The operations of the mailbox and status units, the responses and the taps as chains of acts.
-/

namespace Sys2Proof.Machine

/-! ### Parameter slots and acknowledgement (R146, R147, R154, R164) -/

/-- What keeps the running command is an act. -/
theorem updMbox_acts {f : Mailbox → Mailbox} {s : State} (h : (f s.mbox).running = s.mbox.running) :
    Acts s (s.updMbox f) := (Act.mbox (f s.mbox) h).acts

theorem staleAll_acts (s : State) : Acts s s.staleAll := updMbox_acts rfl

theorem failLaunch_acts (c : CommandTag) (e : ErrorCode) (s : State) : Acts s (s.failLaunch c e) :=
  (staleAll_acts s).trans (issueResult_acts _ _ _ _ _)

theorem abort_acts (c : CommandTag) (s : State) : Acts s (s.abort c) := issueResult_acts _ _ _ _ s

/-- What keeps the enable set, the due list, the walk and the counters is an act. -/
theorem updStatus_acts {f : StatusUnit → StatusUnit} {s : State} (enable : (f s.status).enable = s.status.enable)
    (due : (f s.status).due = s.status.due) (snapshot : (f s.status).snapshot = s.status.snapshot)
    (counters : (f s.status).counters = s.status.counters) : Acts s (s.updStatus f) :=
  (Act.status (f s.status) enable due snapshot fun i => le_of_eq (by rw [counters])).acts

theorem paramWrite_acts (i : Fin 8) (v : Option Word) (s : State) : Acts s (s.paramWrite i v) := by
  unfold State.paramWrite
  cases v with
  | some v => exact updMbox_acts rfl
  | none => exact Relation.ReflTransGen.trans (updMbox_acts rfl) ((count_acts _ _).trans (updStatus_acts rfl rfl rfl rfl))

theorem acknowledge_acts (v : Word) (s : State) : Acts s (s.acknowledge v) := by
  unfold State.acknowledge
  dsimp only
  split
  · exact Relation.ReflTransGen.trans (updStatus_acts rfl rfl rfl rfl) (updPath_acts _ _ rfl rfl List.suffix_rfl)
  · exact updStatus_acts rfl rfl rfl rfl

/-! ### Responses (R12, R15) -/

/-- The acceptance of an own write but a snapshot's (R15). -/
theorem writeAccepted_acts {o : Owner} (h : o ≠ .snapshot) (s : State) : Acts s (s.writeAccepted o) := by
  cases o with
  | landing r k => exact landingAccepted_acts r k s
  | returnLanding b k => exact returnAccepted_acts b k s
  | resultWord raises =>
    unfold State.writeAccepted
    dsimp only
    split
    · exact raise_acts _ s
    · exact Acts.refl s
  | snapshot => exact absurd rfl h
  | recordFetch | payload | scheduleImage | doneWord | recordStatus | indexWord | resultData | status =>
    exact Acts.refl s

theorem answered_acts (f : Forwarded) (e : Bool) (d : List Byte) (s : State) : Acts s (s.answered f e d) := by
  unfold State.answered
  dsimp only
  split
  · exact Acts.refl s
  · split
    · split
      · exact (emit_acts _ s).trans (damage_acts _ _)
      · exact emit_acts _ s
    · exact emit_acts _ s

/-! ### Taps (R4, R6, R11) -/

theorem watchWrite_acts (a : Nat) (v : Word) (s : State) : Acts s (s.watchWrite a v) := by
  unfold State.watchWrite
  split
  · exact frameMark_acts a v s
  · split
    · exact producerWrite_acts _ v s
    · split
      · exact consumerWrite_acts _ v s
      · exact Acts.refl s

/-- A tap is a launch word that is whole (R4, R148), by its code, count and tag. -/
theorem runTap_acts (r : Request) {tap : Tap} (h : ∀ v, tap ≠ .control .launch (some v)) (s : State) :
    Acts s (s.runTap r tap) := by
  unfold State.runTap
  split
  · exact paramWrite_acts _ _ s
  · next v => exact absurd rfl (h v)
  · exact count_acts _ s
  · exact acknowledge_acts _ s
  · exact count_acts _ s
  · exact (capture_acts _ _ r s).trans (updPath_acts _ _ rfl rfl List.suffix_rfl)
  · exact watchWrite_acts _ _ s

/-! ### The effects of commands -/

/-- A change of the map that keeps its locked entries is an act (R20). -/
theorem updMap_acts {f : RegionMap → RegionMap} {s : State}
    (locked : ∀ i : Fin 32, (s.map.windows[i]).locked = true → (f s.map).windows[i] = s.map.windows[i]) :
    Acts s (s.updMap f) := (Act.map (f s.map) locked).acts

/-- The replacement of an entry that is not locked, or stays as it was, is an act (R20). -/
theorem setWindow_acts {i : Nat} {w : Window} {s : State}
    (h : ∀ hi : i < 32, (s.map.windows[i]).locked = true → w = s.map.windows[i]) : Acts s (s.setWindow i w) := by
  unfold State.setWindow
  split
  case isFalse => exact Acts.refl s
  case isTrue hi =>
    refine updMap_acts fun j hj => ?_
    show (s.map.windows.set (⟨i, hi⟩ : Fin 32) w)[j] = _
    rw [getElem_set_slot]
    split
    · next he => subst he; exact h hi hj
    · rfl

theorem doMakeWindow_acts {p : Params} {s : State} (h : checkMakeWindow p s = none) : Acts s (doMakeWindow p s).1 := by
  refine setWindow_acts fun hi hl => ?_
  simp only [checkMakeWindow, hi, hl, dite_true, if_true] at h
  split at h <;> cases h

theorem doClearWindow_acts {p : Params} {s : State} (h : checkClearWindow p s = none) :
    Acts s (doClearWindow p s).1 := by
  refine setWindow_acts fun hi hl => ?_
  simp [checkClearWindow, hi, hl] at h

theorem doLockWindow_acts (p : Params) (s : State) : Acts s (doLockWindow p s).1 := by
  unfold doLockWindow
  dsimp only
  split
  · exact setWindow_acts fun _ hl => by rw [← hl]
  · exact Acts.refl s

theorem walkFrom_acts (n : Nat) (s : State) : Acts s (walkFrom n s).1 := by
  have hcursor (n : Nat) : Acts s (s.updMap fun m => { m with cursor := n }) := updMap_acts fun _ _ => rfl
  unfold walkFrom
  split
  · exact hcursor _
  · exact hcursor _

/-- The bound of a ring's count (R96, R109). -/
theorem ringCount_le {n : Nat} (h : ringCountOk n = true) : n ≤ 256 := by
  have : n ∈ [2, 4, 8, 16, 32, 64, 128, 256] := by simpa [ringCountOk] using h
  simp only [List.mem_cons, List.not_mem_nil, or_false] at this
  omega

/-- A ring that BIND RING makes has a count that is allowed (R96). -/
theorem ringCountOk_of_check {p : Params} {s : State} (h : checkBindRing p s = none) :
    ringCountOk (ringParams p).count = true := by
  cases hc : ringCountOk (ringParams p).count with
  | true => rfl
  | false =>
    simp only [checkBindRing, hc, true_or, if_true] at h
    split at h
    · cases h
    · split at h <;> cases h

theorem doBindRing_acts {p : Params} {s : State} (h : checkBindRing p s = none) : Acts s (doBindRing p s).1 := by
  have hcount := ringCount_le (ringCountOk_of_check h)
  unfold doBindRing
  dsimp only
  split
  · refine Relation.ReflTransGen.trans ?_ (issueWrite_acts _ _ _ _)
    exact updOut_acts (fun _ => trivial) (fun _ => ⟨Nat.zero_le _, by simp [OutRing.pendingCount, OutRing.unbound]⟩)
  · split
    · refine Relation.ReflTransGen.trans ?_ (issueWrite_acts _ _ _ _)
      exact updIn_acts fun _ => flow_bounded ⟨hcount, by simp [InRing.occupied, InRing.unbound]⟩
    · exact Acts.refl s

theorem doBindReturn_acts (p : Params) (s : State) : Acts s (doBindReturn p s).1 :=
  (updRet_acts _ s).trans (bumpSerial_acts _)

theorem doUnbind_acts (p : Params) (s : State) : Acts s (doUnbind p s).1 := by
  unfold doUnbind
  dsimp only
  split
  · exact updOut_acts (fun _ => trivial) (fun _ => ⟨le_rfl, le_rfl⟩)
  · split
    · exact updIn_acts fun _ => ⟨Nat.zero_le _, le_rfl⟩
    · exact updRet_acts _ s

theorem failResumeRing_acts (p : Params) (s : State) : Acts s (failResumeRing p s) := by
  unfold failResumeRing
  dsimp only
  split
  · split
    · exact updOut_acts id id
    · exact Acts.refl s
  · exact Acts.refl s

theorem commandFailed_acts (c : Command) (p : Params) (s : State) : Acts s (c.failed p s) := by
  cases c with
  | resumeRing => exact failResumeRing_acts p s
  | makeWindow | clearWindow | lockWindow | readWindowFirst | readWindowNext | openStream | closeStream | bindRing
  | bindReturn | unbind | loadSchedule | setSplit | linkControl | snapshotCounters | setEvents | restart =>
    exact Acts.refl s

/-- A ring is resumed with an index that passes its test (R98, R106, R110). -/
theorem doResumeRing_acts {p : Params} {s : State} (h : checkResumeRing p s = none) :
    Acts s (doResumeRing p s).1 := by
  unfold doResumeRing
  unfold checkResumeRing at h
  dsimp only at h ⊢
  split at h
  · cases h
  · split at h
    · cases h
    · split
      · next hid =>
        rw [dif_pos hid] at h
        refine Relation.ReflTransGen.trans ?_ (tryFetch_acts _ _)
        refine updOut_acts id fun _ => ?_
        split at h
        · next hok => exact indexed_of_indexOk hok
        · cases h
      · next hid =>
        rw [dif_neg hid] at h
        split
        · next hin =>
          rw [dif_pos hin] at h
          refine updIn_acts fun hb => ?_
          split at h
          · next hok => exact flow_bounded (bounded_of_indexOk hok hb)
          · cases h
        · exact Acts.refl s

theorem doLinkControl_acts (p : Params) (s : State) : Acts s (doLinkControl p s).1 := by
  unfold doLinkControl
  dsimp only
  split
  · have henable : Acts s (s.updLink fun l => { l with enabled := true, ceiling := (linkCeiling p).getD .full }) :=
      updLink_acts ⟨rfl, rfl, rfl, rfl⟩ id
    split
    · exact henable.trans (enterProbing_acts _)
    · exact henable
  · exact Relation.ReflTransGen.trans (updLink_acts ⟨rfl, rfl, rfl, rfl⟩ id) (enterDown_acts _)
  · exact enterProbing_acts s
  · exact Acts.refl s

end Sys2Proof.Machine

/-!
The turns of the part: acts, and what is more than an act: the beginning of a command, OPEN STREAM, SET EVENTS, the end of a
snapshot walk, a restart and init completion; and a step as a chain of turns.
-/

namespace Sys2Proof.Machine

/-! ### The turns of the part -/

/-- The state in which a command of a code and tag runs (R151). -/
def State.withRunning (c : Command) (tag : BitVec 8) (s : State) : State :=
  s.updMbox fun m => { m with running := some { code := c.code, tag } }

/-- What a restart makes of the part before the first status write and the opening of the port (R19). -/
def State.restarted (s : State) : State :=
  let s := s.flushHold
  { s with
    path := s.path.restarted
    map := s.map.restarted
    tracker := Tracker.empty
    stitch := { s.stitch with entries := [] }
    sched := Scheduler.empty s.sched.nextJob s.sched.nextParcel
    rings := RingUnit.empty s.rings.nextSerial
    link := s.link.restarted s.straps.autolink
    mbox := s.mbox.restarted
    status := { StatusUnit.empty with counters := s.status.counters } }

/-- A turn of the part from `s`: an act, or more, that lets no counter fall. -/
inductive Turn (s : State) : State → Prop where
  | act {t : State} (h : Act s t) : Turn s t
  /-- A command begins whose end no block will owe (R151). -/
  | begin (c : Command) (tag : BitVec 8) (free : c.owed = false) (idle : s.mbox.running = none) :
      Turn s (s.withRunning c tag)
  /-- CLOSE STREAM begins with the drain of an OPEN stream (R38). -/
  | beginDrain (tag : BitVec 8) (idle : s.mbox.running = none) (ready : s.path.mode = .ready) :
      Turn s ((s.withRunning .closeStream tag).updTracker fun t =>
        { t with stream := { t.stream with state := .draining } })
  /-- SET SPLIT begins with its pending change (R140). -/
  | beginSplit (f rt : Nat) (tag : BitVec 8) (idle : s.mbox.running = none) (up : s.link.state = .up)
      (range : splitInRange f rt) :
      Turn s ((s.withRunning .setSplit tag).createChange (.split f rt))
  /-- SNAPSHOT COUNTERS begins with its walk (R159). -/
  | beginWalk (o : SnapshotOption) (tag : BitVec 8) (idle : s.mbox.running = none) :
      Turn s ((s.withRunning .snapshotCounters tag).updStatus fun u =>
        { u with snapshot := some { option := o, next := 0, left := 0 } })
  /-- A stream opens (R37). -/
  | openStream (stream : Stream) (isOpen : stream.state = .openState) (closed : s.tracker.stream.state = .closed)
      (ready : s.path.mode = .ready) :
      Turn s ((s.updTracker fun _ => { Tracker.empty with stream }).updStitch fun u => { u with entries := [] })
  /-- SET EVENTS takes effect (R160). -/
  | setEvents (enable : BitVec 10) (ready : s.path.mode = .ready) :
      Turn s (s.updStatus fun u => { u with enable })
  /-- A snapshot write is accepted (R171). -/
  | snapshotAccepted : Turn s s.snapshotAccepted
  /-- A restart (R19), with the command state that a RESTART launch leaves (R155). -/
  | restart (m : Mailbox) : Turn s (State.restarted { s with mbox := m })
  /-- Init completion (R17). -/
  | initDone : Turn s s.initDone

/-- A chain of turns. -/
abbrev Turns : State → State → Prop := Relation.ReflTransGen Turn

theorem Turns.refl (s : State) : Turns s s := Relation.ReflTransGen.refl

theorem Acts.turns {s t : State} (h : Acts s t) : Turns s t := Relation.ReflTransGen.mono (fun _ _ => Turn.act) _ _ h

theorem Turn.turns {s t : State} (h : Turn s t) : Turns s t := Relation.ReflTransGen.single h

/-- A chain of turns and steps of the snapshot walk. -/
abbrev Moves : State → State → Prop := Relation.ReflTransGen fun s t => Turn s t ∨ t = s.snapshotStep

theorem Turns.moves {s t : State} (h : Turns s t) : Moves s t :=
  Relation.ReflTransGen.mono (fun _ _ => Or.inl) _ _ h

theorem Acts.moves {s t : State} (h : Acts s t) : Moves s t := Turns.moves (Acts.turns h)

theorem snapshotStep_moves (s : State) : Moves s s.snapshotStep := Relation.ReflTransGen.single (.inr rfl)

/-- A law that every change and every step of the walk keeps is kept by a chain of them. -/
theorem Moves.keeps {P : State → Prop} (h : ∀ s t, Turn s t → P s → P t) (hw : ∀ s, P s → P s.snapshotStep)
    {s t : State} (hst : Moves s t) (hs : P s) : P t := by
  induction hst with
  | refl => exact hs
  | tail _ hmove ih =>
    obtain hchange | rfl := hmove
    · exact h _ _ hchange ih
    · exact hw _ ih

/-! ### Restart, and the responses that are turns -/

/-- A restart is the restarted blocks, the write of word 0 and the opening of the port (R19, R162). -/
theorem takeRestart_eq (s : State) : s.takeRestart = (s.restarted.issueStatus 0).takeWaiting := rfl

theorem takeRestart_turns (m : Mailbox) (s : State) : Turns s (State.takeRestart { s with mbox := m }) := by
  rw [takeRestart_eq]
  exact (Turn.restart m).turns.trans (Acts.turns ((issueStatus_acts _ _).trans (takeWaiting_acts _)))

theorem pinRestart_turns (s : State) : Turns s s.pinRestart := by
  unfold State.pinRestart
  split
  · split
    · exact takeRestart_turns s.mbox s
    · exact (Acts.turns (abort_acts _ s)).trans (takeRestart_turns _ _)
  · exact takeRestart_turns s.mbox s

theorem launchRestart_turns (tag : BitVec 8) (s : State) : Turns s (s.launchRestart tag) := by
  unfold State.launchRestart
  dsimp only
  split
  · next r _ =>
    refine (Acts.turns ((abort_acts r s).trans
      (issueResult_acts .running { code := Command.restart.code, tag } .noError false _))).trans ?_
    exact takeRestart_turns _ _
  · refine (Acts.turns (issueResult_acts .running { code := Command.restart.code, tag } .noError false s)).trans ?_
    exact takeRestart_turns _ _

theorem writeAccepted_turns (o : Owner) (s : State) : Turns s (s.writeAccepted o) := by
  by_cases h : o = .snapshot
  · subst h
    exact Turn.turns .snapshotAccepted
  · exact Acts.turns (writeAccepted_acts h s)

theorem ownAnswered_turns (q : OwnRequest) (e : Bool) (s : State) : Turns s (s.ownAnswered q e) := by
  unfold State.ownAnswered
  split
  · split
    · exact (Acts.turns (raise_acts _ s)).trans (writeAccepted_turns _ _)
    · exact writeAccepted_turns _ s
  · exact Turns.refl s

end Sys2Proof.Machine

/-!
A launch, and every command of the queue, as a chain of turns.
-/

namespace Sys2Proof.Machine

/-! ### An accepted command -/

/-- OPEN STREAM is accepted of a CLOSED stream alone (R36). -/
theorem closed_of_checkOpenStream {p : Params} {s : State} (h : checkOpenStream p s = none) :
    s.tracker.stream.state = .closed := by
  unfold checkOpenStream at h
  dsimp only at h
  split at h
  · cases h
  · next hc => exact Classical.not_not.1 hc

/-- The effect of a command that no block owes the end of, and what it leaves of the running command. -/
theorem effect_turns {c : Command} {p : Params} {s : State} (free : c.owed = false) (check : c.check p s = none)
    (ready : s.path.mode = .ready) :
    Turns s (c.effect p s).1 ∧
      ((c.effect p s).1.mbox.running = s.mbox.running ∨ (c.effect p s).1.mbox.running = none) := by
  have hacts {t : State} (h : Acts s t) : Turns s t ∧ (t.mbox.running = s.mbox.running ∨ t.mbox.running = none) :=
    ⟨h.turns, h.running⟩
  cases c with
  | makeWindow => exact hacts (doMakeWindow_acts check)
  | clearWindow => exact hacts (doClearWindow_acts check)
  | lockWindow => exact hacts (doLockWindow_acts p s)
  | readWindowFirst => exact hacts (walkFrom_acts 0 s)
  | readWindowNext => exact hacts (walkFrom_acts _ s)
  | openStream => exact ⟨(Turn.openStream _ rfl (closed_of_checkOpenStream check) ready).turns, .inl rfl⟩
  | bindRing => exact hacts (doBindRing_acts check)
  | bindReturn => exact hacts (doBindReturn_acts p s)
  | unbind => exact hacts (doUnbind_acts p s)
  | resumeRing => exact hacts (doResumeRing_acts check)
  | loadSchedule => exact hacts (issueRead_acts _ _ _ s)
  | linkControl => exact hacts (doLinkControl_acts p s)
  | setEvents => exact ⟨(Turn.setEvents _ ready).turns, .inl rfl⟩
  | restart => exact hacts (Acts.refl s)
  | closeStream | setSplit | snapshotCounters => cases free

/-- The running command that no block owes the end of ends by itself (R152). -/
theorem finish_acts {c : Command} {tag : BitVec 8} {s : State} (free : c.owed = false)
    (h : s.mbox.running = some { code := c.code, tag } ∨ s.mbox.running = none) (e : ErrorCode) (d : List Word) :
    Acts s (s.finish e d) := by
  cases h with
  | inl h =>
    have hrun : s.isRunning c = true := (isRunning_iff s c).2 ⟨_, h, rfl⟩
    have hend : s.finish e d = s.finishIf c e d := by rw [State.finishIf, hrun, if_pos rfl]
    rw [hend]
    exact finishIf_acts free e d s
  | inr h =>
    rw [State.finish, h]

/-- The begun state is the running command, with its slots taken and RUNNING written (R151). -/
theorem begun_turns {c : Command} (tag : BitVec 8) {s : State} (free : c.owed = false) (idle : s.mbox.running = none) :
    Turns s (s.begun c tag) :=
  (Acts.turns (staleAll_acts s)).trans ((Turn.begin (s := s.staleAll) c tag free idle).turns.trans
    (Acts.turns (issueResult_acts .running { code := c.code, tag } .noError false _)))

/-- An accepted command that no block owes the end of. -/
theorem accept_free_turns {c : Command} {s : State} (tag : BitVec 8) (free : c.owed = false)
    (idle : s.mbox.running = none) (ready : s.path.mode = .ready) (check : c.check s.mbox.params s = none) :
    Turns s (s.accept c tag) := by
  have hcheck : c.check s.mbox.params (s.begun c tag) = none := by cases c <;> exact check
  obtain ⟨heffect, hrun⟩ := effect_turns (p := s.mbox.params) (s := s.begun c tag) free hcheck ready
  have hbegun := (begun_turns tag free idle).trans heffect
  rw [accept_eq]
  split
  · next u d hu =>
    rw [hu] at hbegun hrun
    exact hbegun.trans (Acts.turns (finish_acts (tag := tag) free hrun _ _))
  · next u hu =>
    rw [hu] at hbegun
    exact hbegun

/-- The slots taken and RUNNING written (R151). -/
def State.announced (c : Command) (tag : BitVec 8) (s : State) : State :=
  s.staleAll.issueResult .running { code := c.code, tag } .noError false

theorem announced_acts (c : Command) (tag : BitVec 8) (s : State) : Acts s (s.announced c tag) :=
  (staleAll_acts s).trans (issueResult_acts _ _ _ _ _)

theorem accept_closeStream_turns {s : State} (tag : BitVec 8) (idle : s.mbox.running = none)
    (ready : s.path.mode = .ready) : Turns s (s.accept .closeStream tag) :=
  (Acts.turns (announced_acts .closeStream tag s)).trans
    ((Turn.beginDrain (s := s.announced .closeStream tag) tag idle ready).turns.trans (Acts.turns (drainTest_acts _)))

/-- SET SPLIT is accepted of a split in range alone (R140). -/
theorem splitInRange_of_checkSetSplit {p : Params} {s : State} (h : checkSetSplit p s = none) :
    splitInRange (splitParams p).1 (splitParams p).2 := by
  unfold checkSetSplit at h
  dsimp only at h
  split at h
  · cases h
  · unfold splitInRange
    omega

/-- SET SPLIT stores its split at once while the link is not UP (R140). -/
theorem accept_setSplit_acts {s : State} (tag : BitVec 8) (idle : s.mbox.running = none) (hup : s.link.state ≠ .up)
    (range : splitInRange (splitParams s.mbox.params).1 (splitParams s.mbox.params).2) :
    Acts s (s.accept .setSplit tag) := by
  have hstore : doSetSplit s.mbox.params (s.begun .setSplit tag) =
      ((s.begun .setSplit tag).updLink fun l =>
        { l with splitF := (splitParams s.mbox.params).1, splitRt := (splitParams s.mbox.params).2 },
      some ((s.begun .setSplit tag).updLink fun l =>
        { l with splitF := (splitParams s.mbox.params).1, splitRt := (splitParams s.mbox.params).2 }).splitData) := by
    unfold doSetSplit
    exact if_neg hup
  rw [accept_completes (c := .setSplit) (s := s) hstore rfl rfl]
  have hlink : Acts s (s.updLink fun l =>
      { l with splitF := (splitParams s.mbox.params).1, splitRt := (splitParams s.mbox.params).2 }) :=
    updLink_law_acts rfl ⟨id, id, fun h => ⟨range, h.2⟩⟩
  have hmbox (t : State) (ht : t.mbox.running = none) : Acts t (t.updMbox fun m => m.staled none) :=
    updMbox_acts ht.symm
  have hother (t : State) (l : List OwnRequest) : Acts t (t.updPath fun p => { p with other := p.other ++ l }) :=
    updPath_acts _ t rfl rfl List.suffix_rfl
  have hstored := hlink.trans (hmbox _ idle)
  have hbegun := hstored.trans (hother _ [runningWrite s .setSplit tag])
  exact hbegun.trans (hother _ _)

theorem accept_setSplit_turns {s : State} (tag : BitVec 8) (idle : s.mbox.running = none)
    (check : checkSetSplit s.mbox.params s = none) : Turns s (s.accept .setSplit tag) := by
  have range := splitInRange_of_checkSetSplit check
  by_cases hup : s.link.state = .up
  · have hcreate : s.accept .setSplit tag = ((s.announced .setSplit tag).withRunning .setSplit tag).createChange
        (.split (splitParams s.mbox.params).1 (splitParams s.mbox.params).2) := by
      have hchange : doSetSplit s.mbox.params (s.begun .setSplit tag) =
          ((s.begun .setSplit tag).createChange
            (.split (splitParams s.mbox.params).1 (splitParams s.mbox.params).2), none) := by
        unfold doSetSplit
        exact if_pos hup
      rw [accept_eq]
      simp only [Command.effect, hchange]
      rfl
    rw [hcreate]
    exact (Acts.turns (announced_acts .setSplit tag s)).trans
      (Turn.beginSplit (s := s.announced .setSplit tag) _ _ tag idle hup range).turns
  · exact Acts.turns (accept_setSplit_acts tag idle hup range)

/-- A walk begins with its first step (R159, R171). -/
theorem accept_snapshot {s : State} (tag : BitVec 8) (idle : s.mbox.running = none) :
    ∃ u, Turns s u ∧ Acts u.snapshotStep (s.accept .snapshotCounters tag) :=
  ⟨_, (Acts.turns (announced_acts .snapshotCounters tag s)).trans
    (Turn.beginWalk (s := s.announced .snapshotCounters tag) ((snapshotOption s.mbox.params).getD .keep) tag
      idle).turns,
    updMbox_acts (f := fun m => { m with staging := m.staging.set 0 (s.begun .snapshotCounters tag).countWord }) rfl⟩

/-! ### A launch -/

/-- A chain of turns, or the beginning of a walk with its first step. -/
def Launches (s t : State) : Prop := Turns s t ∨ ∃ u, Turns s u ∧ Acts u.snapshotStep t

theorem Launches.moves {s t : State} (h : Launches s t) : Moves s t := by
  obtain h | ⟨u, hu, ht⟩ := h
  · exact h.moves
  · exact hu.moves.trans ((snapshotStep_moves u).trans ht.moves)

theorem accept_launches {c : Command} {s : State} (tag : BitVec 8) (idle : s.mbox.running = none)
    (ready : s.path.mode = .ready) (check : c.check s.mbox.params s = none) : Launches s (s.accept c tag) := by
  cases c with
  | closeStream => exact .inl (accept_closeStream_turns tag idle ready)
  | setSplit => exact .inl (accept_setSplit_turns tag idle check)
  | snapshotCounters => exact .inr (accept_snapshot tag idle)
  | makeWindow | clearWindow | lockWindow | readWindowFirst | readWindowNext | openStream | bindRing | bindReturn
  | unbind | resumeRing | loadSchedule | linkControl | setEvents | restart =>
    exact .inl (accept_free_turns tag rfl idle ready check)

theorem judge_launches {s : State} (idle : s.mbox.running = none) (ready : s.path.mode = .ready) (code : BitVec 8)
    (count : BitVec 4) (tag : BitVec 8) : Launches s (s.judge code count tag) := by
  unfold State.judge
  dsimp only
  split
  · exact .inl (Acts.turns (failLaunch_acts _ _ s))
  · split
    · exact .inl (Acts.turns (failLaunch_acts _ _ s))
    · split
      · exact .inl (Acts.turns (failLaunch_acts _ _ s))
      · split
        · exact .inl (Acts.turns ((commandFailed_acts _ _ s).trans (failLaunch_acts _ _ _)))
        · next cmd _ _ _ _ hcheck =>
          split
          · exact .inl ((Acts.turns (staleAll_acts s)).trans (launchRestart_turns tag _))
          all_goals exact accept_launches tag idle ready hcheck

theorem launch_launches (code : BitVec 8) (count : BitVec 4) (tag : BitVec 8) (s : State) :
    Launches s (s.launch code count tag) := by
  unfold State.launch
  split
  · exact .inl (Turns.refl s)
  · next hmode =>
    have ready : s.path.mode = .ready := by
      cases hm : s.path.mode with
      | ready => rfl
      | initializing => exact absurd (.inl hm) hmode
    split
    · split
      · exact .inl (launchRestart_turns tag s)
      · exact .inl (Acts.turns (updStatus_acts rfl rfl rfl rfl))
    · next idle => exact judge_launches idle ready code count tag

end Sys2Proof.Machine

/-!
Every command of the queue but power-on reset as a chain of moves; all but FORWARDING with more than one launch
among its taps step the snapshot walk at most once.
-/

namespace Sys2Proof.Machine

/-! ### Chains around a launch -/

theorem Launches.of_acts {s t : State} (h : Acts s t) : Launches s t := .inl h.turns

theorem Launches.of_turns {s t : State} (h : Turns s t) : Launches s t := .inl h

theorem Launches.after {s t u : State} (h : Acts s t) (k : Launches t u) : Launches s u := by
  obtain k | ⟨v, hv, hu⟩ := k
  · exact .inl (h.turns.trans k)
  · exact .inr ⟨v, h.turns.trans hv, hu⟩

theorem Launches.then {s t u : State} (h : Launches s t) (k : Acts t u) : Launches s u := by
  obtain h | ⟨v, hv, ht⟩ := h
  · exact .inl (h.trans k.turns)
  · exact .inr ⟨v, hv, ht.trans k⟩

/-- One change of the part launches what its operation does (R162). -/
theorem mirroredIn_launches {o : WordOrder} {f : State → State} {s : State} (h : Launches s (f s)) :
    Launches s (mirroredIn o f s) := h.then (noteChanges_acts _ s (f s))

/-- The outcome of one change launches what its operation does. -/
theorem changeIn_launches {o : WordOrder} {f : State → State} {s t : State} (h : Launches s (f s))
    (ht : changeIn o f s = .next t) : Launches s t := by
  cases ht
  exact mirroredIn_launches h

theorem changeIn_acts {o : WordOrder} {f : State → State} {s t : State} (h : Acts s (f s))
    (ht : changeIn o f s = .next t) : Launches s t := changeIn_launches (.of_acts h) ht

theorem next_launches {s t : State} (h : (Host.Outcome.next s : Result) = .next t) : Launches s t := by
  cases h
  exact .inl (Turns.refl s)

/-! ### The tap set (R11) -/

/-- A tap that is no launch is a chain of acts. -/
theorem runTap_acts_of_noLaunch (r : Request) {tap : Tap} (h : tap.isLaunch = false) (s : State) :
    Acts s (s.runTap r tap) := runTap_acts r (fun v hv => by simp [hv, Tap.isLaunch] at h) s

theorem runTap_launches (r : Request) (tap : Tap) (s : State) : Launches s (s.runTap r tap) := by
  cases h : tap.isLaunch with
  | false => exact .of_acts (runTap_acts_of_noLaunch r h s)
  | true =>
    unfold Tap.isLaunch at h
    split at h
    · exact launch_launches _ _ _ s
    all_goals cases h

/-- The first entry of a tap set, and the others unless it was a restart (R11, R155). -/
theorem runTaps_cons (r : Request) (tap : Tap) (rest : List Tap) (s : State) :
    runTaps r (tap :: rest) s = mirroredIn (tapOrder tap) (State.runTap r tap) s ∨
      runTaps r (tap :: rest) s = runTaps r rest (mirroredIn (tapOrder tap) (State.runTap r tap) s) := by
  rw [runTaps]
  split
  · exact .inl rfl
  · exact .inr rfl

theorem runTaps_moves (r : Request) (taps : List Tap) (s : State) : Moves s (runTaps r taps s) := by
  induction taps generalizing s with
  | nil => exact (Turns.refl s).moves
  | cons tap rest ih =>
    have hone := (mirroredIn_launches (o := tapOrder tap) (runTap_launches r tap s)).moves
    obtain h | h := runTaps_cons r tap rest s
    · rw [h]; exact hone
    · rw [h]; exact hone.trans (ih _)

theorem runTaps_acts (r : Request) {taps : List Tap} (h : taps.filter Tap.isLaunch = []) (s : State) :
    Acts s (runTaps r taps s) := by
  induction taps generalizing s with
  | nil => exact Acts.refl s
  | cons tap rest ih =>
    obtain ⟨htap, hrest⟩ : tap.isLaunch = false ∧ rest.filter Tap.isLaunch = [] := by
      simpa [List.filter_eq_nil_iff] using h
    have hone := mirroredIn_acts (o := tapOrder tap) (runTap_acts_of_noLaunch r htap s)
    obtain hcons | hcons := runTaps_cons r tap rest s
    · rw [hcons]; exact hone
    · rw [hcons]; exact hone.trans (ih hrest _)

/-- A tap set with at most one launch. -/
theorem runTaps_launches (r : Request) {taps : List Tap} (h : (taps.filter Tap.isLaunch).length ≤ 1) (s : State) :
    Launches s (runTaps r taps s) := by
  induction taps generalizing s with
  | nil => exact .inl (Turns.refl s)
  | cons tap rest ih =>
    cases htap : tap.isLaunch with
    | false =>
      have hone := mirroredIn_acts (o := tapOrder tap) (runTap_acts_of_noLaunch r htap s)
      obtain hcons | hcons := runTaps_cons r tap rest s
      · rw [hcons]; exact .of_acts hone
      · rw [hcons]; exact .after hone (ih (by simpa [htap] using h) _)
    | true =>
      have hone := mirroredIn_launches (o := tapOrder tap) (runTap_launches r tap s)
      obtain hcons | hcons := runTaps_cons r tap rest s
      · rw [hcons]; exact hone
      · rw [hcons]; exact hone.then (runTaps_acts r (by simpa [htap] using h) _)

/-- The request that is forwarded, and its tap set (R11). -/
theorem forwardHead_acts_then {s : State} {x : Passing} {rest : List Passing} (h : s.path.pass = x :: rest) :
    ∃ u, Acts s u ∧ s.forwardHead = (runTaps x.request x.taps u).takeWaiting := by
  refine ⟨(s.updPath fun p =>
      { p with
        pass := rest, lastSide := .pass
        forwarded := p.forwarded ++ [{ request := x.request, applied := none, discard := false }] }).emit
      (.forward x.request), (updPath_acts _ s rfl rfl ?_).trans (emit_acts _ _), ?_⟩
  · exact ⟨[x], h.symm⟩
  · rw [State.forwardHead, h]

theorem forwardHead_moves (s : State) : Moves s s.forwardHead := by
  cases h : s.path.pass with
  | nil => rw [State.forwardHead, h]
  | cons x rest =>
    obtain ⟨u, hu, hgo⟩ := forwardHead_acts_then h
    rw [hgo]
    exact hu.moves.trans ((runTaps_moves _ _ u).trans (takeWaiting_acts _).moves)

theorem forwardHead_launches {s : State}
    (hone : ∀ x rest, s.path.pass = x :: rest → (x.taps.filter Tap.isLaunch).length ≤ 1) :
    Launches s s.forwardHead := by
  cases h : s.path.pass with
  | nil =>
    rw [State.forwardHead, h]
    exact .inl (Turns.refl s)
  | cons x rest =>
    obtain ⟨u, hu, hgo⟩ := forwardHead_acts_then h
    rw [hgo]
    exact .after hu ((runTaps_launches _ (hone x rest h) u).then (takeWaiting_acts _))

/-! ### The rows -/

/-- The own requests that are out move: an act. -/
theorem setOwnOut_acts (l : List OwnRequest) (s : State) : Acts s (s.updPath fun p => { p with ownOut := l }) :=
  updPath_acts _ s rfl rfl List.suffix_rfl

theorem recordFetchResponse_acts (q : OwnRequest) (rest : List OwnRequest) (e : Bool) (d : List Byte) (s : State) :
    Acts s
      (match q.owner with
        | .recordFetch r k =>
          if q.live then (s.updPath fun p => { p with ownOut := rest }).recordFetched r k e d
          else s.updPath fun p => { p with ownOut := rest }
        | _ => s.updPath fun p => { p with ownOut := rest }) := by
  split
  · split
    · exact (setOwnOut_acts rest s).trans (recordFetched_acts _ _ _ _ _)
    · exact setOwnOut_acts rest s
  · exact setOwnOut_acts rest s

/-- The word at the head of the due list is written (R162). -/
theorem writeDue_acts {s : State} {w : Fin 32} {rest : List (Fin 32)} (h : s.status.due = w :: rest) :
    Acts s ((s.issueStatus w).updStatus fun u => { u with due := rest }) := by
  refine (issueStatus_acts w s).trans (Act.due (s := s.issueStatus w) rest (fun hd => ?_) (fun _ hd => ?_)).acts
  · rw [issueStatus_status, h] at hd
    exact (List.nodup_cons.1 hd).2
  · rw [issueStatus_status, h] at hd
    cases hd

theorem expireLine_acts {s : State} {e : LineEntry} {p : LineEntry → Bool} (h : s.stitch.entries.find? p = some e) :
    Acts s (s.putEntry e.expire) := by
  refine putEntry_acts (List.mem_of_find?_eq_some h) ?_ ?_
  all_goals unfold LineEntry.expire; split <;> rfl

/-- A row that is no launch, no reset and not FORWARDING. -/
theorem exec_plain_launches {c : Instr} (hlaunch : launchOf c = none) (hreset : mayReset c = false) {s t : State}
    (h : exec c s = .next t) : Launches s t := by
  cases c with
  | powerOnReset | restartN | forwarding => cases hreset
  | initCompletion =>
    cases h
    exact .inl Turn.initDone.turns
  | upstreamRequest r =>
    simp only [exec, execUpstreamRequest] at h
    split at h
    · refine changeIn_acts ?_ h
      exact (updPath_acts _ s rfl rfl List.suffix_rfl).trans (takeWaiting_acts _)
    · cases h
  | holdExpiry i =>
    simp only [exec, execHoldExpiry] at h
    split at h
    · exact next_launches h
    · next held ho =>
      split at h
      · refine changeIn_acts ?_ h
        exact (Act.expire i held ho).acts.trans (takeWaiting_acts _)
      · exact next_launches h
  | ownRequestGrant =>
    simp only [exec, execOwnRequestGrant] at h
    split at h
    · exact changeIn_acts (grantOwn_acts s) h
    · exact next_launches h
  | downstreamResponse place e d =>
    simp only [exec, execDownstreamResponse] at h
    split at h
    · exact next_launches h
    · refine changeIn_acts ?_ h
      exact (updPath_acts _ s rfl rfl List.suffix_rfl).trans (answered_acts _ _ _ _)
  | ownWriteAccepted place e =>
    simp only [exec, execOwnWriteAccepted] at h
    split at h
    · exact next_launches h
    · refine changeIn_launches (.of_turns ?_) h
      exact (Acts.turns (setOwnOut_acts _ s)).trans (ownAnswered_turns _ _ _)
  | captureWrite w k r =>
    simp only [exec, execCaptureWrite] at h
    split at h
    · exact changeIn_acts (capture_acts w k r s) h
    · cases h
  | stitchDeadline slot line =>
    simp only [exec, execStitchDeadline] at h
    split at h
    · exact next_launches h
    · next e he =>
      split at h
      · exact next_launches h
      · split at h
        · exact changeIn_acts (expireLine_acts he) h
        · exact next_launches h
  | frameMark a v =>
    refine changeIn_acts ?_ h
    exact (frameMark_acts a v s).trans (takeWaiting_acts _)
  | release => exact changeIn_acts (release_acts s) h
  | frameEnd => exact changeIn_acts (endFrame_acts s) h
  | linkFrameStart =>
    cases h
    exact .of_acts (frameStart_acts s)
  | rateChangeEffect => exact changeIn_acts (rateEffect_acts s) h
  | splitChangeEffect => exact changeIn_acts (splitEffect_acts s) h
  | payloadFetchComplete p e d =>
    simp only [exec, execPayloadFetchComplete] at h
    split at h
    · refine changeIn_acts ?_ h
      exact (setOwnOut_acts _ s).trans (payloadArrived_acts _ _ _ _)
    · exact next_launches h
  | parcelSent =>
    cases h
    exact .of_acts (sendNext_acts s)
  | returnWindowArrival header body =>
    cases h
    exact .of_acts (arrive_acts _ _ s)
  | probeCycle => exact changeIn_acts (endProbeCycle_acts s) h
  | trialEnd => exact changeIn_acts (testTrial_acts s) h
  | monitorBlockJudgement => exact changeIn_acts (testBlock_acts s) h
  | linkLoss => exact changeIn_acts (testLoss_acts s) h
  | ackTimeout r => exact changeIn_acts (ackTimeout_acts r s) h
  | recordFetchResponse place e d =>
    simp only [exec, execRecordFetchResponse] at h
    split at h
    · exact next_launches h
    · exact changeIn_acts (recordFetchResponse_acts _ _ e d s) h
  | producerIndexWrite r v => exact changeIn_acts (producerWrite_acts r v s) h
  | consumerIndexWrite r v => exact changeIn_acts (consumerWrite_acts r v s) h
  | parameterWordWrite i v =>
    simp only [exec, execParameterWordWrite] at h
    split at h
    · exact next_launches h
    · exact changeIn_acts (paramWrite_acts i v s) h
  | acknowledge v =>
    simp only [exec, execAcknowledge] at h
    split at h
    · exact next_launches h
    · exact changeIn_acts (acknowledge_acts v s) h
  | scheduleImageResponse place e d =>
    simp only [exec, execScheduleImageResponse] at h
    split at h
    · exact next_launches h
    · next q rest _ =>
      refine changeIn_acts ?_ h
      split
      · exact (setOwnOut_acts rest s).trans (imageArrived_acts _ _ _)
      · exact setOwnOut_acts rest s
  | snapshotStep =>
    simp only [exec, execSnapshotStep] at h
    split at h
    · exact next_launches h
    · exact changeIn_launches (.inr ⟨s, Turns.refl s, Acts.refl _⟩) h
  | statusWriteIssue =>
    simp only [exec, execStatusWriteIssue] at h
    split at h
    · exact next_launches h
    · next w rest hdue =>
      split at h
      · exact next_launches h
      · exact changeIn_acts (writeDue_acts hdue) h
  | unknownOp | makeWindow | clearWindow | lockWindow | readWindowFirst | readWindowNext | openStream | closeStream
  | bindRing | bindReturn | unbind | resumeRing | loadSchedule | setSplit | linkControlEnable | linkControlDisable
  | linkControlRetrain | snapshotCounters | setEvents | restart => cases hlaunch

/-- A row that is a launch. -/
theorem exec_launch_launches {c : Instr} {code : BitVec 8} {n : BitVec 4} {tag : BitVec 8}
    (hlaunch : launchOf c = some (code, n, tag)) {s t : State} (h : exec c s = .next t) : Launches s t := by
  obtain hnext | ⟨o, hchange⟩ := exec_launch_cases hlaunch s
  · exact next_launches (hnext ▸ h)
  · exact changeIn_launches (launch_launches code n tag s) (hchange ▸ h)

/-- FORWARDING forwards the head of the pass queue as one change, or does nothing (R11, R14). -/
theorem exec_forwarding_cases {s t : State} (h : exec .forwarding s = .next t) :
    t = s ∨ t = mirrored State.forwardHead s := by
  simp only [exec, execForwarding] at h
  split at h
  · cases h; exact .inr rfl
  · cases h; exact .inl rfl

/-- Every row but power-on reset, and FORWARDING with more than one launch. -/
theorem exec_launches {c : Instr} {s t : State} (h : exec c s = .next t) (hreset : ∀ m k a, c ≠ .powerOnReset m k a)
    (hone : ∀ x rest, c = .forwarding → s.path.pass = x :: rest → (x.taps.filter Tap.isLaunch).length ≤ 1) :
    Launches s t := by
  cases hlaunch : launchOf c with
  | some l => exact exec_launch_launches hlaunch h
  | none =>
    cases hmay : mayReset c with
    | false => exact exec_plain_launches hlaunch hmay h
    | true =>
      cases c with
      | powerOnReset m k a => exact absurd rfl (hreset m k a)
      | restartN => exact changeIn_launches (.of_turns (pinRestart_turns s)) h
      | forwarding =>
        obtain rfl | rfl := exec_forwarding_cases h
        · exact .inl (Turns.refl _)
        · exact mirroredIn_launches (forwardHead_launches fun x rest => hone x rest rfl)
      | restart => cases hlaunch
      | _ => cases hmay

/-- Every row but power-on reset is a chain of moves. -/
theorem exec_moves {c : Instr} {s t : State} (h : exec c s = .next t) (hreset : ∀ m k a, c ≠ .powerOnReset m k a) :
    Moves s t := by
  by_cases hc : c = .forwarding
  · subst hc
    obtain rfl | rfl := exec_forwarding_cases h
    · exact (Turns.refl _).moves
    · exact (forwardHead_moves s).trans (noteChanges_acts _ _ _).moves
  · exact (exec_launches h hreset fun _ _ he => absurd he hc).moves

end Sys2Proof.Machine

/-!
The laws of the part, turn by turn.
-/

namespace Sys2Proof.Machine

/-! ### The emptying of the hold queue at a restart (R19 step 1) -/

theorem flushOne_grows (h : Held) (s : State) : Grows s (s.flushOne h) := by
  unfold State.flushOne
  split
  · exact block_grows _ _ s
  · exact count_grows .holdExpiries (s.joinPass h.request [])

theorem flushOne_pass_length (h : Held) (s : State) :
    (s.flushOne h).path.pass.length ≤ s.path.pass.length + 1 := by
  unfold State.flushOne
  split
  · simp
  · simp [joinPass_pass]

theorem foldl_flushOne_grows (l : List Held) (s : State) : Grows s (l.foldl (fun t h => t.flushOne h) s) := by
  induction l generalizing s with
  | nil => exact Grows.refl s
  | cons h l ih => exact (flushOne_grows h s).trans (ih _)

theorem foldl_flushOne_pass_length (l : List Held) (s : State) :
    (l.foldl (fun t h => t.flushOne h) s).path.pass.length ≤ s.path.pass.length + l.length := by
  induction l generalizing s with
  | nil => exact le_rfl
  | cons h l ih =>
    have h1 := flushOne_pass_length h s
    have h2 := ih (s.flushOne h)
    simp only [List.foldl_cons, List.length_cons] at *
    omega

theorem flushHold_grows (s : State) : Grows s s.flushHold :=
  foldl_flushOne_grows _ (s.updPath fun p => { p with hold := [] })

theorem flushHold_hold (s : State) : s.flushHold.path.hold = [] := by
  unfold State.flushHold
  simp

theorem flushHold_pass_length (s : State) :
    s.flushHold.path.pass.length ≤ s.path.pass.length + s.path.hold.length :=
  foldl_flushOne_pass_length s.path.hold (s.updPath fun p => { p with hold := [] })

/-- A restart leaves nothing held, nothing tapped and no more passing than waited (R19). -/
theorem restarted_queues (s : State) :
    s.restarted.path.hold = [] ∧ (∀ x ∈ s.restarted.path.pass, x.taps = []) ∧
      s.restarted.path.pass.length ≤ s.path.pass.length + s.path.hold.length := by
  refine ⟨flushHold_hold s, fun x hx => ?_, ?_⟩
  · obtain ⟨y, -, rfl⟩ := List.mem_map.1 hx
    rfl
  · exact (List.length_map _).trans_le (flushHold_pass_length s)

/-! ### What grows and what stays outside (log entry 7) -/

theorem Turn.outside {s t : State} (h : Turn s t) : t.pending = s.pending ∧ t.straps = s.straps ∧ Grows s t := by
  cases h with
  | act h => exact h.outside
  | begin | beginDrain | beginSplit | beginWalk | openStream | setEvents => exact ⟨rfl, rfl, grows_of_eq rfl rfl⟩
  | snapshotAccepted | initDone => exact ⟨by simp, by simp, grows_of_eq (by simp) (by simp)⟩
  | restart m =>
    exact ⟨by simp [State.restarted], by simp [State.restarted], flushHold_grows { s with mbox := m }⟩

theorem Turns.outside {s t : State} (h : Turns s t) : t.pending = s.pending ∧ t.straps = s.straps ∧ Grows s t := by
  induction h with
  | refl => exact ⟨rfl, rfl, Grows.refl s⟩
  | tail _ hturn ih =>
    obtain ⟨hp, hs, hg⟩ := ih
    obtain ⟨kp, ks, kg⟩ := hturn.outside
    exact ⟨kp.trans hp, ks.trans hs, hg.trans kg⟩

/-! ### The due list and the map -/

theorem Turn.dueDistinct {s t : State} (h : Turn s t) (hs : s.DueDistinct) : t.DueDistinct := by
  cases h with
  | act h => exact h.dueDistinct hs
  | begin | beginDrain | beginSplit | beginWalk | openStream | setEvents => exact hs
  | snapshotAccepted => simpa [State.DueDistinct] using hs
  | restart m => exact List.nodup_nil
  | initDone =>
    unfold State.initDone
    split
    · exact hs
    · exact List.nodup_nil

theorem Turn.locked {s t : State} (h : Turn s t) (i : Fin 32) (hi : (s.map.windows[i]).locked = true) :
    t.map.windows[i] = s.map.windows[i] := by
  cases h with
  | act h => exact h.locked i hi
  | begin | beginDrain | beginSplit | beginWalk | openStream | setEvents => rfl
  | snapshotAccepted | initDone => simp
  | restart m => simpa [State.restarted, RegionMap.restarted] using fun h => absurd (hi.symm.trans h) (by simp)

/-! ### The hold queue -/

theorem Turn.pathBounded {s t : State} (h : Turn s t) (hs : s.PathBounded) : t.PathBounded := by
  cases h with
  | act h => exact h.pathBounded hs
  | begin | beginDrain | beginSplit | beginWalk | openStream | setEvents => exact hs
  | snapshotAccepted | initDone => simpa [State.PathBounded] using hs
  | restart m =>
    obtain ⟨hhold, -, hpass⟩ := restarted_queues { s with mbox := m }
    have hsum : s.path.pass.length + s.path.hold.length ≤ 12 := hs.2
    unfold State.PathBounded
    rw [hhold]
    exact ⟨Nat.zero_le _, hpass.trans hsum⟩

theorem Turn.chainsLed {s t : State} (h : Turn s t) (hs : s.ChainsLed) : t.ChainsLed := by
  cases h with
  | act h => exact h.chainsLed hs
  | begin | beginDrain | beginSplit | beginWalk | openStream | setEvents => exact hs
  | snapshotAccepted | initDone => simpa [State.ChainsLed] using hs
  | restart m =>
    rw [chainsLed_iff, (restarted_queues { s with mbox := m }).1]
    exact fun _ => trivial

/-! ### The video queue, the table and the frame list -/

theorem Turn.queueBounded {s t : State} (h : Turn s t) (hs : s.QueueBounded) : t.QueueBounded := by
  cases h with
  | act h => exact h.queueBounded hs
  | begin | beginDrain | beginSplit | beginWalk | openStream | setEvents => exact hs
  | snapshotAccepted | initDone => simpa [State.QueueBounded] using hs
  | restart m => exact Nat.zero_le _

/-- An empty table has no two entries of a line. -/
theorem entriesDistinct_of_nil {s : State} (h : s.stitch.entries = []) : s.EntriesDistinct := by
  simp [State.EntriesDistinct, h]

theorem Turn.entriesDistinct {s t : State} (h : Turn s t) (hs : s.EntriesDistinct) : t.EntriesDistinct := by
  cases h with
  | act h => exact h.entriesDistinct hs
  | begin | beginDrain | beginSplit | beginWalk | setEvents => exact hs
  | snapshotAccepted | initDone => simpa [State.EntriesDistinct] using hs
  | openStream | restart => exact entriesDistinct_of_nil rfl

/-- An empty frame list is on no slots. -/
theorem framesOnSlots_of_nil {s : State} (h : s.tracker.frames = []) : s.FramesOnSlots := by
  simp [State.FramesOnSlots, h]

theorem Turn.framesOnSlots {s t : State} (h : Turn s t) (hs : s.FramesOnSlots) : t.FramesOnSlots := by
  cases h with
  | act h => exact h.framesOnSlots hs
  | begin | beginDrain | beginSplit | beginWalk | setEvents => exact hs
  | snapshotAccepted | initDone => simpa [State.FramesOnSlots] using hs
  | openStream | restart => exact framesOnSlots_of_nil rfl

/-! ### The rings -/

/-- Empty rings keep the laws of the rings (R94). -/
theorem ringLaws_of_empty {s : State} {n : Nat} (h : s.rings = RingUnit.empty n) :
    s.InboundBounded ∧ s.HeadsFit ∧ s.OutboundIndexed := by
  have hout (r : Fin 4) : s.rings.outbound[r] = OutRing.unbound := by simp [h, RingUnit.empty]
  have hin (r : Fin 2) : s.rings.inbound[r] = InRing.unbound := by simp [h, RingUnit.empty]
  refine ⟨fun r => ?_, fun r => ?_, fun r => ?_⟩
  · rw [hin]; exact ⟨Nat.zero_le _, le_rfl⟩
  · rw [hout]; trivial
  · rw [hout]; exact ⟨le_rfl, le_rfl⟩

theorem restarted_rings (s : State) : s.restarted.rings = RingUnit.empty s.rings.nextSerial := by
  simp [State.restarted]

theorem Turn.inboundBounded {s t : State} (h : Turn s t) (hs : s.InboundBounded) : t.InboundBounded := by
  cases h with
  | act h => exact h.inboundBounded hs
  | begin | beginDrain | beginSplit | beginWalk | openStream | setEvents => exact hs
  | snapshotAccepted | initDone => simpa [State.InboundBounded] using hs
  | restart m => exact (ringLaws_of_empty (restarted_rings _)).1

theorem Turn.headsFit {s t : State} (h : Turn s t) (hs : s.HeadsFit) : t.HeadsFit := by
  cases h with
  | act h => exact h.headsFit hs
  | begin | beginDrain | beginSplit | beginWalk | openStream | setEvents => exact hs
  | snapshotAccepted | initDone => simpa [State.HeadsFit] using hs
  | restart m => exact (ringLaws_of_empty (restarted_rings _)).2.1

theorem Turn.outboundIndexed {s t : State} (h : Turn s t) (hs : s.OutboundIndexed) : t.OutboundIndexed := by
  cases h with
  | act h => exact h.outboundIndexed hs
  | begin | beginDrain | beginSplit | beginWalk | openStream | setEvents => exact hs
  | snapshotAccepted | initDone => simpa [State.OutboundIndexed] using hs
  | restart m => exact (ringLaws_of_empty (restarted_rings _)).2.2

/-! ### While INITIALIZING -/

/-- A part that is READY meets the law of INITIALIZING. -/
theorem initializingQuiet_of_ready {s : State} (h : s.path.mode = .ready) : s.InitializingQuiet := fun hm => by
  simp [h] at hm

theorem initDone_ready (s : State) : s.initDone.path.mode = .ready := by
  unfold State.initDone
  split
  · assumption
  · dsimp only
    split <;> simp

theorem Turn.initializingQuiet {s t : State} (h : Turn s t) (hs : s.InitializingQuiet) : t.InitializingQuiet := by
  cases h with
  | act h => exact h.initializingQuiet hs
  | begin | beginSplit | beginWalk => exact hs
  | beginDrain _ _ ready => exact initializingQuiet_of_ready ready
  | openStream _ _ _ ready => exact initializingQuiet_of_ready ready
  | setEvents _ ready => exact initializingQuiet_of_ready ready
  | snapshotAccepted => simpa [State.InitializingQuiet] using hs
  | restart m =>
    obtain ⟨hhold, hpass, -⟩ := restarted_queues { s with mbox := m }
    exact fun _ => ⟨hhold, hpass, rfl, rfl, rfl⟩
  | initDone => exact initializingQuiet_of_ready (initDone_ready s)

/-! ### The running command -/

/-- While no command runs, no end is owed. -/
theorem not_isRunning_of_idle {s : State} (idle : s.mbox.running = none) (c : Command) : s.isRunning c = false := by
  rw [State.isRunning, idle]

theorem withRunning_isRunning (c x : Command) (tag : BitVec 8) (s : State) :
    (s.withRunning c tag).isRunning x = decide (c = x) := by
  have hcode : c.code = x.code ↔ c = x := by
    refine ⟨fun h => ?_, congrArg _⟩
    simpa using congrArg Command.ofCode h
  simp only [State.isRunning, State.withRunning, updMbox_mbox, beq_eq_decide, hcode]

/-- The parts of the law of the running command, while none runs. -/
theorem owedNone_of_idle {s : State} (hs : s.RunningMatches) (idle : s.mbox.running = none) :
    (s.link.change ≠ none → s.link.state = .up) ∧ s.link.splitPending = false ∧
      s.tracker.stream.state ≠ .draining ∧ s.status.snapshot.isSome = false := by
  obtain ⟨hup, hsplit, hclose, hsnap⟩ := hs
  rw [not_isRunning_of_idle idle] at hsplit hclose hsnap
  exact ⟨hup, hsplit, of_decide_eq_false hclose, hsnap⟩

/-- The law of the running command right after a command has begun. -/
theorem runningMatches_of_begun {c : Command} {tag : BitVec 8} {s t : State}
    (hrun : t.mbox.running = (s.withRunning c tag).mbox.running) (up : t.link.change ≠ none → t.link.state = .up)
    (split : t.link.splitPending = decide (c = .setSplit))
    (close : decide (t.tracker.stream.state = .draining) = decide (c = .closeStream))
    (snap : t.status.snapshot.isSome = decide (c = .snapshotCounters)) : t.RunningMatches := by
  have hx (x : Command) : t.isRunning x = decide (c = x) :=
    (isRunning_congr hrun x).trans (withRunning_isRunning c x tag s)
  unfold State.RunningMatches
  rw [hx, hx, hx]
  exact ⟨up, split, close, snap⟩

/-- After a restart RESTART runs or no command does (R145). -/
theorem restarted_running (m : Mailbox) :
    m.restarted.running = none ∨ ∃ r, m.restarted.running = some r ∧ r.code = Command.restart.code := by
  unfold Mailbox.restarted
  split
  · next r hr =>
    split
    · next hcode => exact .inr ⟨r, rfl, hcode⟩
    · exact .inl rfl
  · exact .inl rfl

/-- After a restart nothing is pending and no command but RESTART runs (R19, R145). -/
theorem restarted_runningMatches (s : State) : s.restarted.RunningMatches := by
  have hnot {c : Command} (hc : c ≠ .restart) : s.restarted.isRunning c = false := by
    have hcode : Command.restart.code ≠ c.code := fun h => hc (by simpa using (congrArg Command.ofCode h).symm)
    have hmbox : s.restarted.mbox = s.flushHold.mbox.restarted := rfl
    unfold State.isRunning
    rw [hmbox]
    obtain h | ⟨r, h, hr⟩ := restarted_running s.flushHold.mbox
    · rw [h]
    · rw [h]
      dsimp only
      rw [hr]
      exact beq_false_of_ne hcode
  unfold State.RunningMatches
  rw [hnot (by decide), hnot (by decide), hnot (by decide)]
  exact ⟨fun h => absurd rfl h, rfl, rfl, rfl⟩

/-- The end of RESTART at init completion changes no other command's running (R17, R152). -/
theorem initDone_isRunning {c : Command} (hc : c ≠ .restart) (s : State) :
    s.initDone.isRunning c = s.isRunning c := by
  have hend (t : State) (hrun : t.isRunning .restart = true) (d : List Word) :
      (t.finish .noError d).isRunning c = t.isRunning c := by
    have hfin : t.finish .noError d = t.finishIf .restart .noError d := by rw [State.finishIf, hrun, if_pos rfl]
    rw [hfin]
    exact finishIf_isRunning_ne (Ne.symm hc) _ _ t
  unfold State.initDone
  split
  · rfl
  · dsimp only
    split
    · next hrun => exact hend _ hrun _
    · rfl

theorem snapshotAccepted_runningMatches {s : State} (hs : s.RunningMatches) : s.snapshotAccepted.RunningMatches := by
  unfold State.snapshotAccepted
  split
  · exact hs
  · next n hn =>
    obtain ⟨hup, hsplit, hclose, hsnap⟩ := hs
    dsimp only
    split
    · refine ⟨by simpa using hup, ?_, ?_, ?_⟩
      · rw [finishIf_isRunning_ne (by decide)]
        show _ = s.isRunning .setSplit
        simpa using hsplit
      · rw [finishIf_isRunning_ne (by decide)]
        show _ = s.isRunning .closeStream
        simpa using hclose
      · rw [finishIf_isRunning_same]
        simp
    · refine ⟨hup, hsplit, hclose, ?_⟩
      show true = _
      rw [hn] at hsnap
      exact hsnap

theorem Turn.runningMatches {s t : State} (h : Turn s t) (hs : s.RunningMatches) : t.RunningMatches := by
  cases h with
  | act h => exact h.runningMatches hs
  | begin c tag free idle =>
    obtain ⟨hup, hsplit, hclose, hsnap⟩ := owedNone_of_idle hs idle
    have hne {x : Command} (hx : x.owed = true) : decide (c = x) = false :=
      decide_eq_false fun h => by simp [h, hx] at free
    refine runningMatches_of_begun (c := c) (tag := tag) (s := s) rfl hup ?_ ?_ ?_
    · rw [hne rfl]; exact hsplit
    · rw [hne rfl]; exact decide_eq_false hclose
    · rw [hne rfl]; exact hsnap
  | beginDrain tag idle =>
    obtain ⟨hup, hsplit, -, hsnap⟩ := owedNone_of_idle hs idle
    exact runningMatches_of_begun (c := .closeStream) (tag := tag) (s := s) rfl hup hsplit rfl hsnap
  | beginSplit f rt tag idle up range =>
    obtain ⟨-, -, hclose, hsnap⟩ := owedNone_of_idle hs idle
    exact runningMatches_of_begun (c := .setSplit) (tag := tag) (s := s) rfl (fun _ => up) rfl
      (decide_eq_false hclose) hsnap
  | beginWalk o tag idle =>
    obtain ⟨hup, hsplit, hclose, -⟩ := owedNone_of_idle hs idle
    exact runningMatches_of_begun (c := .snapshotCounters) (tag := tag) (s := s) rfl hup hsplit
      (decide_eq_false hclose) rfl
  | openStream stream isOpen closed =>
    obtain ⟨hup, hsplit, hclose, hsnap⟩ := hs
    refine ⟨hup, hsplit, ?_, hsnap⟩
    show decide (stream.state = .draining) = s.isRunning .closeStream
    rw [← hclose, isOpen, closed]
    rfl
  | setEvents => exact hs
  | snapshotAccepted => exact snapshotAccepted_runningMatches hs
  | restart m => exact restarted_runningMatches _
  | initDone =>
    unfold State.RunningMatches
    rw [initDone_isRunning (by decide), initDone_isRunning (by decide), initDone_isRunning (by decide)]
    obtain ⟨hup, hsplit, hclose, hsnap⟩ := hs
    exact ⟨by simpa using hup, by simpa using hsplit, by simpa using hclose, by simpa using hsnap⟩

/-! ### The ranges of the link unit -/

/-- A cleared link unit is in every range (R122). -/
theorem cleared_ranges (st : LinkState) (en : Bool) (n : FrameCount) (cells : Nat × Nat) :
    LinkUnit.CountsInRange { LinkUnit.cleared st en n with cells } ∧
      LinkUnit.SplitsInRange { LinkUnit.cleared st en n with cells } := by
  refine ⟨?_, ?_, fun c hc => by cases hc⟩
  · unfold LinkUnit.CountsInRange LinkUnit.cleared
    dsimp only
    omega
  · unfold splitInRange LinkUnit.cleared
    dsimp only
    omega

theorem Turn.countsInRange {s t : State} (h : Turn s t) (hs : s.link.CountsInRange) : t.link.CountsInRange := by
  cases h with
  | act h => exact h.countsInRange hs
  | begin | beginDrain | beginSplit | beginWalk | openStream | setEvents => exact hs
  | snapshotAccepted | initDone => simpa using hs
  | restart m => exact (cleared_ranges _ _ _ _).1

theorem Turn.splitsInRange {s t : State} (h : Turn s t) (hs : s.link.SplitsInRange) : t.link.SplitsInRange := by
  cases h with
  | act h => exact h.splitsInRange hs
  | begin | beginDrain | beginWalk | openStream | setEvents => exact hs
  | beginSplit f rt tag idle up range =>
    refine ⟨hs.1, fun c hc f' rt' he => ?_⟩
    cases hc
    cases he
    exact range
  | snapshotAccepted | initDone => simpa using hs
  | restart m => exact (cleared_ranges _ _ _ _).2

/-! ### The step of the snapshot walk -/

/-- A step of the walk moves the counter it captures, the walk and the OTHER class (R171). -/
theorem snapshotStep_runningMatches {s : State} (hs : s.RunningMatches) : s.snapshotStep.RunningMatches := by
  have hsome : s.snapshotStep.status.snapshot.isSome = s.status.snapshot.isSome := by
    unfold State.snapshotStep
    split
    · rfl
    · next n hn =>
      split
      · simp [hn]
      · rfl
  have hrun (x : Command) : s.snapshotStep.isRunning x = s.isRunning x := isRunning_congr (by simp) x
  obtain ⟨hup, hsplit, hclose, hsnap⟩ := hs
  unfold State.RunningMatches
  rw [hrun, hrun, hrun, hsome]
  exact ⟨by simpa using hup, by simpa using hsplit, by simpa using hclose, hsnap⟩

end Sys2Proof.Machine

/-!
The laws that every step of the part keeps, from the laws of its turns; power-on reset starts them afresh.
-/

namespace Sys2Proof.Machine

/-! ### Power-on reset (R18) -/

/-- What power-on reset makes of the part before the port opens (R18). -/
def State.poweredOn (mbsel ctlid : BitVec 4) (autolink : Bool) (s : State) : State :=
  let t := State.initial { mbsel, ctlid, autolink }
  { t with
    path :=
      { t.path with
        waiting := s.path.waiting
        forwarded := s.path.forwarded.map (fun f => { f with discard := true })
        ownOut := s.path.ownOut.map OwnRequest.retired }
    stitch := { t.stitch with nextEntry := s.stitch.nextEntry }
    sched := Scheduler.empty s.sched.nextJob s.sched.nextParcel
    rings := RingUnit.empty s.rings.nextSerial
    free := s.free
    out := s.out
    pending := s.pending }

/-- Power-on reset is the new part, whose port opens (R1, R18). -/
theorem exec_powerOnReset (m k : BitVec 4) (a : Bool) (s : State) :
    exec (.powerOnReset m k a) s = .next (s.poweredOn m k a).takeWaiting := rfl

/-- A law that power-on reset starts afresh, and that every turn and every step of the walk keeps, is kept by every
row. -/
theorem exec_keeps {P : State → Prop} (hstart : ∀ m k a s, P (State.poweredOn m k a s))
    (hturn : ∀ s t, Turn s t → P s → P t) (hwalk : ∀ s, P s → P s.snapshotStep) {c : Instr} {s t : State}
    (h : exec c s = .next t) (hs : P s) : P t := by
  by_cases hreset : ∃ m k a, c = .powerOnReset m k a
  · obtain ⟨m, k, a, rfl⟩ := hreset
    rw [exec_powerOnReset] at h
    cases h
    exact (takeWaiting_acts _).moves.keeps hturn hwalk (hstart m k a s)
  · push Not at hreset
    exact (exec_moves h hreset).keeps hturn hwalk hs

/-- The same for a step of the part: the command at the front leaves the queue, which no law speaks of. -/
theorem step_keeps {P : State → Prop} (hstart : ∀ m k a s, P (State.poweredOn m k a s))
    (hturn : ∀ s t, Turn s t → P s → P t) (hwalk : ∀ s, P s → P s.snapshotStep)
    (hqueue : ∀ s q, P s → P { s with pending := q }) (s t : State) (hs : P s) (h : step s = .next t) : P t := by
  unfold step at h
  split at h
  · cases h
    exact hs
  · exact exec_keeps hstart hturn hwalk h (hqueue s _ hs)

/-! ### Outputs, straps and the queue (O3) -/

/-- A step of the walk touches no strap, no output and no command. -/
theorem snapshotStep_outside (s : State) :
    s.snapshotStep.pending = s.pending ∧ s.snapshotStep.straps = s.straps ∧ s.snapshotStep.out = s.out := by
  simp

theorem Moves.outside {s t : State} (h : Moves s t) : t.pending = s.pending ∧ t.straps = s.straps ∧ s.out <+: t.out := by
  induction h with
  | refl => exact ⟨rfl, rfl, List.prefix_rfl⟩
  | tail _ hmove ih =>
    obtain ⟨hp, hs, ho⟩ := ih
    obtain hturn | rfl := hmove
    · obtain ⟨kp, ks, kg⟩ := hturn.outside
      exact ⟨kp.trans hp, ks.trans hs, ho.trans kg.2⟩
    · obtain ⟨kp, ks, ko⟩ := snapshotStep_outside _
      exact ⟨kp.trans hp, ks.trans hs, ko ▸ ho⟩

/-- Settles O3: power-on reset keeps the outputs and the queue by its definition, and every other row by the moves
it is made of. -/
theorem queueStrapsAndOutputsKept : Obligations.QueueStrapsAndOutputsKept := by
  unfold Obligations.QueueStrapsAndOutputsKept
  intro c s t h
  by_cases hreset : ∃ m k a, c = .powerOnReset m k a
  · obtain ⟨m, k, a, rfl⟩ := hreset
    rw [exec_powerOnReset] at h
    cases h
    obtain ⟨hp, -, hg⟩ := (takeWaiting_acts (s.poweredOn m k a)).outside
    obtain ⟨more, hmore⟩ := hg.2
    exact ⟨hp, fun hne => absurd rfl (hne m k a), more, hmore.symm⟩
  · push Not at hreset
    obtain ⟨hp, hs, more, hmore⟩ := (exec_moves h hreset).outside
    exact ⟨hp, fun _ => hs, more, hmore.symm⟩

/-! ### Counters (O53) -/

/-- A step of the walk lowers the counter it captures alone, and by its option alone (R171, R172). -/
theorem snapshotStep_falls {s : State} {i : Fin 59}
    (h : (s.snapshotStep.status.counters[i]).toNat < (s.status.counters[i]).toNat) :
    ∃ n, s.snapshotStep.status.snapshot = some n ∧ n.option ≠ .keep ∧ i.val + 1 = n.next := by
  unfold State.snapshotStep at h ⊢
  split at h
  · exact absurd h (lt_irrefl _)
  · next n hn =>
    split at h
    · next hnext =>
      rw [dif_pos hnext]
      refine ⟨{ n with next := n.next + 1, left := n.left + 1 }, rfl, ?_⟩
      have hset : (s.status.counters.set (⟨n.next, hnext⟩ : Fin 59)
          (n.option.after s.status.counters[n.next]))[i].toNat < (s.status.counters[i]).toNat := h
      rw [getElem_set_slot] at hset
      split at hset
      · next hi =>
        subst hi
        exact ⟨fun hk => by rw [hk] at hset; exact absurd hset (lt_irrefl _), rfl⟩
      · exact absurd hset (lt_irrefl _)
    · exact absurd h (lt_irrefl _)

theorem Launches.falls {s t : State} (h : Launches s t) {i : Fin 59}
    (hlt : (t.status.counters[i]).toNat < (s.status.counters[i]).toNat) :
    ∃ n, t.status.snapshot = some n ∧ n.option ≠ .keep ∧ i.val + 1 = n.next := by
  obtain h | ⟨u, hu, ht⟩ := h
  · exact absurd (h.outside.2.2.1 i) (not_le.2 hlt)
  · have hbefore := hu.outside.2.2.1 i
    have hafter := ht.outside.2.2.1 i
    rw [ht.settings.2.2]
    exact snapshotStep_falls (hafter.trans_lt (hlt.trans_le hbefore))

/-- Settles O53: every row but power-on reset is a chain of turns, which let no counter fall, with at most one step
of the walk among them. -/
theorem countersNeverFall : Obligations.CountersNeverFall := by
  unfold Obligations.CountersNeverFall
  refine ⟨fun c s t i h hreset hone hlt => (exec_launches h hreset hone).falls hlt,
    fun c n s => ⟨rfl, rfl, fun v => ?_⟩⟩
  unfold saturate
  split
  · rw [BitVec.toNat_ofNat]
    omega
  · show 4294967295 = _
    omega

/-! ### The laws (O54 to O57, O59, O60) -/

/-- Settles O54: no turn of the part touches a locked entry. -/
theorem lockedEntriesKept : Obligations.LockedEntriesKept := by
  unfold Obligations.LockedEntriesKept
  intro c s t i h hreset hi
  refine (exec_moves h hreset).keeps (P := fun u => u.map.windows[i] = s.map.windows[i])
    (fun u v hturn hu => ?_) (fun u hu => ?_) rfl
  · exact (hturn.locked i (hu ▸ hi)).trans hu
  · rw [(snapshotStep_frame u).2.1.1]
    exact hu

/-- Settles O55, by the bound and the chains of each turn. -/
theorem holdQueueLawKept : Obligations.HoldQueueLawKept := by
  unfold Obligations.HoldQueueLawKept
  refine ⟨step_keeps (P := State.PathBounded) (fun m k a s => ?_) (fun _ _ => Turn.pathBounded) (fun s hs => ?_)
      (fun _ _ hs => hs),
    step_keeps (P := State.ChainsLed) (fun m k a s => ?_) (fun _ _ => Turn.chainsLed) (fun s hs => ?_)
      (fun _ _ hs => hs)⟩
  · exact ⟨Nat.zero_le _, Nat.zero_le _⟩
  · simpa [State.PathBounded] using hs
  · exact fun _ => trivial
  · simpa [State.ChainsLed] using hs

/-- Settles O56, by what each turn does to the queue, the table and the frame list. -/
theorem videoQueueAndTableLawsKept : Obligations.VideoQueueAndTableLawsKept := by
  unfold Obligations.VideoQueueAndTableLawsKept
  refine ⟨step_keeps (P := State.QueueBounded) (fun m k a s => Nat.zero_le _) (fun _ _ => Turn.queueBounded)
      (fun s hs => ?_) (fun _ _ hs => hs),
    step_keeps (P := State.EntriesDistinct) (fun m k a s => entriesDistinct_of_nil rfl)
      (fun _ _ => Turn.entriesDistinct) (fun s hs => ?_) (fun _ _ hs => hs),
    step_keeps (P := State.FramesOnSlots) (fun m k a s => framesOnSlots_of_nil rfl)
      (fun _ _ => Turn.framesOnSlots) (fun s hs => ?_) (fun _ _ hs => hs)⟩
  · simpa [State.QueueBounded] using hs
  · simpa [State.EntriesDistinct] using hs
  · simpa [State.FramesOnSlots] using hs

/-- Settles O57: while INITIALIZING no turn holds, taps, enables or opens anything, and none enters INITIALIZING but
a restart, which leaves it so. -/
theorem initializingQuietKept : Obligations.InitializingQuietKept := by
  unfold Obligations.InitializingQuietKept
  refine step_keeps (P := State.InitializingQuiet) (fun m k a s _ => ⟨rfl, fun x hx => ?_, rfl, rfl, rfl⟩)
    (fun _ _ => Turn.initializingQuiet) (fun s hs => ?_) (fun _ _ hs => hs)
  · exact absurd hx List.not_mem_nil
  · simpa [State.InitializingQuiet] using hs

/-- Settles O58, by the ranges that each turn leaves the link in: the eighth bad window in a row leaves PROBING and no
loss run. -/
theorem linkRangesKept : Obligations.LinkRangesKept := by
  unfold Obligations.LinkRangesKept
  refine ⟨step_keeps (P := fun s => s.link.CountsInRange) (fun m k a s => (cleared_ranges _ _ _ _).1)
      (fun _ _ => Turn.countsInRange) (fun s hs => ?_) (fun _ _ hs => hs),
    step_keeps (P := fun s => s.link.SplitsInRange) (fun m k a s => (cleared_ranges _ _ _ _).2)
      (fun _ _ => Turn.splitsInRange) (fun s hs => ?_) (fun _ _ hs => hs)⟩
  · simpa using hs
  · simpa using hs

/-- Settles O59: a command begins together with what its block will owe the end of, and ends with it. -/
theorem runningCommandMatchesKept : Obligations.RunningCommandMatchesKept := by
  unfold Obligations.RunningCommandMatchesKept
  exact step_keeps (P := State.RunningMatches) (fun m k a s => ⟨fun h => absurd rfl h, rfl, rfl, rfl⟩)
    (fun _ _ => Turn.runningMatches) (fun _ => snapshotStep_runningMatches) (fun _ _ hs => hs)

/-- Settles O60, by what each turn does to the indices and head records of the rings. -/
theorem ringLawsKept : Obligations.RingLawsKept := by
  unfold Obligations.RingLawsKept
  refine ⟨step_keeps (P := State.InboundBounded) (fun m k a s => (ringLaws_of_empty rfl).1)
      (fun _ _ => Turn.inboundBounded) (fun s hs => ?_) (fun _ _ hs => hs),
    step_keeps (P := State.HeadsFit) (fun m k a s => (ringLaws_of_empty rfl).2.1) (fun _ _ => Turn.headsFit)
      (fun s hs => ?_) (fun _ _ hs => hs),
    step_keeps (P := State.OutboundIndexed) (fun m k a s => (ringLaws_of_empty rfl).2.2)
      (fun _ _ => Turn.outboundIndexed) (fun s hs => ?_) (fun _ _ hs => hs)⟩
  · simpa [State.InboundBounded] using hs
  · simpa [State.HeadsFit] using hs
  · simpa [State.OutboundIndexed] using hs

end Sys2Proof.Machine

/-!
The due list (R162): every change notes its words, in the order of its rule.
-/

namespace Sys2Proof.Machine

/-! ### Words noted by one change and by a chain of changes -/

/-- Words above 19 mirror nothing (R161). -/
theorem statusWord_above (s : State) {n : Nat} (h : 20 ≤ n) : s.statusWord n = 0 := by
  unfold State.statusWord
  dsimp only
  split
  case h_21 => rfl
  all_goals omega

theorem statusWord_unused (s t : State) {w : Fin 32} (h : w ∉ mirroredWords) :
    s.statusWord w.val = t.statusWord w.val := by
  have hw : 20 ≤ w.val := by
    revert h
    revert w
    decide
  rw [statusWord_above s hw, statusWord_above t hw]

/-- The noting of changes changes no word (R161, R162). -/
theorem statusWord_noteChanges (o : List (Fin 32)) (s t : State) (n : Nat) :
    (noteChanges o s t).statusWord n = t.statusWord n := by
  refine statusWord_congr n ?_ ?_ ?_ ?_ ?_ ?_ ?_ ?_ ?_ ?_ ?_ ?_ <;> simp

/-- The words that differ between two states are due in the second while it is READY. -/
def Noted (s t : State) : Prop :=
  t.path.mode = .ready → ∀ w : Fin 32, s.statusWord w.val ≠ t.statusWord w.val → w ∈ t.status.due

/-- One change of the part notes its words (R162). -/
theorem mirroredIn_noted (o : WordOrder) (f : State → State) (s : State) : Noted s (mirroredIn o f s) := by
  intro hready w hw
  have hmirrored : w ∈ mirroredWords := by
    by_contra h
    exact hw (statusWord_unused s _ h)
  unfold mirroredIn at hready hw ⊢
  rw [statusWord_noteChanges] at hw
  exact (mem_noteChanges_due _ s (f s) (by simpa using hready) w hmirrored).2 (.inr hw)

/-- A chain of changes within READY that notes its words and lets none off the due list. -/
def Follows (s t : State) : Prop :=
  t.path.mode = .ready → s.path.mode = .ready ∧ (∀ w ∈ s.status.due, w ∈ t.status.due) ∧
    ∀ w : Fin 32, s.statusWord w.val ≠ t.statusWord w.val → w ∈ t.status.due

theorem Follows.refl (s : State) : Follows s s := fun h => ⟨h, fun _ => id, fun _ hw => absurd rfl hw⟩

theorem Follows.trans {s t u : State} (h : Follows s t) (k : Follows t u) : Follows s u := by
  intro hu
  obtain ⟨ht, hdue, hwords⟩ := k hu
  obtain ⟨hs, hdue', hwords'⟩ := h ht
  refine ⟨hs, fun w hw => hdue w (hdue' w hw), fun w hw => ?_⟩
  by_cases hst : s.statusWord w.val = t.statusWord w.val
  · exact hwords w (hst ▸ hw)
  · exact hdue w (hwords' w hst)

theorem Follows.noted {s t : State} (h : Follows s t) : Noted s t := fun ht => (h ht).2.2

/-- One change that leaves the mode and the due list follows. -/
theorem mirroredIn_follows {o : WordOrder} {f : State → State} {s : State} (hm : (f s).path.mode = s.path.mode)
    (hd : (f s).status.due = s.status.due) : Follows s (mirroredIn o f s) := by
  intro hready
  have hf : (f s).path.mode = .ready := by simpa using hready
  refine ⟨hm ▸ hf, fun w hw => ?_, mirroredIn_noted o f s hready⟩
  unfold mirroredIn
  rw [noteChanges_ready _ s (f s) hf]
  exact mem_foldl_joinDue.2 (.inl (hd ▸ hw))

/-- A change of what no word mirrors follows. -/
theorem follows_of_statusWord {s t : State} (hm : t.path.mode = s.path.mode) (hd : t.status.due = s.status.due)
    (hw : ∀ n, t.statusWord n = s.statusWord n) : Follows s t :=
  fun h => ⟨hm ▸ h, fun _ => hd ▸ id, fun w hne => absurd (hw w.val).symm hne⟩

theorem foldl_follows {α : Type} {f : State → α → State} (h : ∀ s a, Follows s (f s a)) (l : List α) (s : State) :
    Follows s (l.foldl f s) := by
  induction l generalizing s with
  | nil => exact Follows.refl s
  | cons a l ih => exact (h s a).trans (ih _)

/-! ### The rows of several changes -/

theorem frameStart_follows (s : State) : Follows s s.frameStart :=
  (mirroredIn_follows (by simp) (by simp)).trans <| (mirroredIn_follows (by simp) (by simp)).trans <|
    (mirroredIn_follows (by simp) (by simp)).trans <| (mirroredIn_follows (by simp) (by simp)).trans <|
    (mirroredIn_follows (by simp) (by simp)).trans <| (mirroredIn_follows (by simp) (by simp)).trans <|
    mirroredIn_follows (by simp) (by simp)

theorem sendNext_follows (s : State) : Follows s s.sendNext := by
  unfold State.sendNext
  split
  · exact Follows.refl s
  · exact (mirroredIn_follows (by simp) (by simp)).trans (mirroredIn_follows (by simp) (by simp))

theorem handOut_follows (h body : List Byte) (s : State) : Follows s (s.handOut h body) :=
  (mirroredIn_follows (by simp) (by simp)).trans <| (mirroredIn_follows (by simp) (by simp)).trans <|
    (foldl_follows (fun t r => mirroredIn_follows (by simp) (by simp)) _ _).trans <|
    (mirroredIn_follows (by simp) (by simp)).trans <| (mirroredIn_follows (by simp) (by simp)).trans <|
    foldl_follows (fun t f => mirroredIn_follows (by simp) (by simp)) _ _

/-- No word mirrors the loss run, the next move and whether a return window has come (R161). -/
theorem unmirrored_follows (loss : Nat) (move : Option LinkMove) (taken : Bool) (s : State) :
    Follows s (s.updLink fun l => { l with lossRun := loss, move, returnTaken := taken }) := by
  refine follows_of_statusWord rfl rfl fun n => ?_
  unfold State.statusWord
  rfl

theorem arriveProbing_follows (h : Option (List Byte)) (s : State) : Follows s (s.arriveProbing h) := by
  unfold State.arriveProbing
  dsimp only
  split
  · exact mirroredIn_follows (by simp) (by simp)
  · split
    · split
      · exact (unmirrored_follows s.link.lossRun (some .training) s.link.returnTaken s).trans
          (mirroredIn_follows (by simp) (by simp))
      · exact (mirroredIn_follows (by simp) (by simp)).trans (mirroredIn_follows (by simp) (by simp))
    · exact mirroredIn_follows (by simp) (by simp)

theorem arriveTraining_follows (h : Option (List Byte)) (body : List Byte) (s : State) :
    Follows s (s.arriveTraining h body) := by
  have hbad : Follows s (mirrored State.testTrial (mirroredIn linkOrder State.testLoss
      (mirrored (fun u => u.badWindow.trialErrors 0 1) s))) :=
    (mirroredIn_follows (by simp) (by simp)).trans ((mirroredIn_follows (by simp) (by simp)).trans
      (mirroredIn_follows (by simp) (by simp)))
  have hgood : Follows s (s.updLink fun l => { l with lossRun := 0 }) :=
    unmirrored_follows 0 s.link.move s.link.returnTaken s
  unfold State.arriveTraining
  dsimp only
  split
  · exact hbad
  · split
    · split
      · exact hgood.trans ((mirroredIn_follows (by simp) (by simp)).trans
          ((mirroredIn_follows (by simp) (by simp)).trans (mirroredIn_follows (by simp) (by simp))))
      · exact hgood.trans (mirroredIn_follows (by simp) (by simp))
    · exact hbad

theorem arriveUp_follows (h : Option (List Byte)) (body : List Byte) (s : State) : Follows s (s.arriveUp h body) := by
  have hbad : Follows s (mirrored State.monitorArrival (mirroredIn linkOrder State.testLoss
      (mirrored (fun u => u.badWindow.monitorErrors 1) s))) :=
    (mirroredIn_follows (by simp) (by simp)).trans ((mirroredIn_follows (by simp) (by simp)).trans
      (mirroredIn_follows (by simp) (by simp)))
  have hgood : Follows s
      (mirrored (fun u => (u.count .returnWindowsGood).updLink fun l => { l with lossRun := 0 }) s) :=
    mirroredIn_follows (by simp) (by simp)
  unfold State.arriveUp
  dsimp only
  split
  · exact hbad
  · split
    · split
      · exact hgood.trans ((handOut_follows _ _ _).trans (mirroredIn_follows (by simp) (by simp)))
      · exact hgood.trans (mirroredIn_follows (by simp) (by simp))
    · exact hbad

theorem arrive_follows (h : Option (List Byte)) (body : List Byte) (s : State) : Follows s (s.arrive h body) := by
  have htaken : Follows s (s.updLink fun l => { l with returnTaken := true }) :=
    unmirrored_follows s.link.lossRun s.link.move true s
  unfold State.arrive
  dsimp only
  cases s.link.state with
  | down => exact Follows.refl s
  | probing => exact htaken.trans (arriveProbing_follows _ _)
  | training => exact htaken.trans (arriveTraining_follows _ _ _)
  | up => exact htaken.trans (arriveUp_follows _ _ _)

/-! ### Every row notes its words -/

/-- An outcome that is a next state notes its words. -/
def Notes (s : State) (r : Result) : Prop := ∀ t, r = .next t → Noted s t

@[simp] theorem notes_next (s : State) : Notes s (.next s) := fun _ h => by
  cases h
  exact (Follows.refl s).noted

@[simp] theorem notes_fault (s : State) (f : Fault) : Notes s (.fault f) := fun _ h => by cases h

@[simp] theorem notes_mirroredIn (o : WordOrder) (f : State → State) (s : State) :
    Notes s (.next (mirroredIn o f s)) := fun _ h => by
  cases h
  exact mirroredIn_noted o f s

theorem Follows.notes {s t : State} (h : Follows s t) : Notes s (.next t) := fun _ ht => by
  cases ht
  exact h.noted

/-- After power-on reset the part is INITIALIZING, where no word is due (R17, R18). -/
theorem powerOnReset_notes (m k : BitVec 4) (a : Bool) (s : State) : Notes s (exec (.powerOnReset m k a) s) := by
  intro t h hready
  rw [exec_powerOnReset] at h
  cases h
  rw [(takeWaiting_acts _).settings.1] at hready
  cases hready

/-- Every row but init completion notes its words. -/
theorem exec_notes {c : Instr} (hinit : c ≠ .initCompletion) (s : State) : Notes s (exec c s) := by
  cases hlaunch : launchOf c with
  | some l =>
    obtain h | ⟨o, h⟩ := exec_launch_cases hlaunch s
    · rw [h]; exact notes_next s
    · rw [h]; exact notes_mirroredIn o _ s
  | none =>
    cases c
    case initCompletion => exact absurd rfl hinit
    case powerOnReset => exact powerOnReset_notes _ _ _ s
    -- The rows of several changes.
    case linkFrameStart => exact (frameStart_follows s).notes
    case parcelSent => exact (sendNext_follows s).notes
    case returnWindowArrival header body => exact (arrive_follows header body s).notes
    -- The rows that are one change in every state.
    case restartN | rateChangeEffect | splitChangeEffect | release | frameEnd | probeCycle | trialEnd
        | monitorBlockJudgement | linkLoss | frameMark | ackTimeout | producerIndexWrite | consumerIndexWrite =>
      exact notes_mirroredIn _ _ s
    -- The rows that are one change under a condition.
    case upstreamRequest | holdExpiry | forwarding | ownRequestGrant | downstreamResponse | ownWriteAccepted
        | captureWrite | stitchDeadline | payloadFetchComplete | recordFetchResponse | parameterWordWrite
        | acknowledge | scheduleImageResponse | snapshotStep | statusWriteIssue =>
      simp only [exec, execUpstreamRequest, execHoldExpiry, execForwarding, execOwnRequestGrant,
        execDownstreamResponse, execOwnWriteAccepted, execCaptureWrite, execStitchDeadline,
        execPayloadFetchComplete, execRecordFetchResponse, execParameterWordWrite, execAcknowledge,
        execScheduleImageResponse, execSnapshotStep, execStatusWriteIssue]
      (repeat' split) <;> simp
    all_goals cases hlaunch

end Sys2Proof.Machine

/-!
The order in which the words of a change become due (R162, section 9.7).
-/

namespace Sys2Proof.Machine

/-! ### The due list of one change -/

/-- The due list that one change leaves, from the words it changed. -/
theorem mirroredIn_due_of_changed {o : WordOrder} {f : State → State} {s : State} {p : Fin 32 → Bool}
    (hready : (f s).path.mode = .ready) (hdue : (f s).status.due = [])
    (hp : ∀ w : Fin 32, s.statusWord w.val ≠ (f s).statusWord w.val ↔ p w = true) :
    (mirroredIn o f s).status.due = ((o s (f s) ++ mirroredWords).filter p).foldl joinDue [] := by
  unfold mirroredIn
  rw [noteChanges_ready _ s (f s) hready]
  show (changedWords (o s (f s)) s (f s)).foldl joinDue (f s).status.due = _
  rw [hdue]
  unfold changedWords
  congr 2
  funext w
  rw [Bool.eq_iff_iff, decide_eq_true_iff]
  exact hp w

/-! ### The words of a ring and of the events -/

/-- The word of an outbound ring (R161). -/
def OutRing.word (o : OutRing) : Word :=
  BitVec.ofNat 64 (o.state.code + 2 ^ 8 * o.cause.code + 2 ^ 16 * o.kind.code)

theorem statusWord_ring (r : Fin 4) (s : State) : s.statusWord (ringWord r).val = (s.rings.outbound[r]).word := by
  fin_cases r <;> simp [ringWord, State.statusWord, OutRing.word, atBit, Nat.mul_comm]

theorem statusWord_events (s : State) : s.statusWord 15 = BitVec.ofNat 64 s.status.events.toNat := rfl

/-- Two states that differ, as far as words mirror them, in one outbound ring and the events alone. -/
structure SameButRing (r : Fin 4) (s t : State) : Prop where
  mode : t.path.mode = s.path.mode
  guard : t.path.guard = s.path.guard
  tracker : t.tracker = s.tracker
  stitch : t.stitch = s.stitch
  sched : t.sched = s.sched
  link : t.link = s.link
  outbound : ∀ q, q ≠ r → t.rings.outbound[q] = s.rings.outbound[q]
  inbound : t.rings.inbound = s.rings.inbound
  ret : t.rings.ret = s.rings.ret
  enable : t.status.enable = s.status.enable
  launchLost : t.status.launchLost = s.status.launchLost
  paramTorn : t.status.paramTorn = s.status.paramTorn
  inboundFull : t.status.inboundFull = s.status.inboundFull

/-- A word but that of one outbound ring and that of the events reads nothing of these two. -/
theorem SameButRing.statusWord {r : Fin 4} {s t : State} (h : SameButRing r s t) {w : Fin 32} (hw : w ≠ ringWord r)
    (h15 : w ≠ 15) : t.statusWord w.val = s.statusWord w.val := by
  by_cases hring : ∃ q, w = ringWord q
  · obtain ⟨q, rfl⟩ := hring
    rw [statusWord_ring, statusWord_ring, h.outbound q fun hq => hw (hq ▸ rfl)]
  · have hne (q : Fin 4) : w.val ≠ 6 + q.val := fun hq => hring ⟨q, Fin.ext hq⟩
    have h6 := hne 0
    have h7 := hne 1
    have h8 := hne 2
    have h9 := hne 3
    have h15' : w.val ≠ 15 := fun hw => h15 (Fin.ext hw)
    generalize w.val = n at *
    unfold State.statusWord
    rw [h.mode, h.guard, h.tracker, h.stitch, h.sched, h.link, h.inbound, h.ret, h.enable, h.launchLost, h.paramTorn,
      h.inboundFull]
    dsimp only
    split
    case h_7 => exact absurd rfl h6
    case h_8 => exact absurd rfl h7
    case h_9 => exact absurd rfl h8
    case h_10 => exact absurd rfl h9
    case h_16 => exact absurd rfl h15'
    all_goals rfl

/-- Two words of events are the same only of the same events. -/
theorem statusWord_events_ne {s t : State} (h : s.status.events ≠ t.status.events) :
    s.statusWord 15 ≠ t.statusWord 15 := fun he => by
  rw [statusWord_events, statusWord_events] at he
  have hnat := congrArg BitVec.toNat he
  have hs := s.status.events.isLt
  have ht := t.status.events.isLt
  rw [BitVec.toNat_ofNat, BitVec.toNat_ofNat, Nat.mod_eq_of_lt (by omega), Nat.mod_eq_of_lt (by omega)] at hnat
  exact h (BitVec.eq_of_toNat_eq hnat)

/-- The word of a ring shows its state (R161). -/
theorem outRing_word_ne {o p : OutRing} (ho : o.state = .active) (hp : p.state = .halted) : o.word ≠ p.word := by
  intro h
  unfold OutRing.word at h
  rw [ho, hp] at h
  have hnat := congrArg BitVec.toNat h
  rw [BitVec.toNat_ofNat, BitVec.toNat_ofNat] at hnat
  have hmod := congrArg (· % 2 ^ 8) hnat
  simp only [RingState.code] at hmod
  omega

/-- A halt changes the word of its ring and that of the events, and no other (R105, R163). -/
theorem changed_of_halt {r : Fin 4} {s t : State} (h : SameButRing r s t)
    (hs : (s.rings.outbound[r]).state = .active) (ht : (t.rings.outbound[r]).state = .halted)
    (hev : s.status.events ≠ t.status.events) (w : Fin 32) :
    s.statusWord w.val ≠ t.statusWord w.val ↔ decide (w = ringWord r ∨ w = 15) = true := by
  rw [decide_eq_true_iff]
  constructor
  · intro hne
    by_contra hno
    obtain ⟨hw, h15⟩ := not_or.1 hno
    exact hne (h.statusWord hw h15).symm
  · rintro (rfl | rfl)
    · rw [statusWord_ring, statusWord_ring]
      exact outRing_word_ne hs ht
    · exact statusWord_events_ne hev

/-- An event that is not pending changes the events when it is raised, and others with it. -/
theorem events_ne_of_raised {s : State} {e : Event} (h : s.eventPending e = false) (m : BitVec 10) :
    s.status.events ≠ s.status.events ||| e.mask ||| m := by
  intro he
  have hnone : s.status.events &&& e.mask = 0 := by simpa [State.eventPending] using h
  have hmask : e.mask ≠ 0 := by cases e <;> decide
  refine hmask ?_
  calc e.mask = (s.status.events ||| e.mask ||| m) &&& e.mask := by
        ext i hi
        simp
        tauto
    _ = 0 := by rw [← he, hnone]

/-! ### The halt of an outbound ring (R98, R105) -/

theorem haltOut_sameButRing (r : Fin 4) (c : HaltCause) (v : RingIndex) (s : State) :
    SameButRing r s (s.haltOut r c v) where
  mode := rfl
  guard := rfl
  tracker := rfl
  stitch := rfl
  sched := rfl
  link := rfl
  outbound q hq := (getElem_set_slot _ r q _).trans (if_neg (Ne.symm hq))
  inbound := rfl
  ret := rfl
  enable := rfl
  launchLost := rfl
  paramTorn := rfl
  inboundFull := rfl

theorem SameButRing.trans {r : Fin 4} {s t u : State} (h : SameButRing r s t) (k : SameButRing r t u) :
    SameButRing r s u where
  mode := k.mode.trans h.mode
  guard := k.guard.trans h.guard
  tracker := k.tracker.trans h.tracker
  stitch := k.stitch.trans h.stitch
  sched := k.sched.trans h.sched
  link := k.link.trans h.link
  outbound q hq := (k.outbound q hq).trans (h.outbound q hq)
  inbound := k.inbound.trans h.inbound
  ret := k.ret.trans h.ret
  enable := k.enable.trans h.enable
  launchLost := k.launchLost.trans h.launchLost
  paramTorn := k.paramTorn.trans h.paramTorn
  inboundFull := k.inboundFull.trans h.inboundFull

theorem haltOut_state (r : Fin 4) (c : HaltCause) (v : RingIndex) (s : State) :
    ((s.haltOut r c v).rings.outbound[r]).state = .halted := by
  show ((s.rings.outbound.set r _)[r]).state = _
  rw [getElem_set_slot, if_pos rfl]

/-- The words of a ring and of the events, in the ascending order. -/
theorem due_of_ring_events (r : Fin 4) :
    (mirroredWords.filter fun w => decide (w = ringWord r ∨ w = 15)).foldl joinDue [] = [ringWord r, 15] := by
  revert r
  decide

/-- An index that fails its test halts an ACTIVE ring (R98). -/
theorem producerWrite_of_bad {r : Fin 4} {v : Word} {s : State} (ha : (s.rings.outbound[r]).state = .active)
    (hbad : (s.rings.outbound[r]).indexOk (BitVec.ofNat 16 (bits v 15 0)) = false) :
    s.producerWrite r v = s.haltOut r .index (BitVec.ofNat 16 (bits v 15 0)) := by
  unfold State.producerWrite
  dsimp only
  rw [ha]
  dsimp only
  rw [hbad, if_neg Bool.false_ne_true]

/-- The index of a producer word write is its low 16 bits (R98). -/
theorem indexBits (v : Word) : BitVec.ofNat 16 (bits v 15 0) = BitVec.ofNat 16 v.toNat := by
  unfold bits
  apply BitVec.eq_of_toNat_eq
  simp

theorem producerIndexWrite_due {r : Fin 4} {v : Word} {s : State} (hready : s.path.mode = .ready)
    (hdue : s.status.due = []) (ha : (s.rings.outbound[r]).state = .active) (hev : s.eventPending .ringHalt = false)
    (hbad : (s.rings.outbound[r]).indexOk (BitVec.ofNat 16 v.toNat) = false) :
    (mirroredIn ascending (State.producerWrite r v) s).status.due = [ringWord r, 15] := by
  have hgo := producerWrite_of_bad ha (indexBits v ▸ hbad)
  have hevents : s.status.events ≠ (s.producerWrite r v).status.events := by
    rw [hgo]
    show s.status.events ≠ s.status.events ||| Event.ringHalt.mask
    simpa using events_ne_of_raised hev 0
  rw [mirroredIn_due_of_changed (by simpa using hready) (by simpa using hdue)
    (changed_of_halt (hgo ▸ haltOut_sameButRing r _ _ s) ha (hgo ▸ haltOut_state r _ _ s) hevents)]
  exact due_of_ring_events r

/-! ### A send that fails (R102, R104) -/

/-- What a retire makes of its ring (R104). -/
def OutRing.retired (o : OutRing) (st : RecordStatus) : OutRing :=
  { o.settleToggle st with consumer := o.consumer + 1, head := .empty, sendCount := 0 }

theorem retire_outbound (r : Fin 4) (sr : SendRecord) (st : RecordStatus) (s : State) :
    (s.retire r sr st).rings.outbound = s.rings.outbound.set r ((s.rings.outbound[r]).retired st) := by
  have hraise (t : State) : (if sr.attention = true then t.raise .ringAttn else t).rings = t.rings := by
    split <;> rfl
  have hout (t : State) (ht : t.rings = s.rings) :
      (t.updOut r fun o =>
        { o.settleToggle st with consumer := (s.rings.outbound[r]).consumer + 1, head := .empty
                                 sendCount := 0 }).rings.outbound =
        s.rings.outbound.set r ((s.rings.outbound[r]).retired st) := by
    show t.rings.outbound.set r _ = _
    rw [ht]
    rfl
  unfold State.retire
  cases st with
  | tooLarge | failed => rw [count_rings, hraise]; exact hout _ (by simp)
  | sent | delivered | memoryError | badRecord => dsimp only; rw [hraise]; exact hout _ (by simp)

/-- What a retire makes of the events (R104). -/
theorem retire_events (r : Fin 4) (sr : SendRecord) (st : RecordStatus) (s : State) :
    (s.retire r sr st).status.events =
      if sr.attention then s.status.events ||| Event.ringAttn.mask else s.status.events := by
  have hraise (t : State) (ht : t.status = s.status) :
      (if sr.attention = true then t.raise .ringAttn else t).status.events =
        if sr.attention then s.status.events ||| Event.ringAttn.mask else s.status.events := by
    split
    · rw [raise_events, ht]
    · rw [ht]
  unfold State.retire
  cases st with
  | tooLarge | failed => rw [count_events]; exact hraise _ (by simp)
  | sent | delivered | memoryError | badRecord => exact hraise _ (by simp)

/-- A retire changes one ring and the events, as far as words mirror it. -/
theorem retire_sameButRing (r : Fin 4) (sr : SendRecord) (st : RecordStatus) (s : State) :
    SameButRing r s (s.retire r sr st) where
  mode := by simp
  guard := by simp
  tracker := by simp
  stitch := by simp
  sched := by simp
  link := by simp
  outbound q hq := by rw [retire_outbound, getElem_set_slot, if_neg (Ne.symm hq)]
  inbound := by simp
  ret := by simp
  enable := by simp
  launchLost := by simp
  paramTorn := by simp
  inboundFull := by simp

/-- A retired ring shows the same state, cause and kind (R104, R161). -/
theorem retired_word (o : OutRing) (st : RecordStatus) : (o.retired st).word = o.word := by
  have hsame : (o.settleToggle st).state = o.state ∧ (o.settleToggle st).cause = o.cause ∧
      (o.settleToggle st).kind = o.kind := by
    unfold OutRing.settleToggle
    (repeat' split) <;> exact ⟨rfl, rfl, rfl⟩
  obtain ⟨hs, hc, hk⟩ := hsame
  unfold OutRing.word OutRing.retired
  dsimp only
  rw [hs, hc, hk]

/-- A retire with the attention flag, of an event that is not pending, changes the word of the events alone. -/
theorem changed_of_retire {r : Fin 4} {sr : SendRecord} {s : State} (st : RecordStatus) (hatt : sr.attention = true)
    (hev : s.eventPending .ringAttn = false) (w : Fin 32) :
    s.statusWord w.val ≠ (s.retire r sr st).statusWord w.val ↔ decide (w = 15) = true := by
  rw [decide_eq_true_iff]
  constructor
  · intro hne
    by_contra h15
    by_cases hw : w = ringWord r
    · subst hw
      rw [statusWord_ring, statusWord_ring, retire_outbound, getElem_set_slot, if_pos rfl, retired_word] at hne
      exact hne rfl
    · exact hne ((retire_sameButRing r sr st s).statusWord hw h15).symm
  · rintro rfl
    refine statusWord_events_ne ?_
    rw [retire_events, hatt, if_pos rfl]
    simpa using events_ne_of_raised hev 0

/-- A send that has no retry left fails at its timeout (R102). -/
theorem ackTimeout_of_last {r : Fin 4} {sr : SendRecord} {s : State} (hh : (s.rings.outbound[r]).head = .inFlight sr)
    (hup : s.link.state = .up) (hreached : reached s.link.count ((s.rings.outbound[r]).sentFrame + 4) = true)
    (hlast : sr.retry + 1 ≤ (s.rings.outbound[r]).sendCount) :
    s.ackTimeout r = (s.retire r sr .failed).haltOut r .failed (s.rings.outbound[r]).producerSeen := by
  unfold State.ackTimeout
  dsimp only
  rw [hh]
  dsimp only
  rw [if_pos ⟨hup, hreached⟩]
  unfold State.endSend
  exact if_neg (not_lt.2 hlast)

/-- The words of a send that fails: the events, and then its ring (R104, R105). -/
theorem due_of_failed (r : Fin 4) :
    (([15] ++ mirroredWords).filter fun w => decide (w = ringWord r ∨ w = 15)).foldl joinDue [] =
      [15, ringWord r] := by
  revert r
  decide

theorem ackTimeout_due {r : Fin 4} {sr : SendRecord} {s : State} (hready : s.path.mode = .ready)
    (hdue : s.status.due = []) (ha : (s.rings.outbound[r]).state = .active)
    (hh : (s.rings.outbound[r]).head = .inFlight sr) (hup : s.link.state = .up)
    (hreached : reached s.link.count ((s.rings.outbound[r]).sentFrame + 4) = true)
    (hlast : sr.retry + 1 ≤ (s.rings.outbound[r]).sendCount) (hatt : sr.attention = true)
    (hev : s.eventPending .ringAttn = false) :
    (mirroredIn (failOrder r) (State.ackTimeout r) s).status.due = [15, ringWord r] := by
  have hgo := ackTimeout_of_last hh hup hreached hlast
  have horder : failOrder r s (s.ackTimeout r) = [15] := by
    unfold failOrder
    rw [hh]
    have hchanged : (fun w : Fin 32 => decide (s.statusWord w.val ≠ (s.retire r sr .failed).statusWord w.val)) =
        fun w => decide (w = 15) := by
      funext w
      rw [Bool.eq_iff_iff, decide_eq_true_iff]
      exact changed_of_retire .failed hatt hev w
    show changedWords [] s (s.retire r sr .failed) = [15]
    unfold changedWords
    rw [hchanged]
    decide
  have hevents : s.status.events ≠ (s.ackTimeout r).status.events := by
    rw [hgo]
    show s.status.events ≠ (s.retire r sr .failed).status.events ||| Event.ringHalt.mask
    rw [retire_events, hatt, if_pos rfl]
    exact events_ne_of_raised hev _
  have hsame : SameButRing r s (s.ackTimeout r) :=
    hgo ▸ (retire_sameButRing r sr .failed s).trans (haltOut_sameButRing r _ _ _)
  rw [mirroredIn_due_of_changed (by simpa using hready) (by simpa using hdue)
    (changed_of_halt hsame ha (hgo ▸ haltOut_state r _ _ _) hevents), horder]
  exact due_of_failed r

/-! ### The release of a head line (R66, R68) -/

/-- Two states that differ, as far as words mirror them, in the head frame, the table and the video queue alone. -/
structure SameButRelease (s t : State) : Prop where
  mode : t.path.mode = s.path.mode
  guard : t.path.guard = s.path.guard
  hold : t.sched.hold = s.sched.hold
  rings : t.rings = s.rings
  link : t.link = s.link
  events : t.status.events = s.status.events
  enable : t.status.enable = s.status.enable
  launchLost : t.status.launchLost = s.status.launchLost
  paramTorn : t.status.paramTorn = s.status.paramTorn
  inboundFull : t.status.inboundFull = s.status.inboundFull

theorem SameButRelease.statusWord {s t : State} (h : SameButRelease s t) {w : Fin 32} (h4 : w ≠ 4) (h5 : w ≠ 5) :
    t.statusWord w.val = s.statusWord w.val := by
  have h4' : w.val ≠ 4 := fun hw => h4 (Fin.ext hw)
  have h5' : w.val ≠ 5 := fun hw => h5 (Fin.ext hw)
  generalize w.val = n at *
  unfold State.statusWord
  rw [h.mode, h.guard, h.hold, h.rings, h.link, h.events, h.enable, h.launchLost, h.paramTorn, h.inboundFull]
  dsimp only
  split
  case h_5 => exact absurd rfl h4'
  case h_6 => exact absurd rfl h5'
  all_goals rfl

/-- The word of the head frame moves with its cursor (R161, R68). -/
theorem statusWord_head_ne {s t : State} {f g : FrameRecord} (hs : s.tracker.head = some f)
    (ht : t.tracker.head = some g) (hstream : t.tracker.stream = s.tracker.stream) (hframe : g.frame = f.frame)
    (hcursor : g.cursor = f.cursor + 1) : s.statusWord 4 ≠ t.statusWord 4 := by
  intro h
  have hnat := congrArg BitVec.toNat h
  simp only [State.statusWord, hs, ht, hstream, hframe, hcursor, atBit, BitVec.toNat_ofNat] at hnat
  omega

/-- The word of the table and the queue moves when a job joins and at most one entry comes or leaves (R161). -/
theorem statusWord_tables_ne {s t : State} (hstate : t.sched.state = s.sched.state)
    (hqueue : t.sched.queue.length = s.sched.queue.length + 1)
    (hle : t.stitch.entries.length ≤ s.stitch.entries.length + 1)
    (hge : s.stitch.entries.length ≤ t.stitch.entries.length + 1) : s.statusWord 5 ≠ t.statusWord 5 := by
  intro h
  have hnat := congrArg BitVec.toNat h
  simp only [State.statusWord, hstate, hqueue, atBit, BitVec.toNat_ofNat] at hnat
  omega

/-- Of a list whose keys are distinct at most one has a given key. -/
theorem length_le_filter_succ {α β : Type} {key : α → β} {p : α → Bool} {k : β} {l : List α}
    (hnodup : (l.map key).Nodup) (hp : ∀ x ∈ l, p x = true → key x = k) :
    l.length ≤ (l.filter fun x => !p x).length + 1 := by
  have hsub : (l.filter p).map key ⊆ [k] := fun y hy => by
    obtain ⟨x, hx, rfl⟩ := List.mem_map.1 hy
    exact List.mem_singleton.2 (hp x (List.mem_of_mem_filter hx) (List.of_mem_filter hx))
  have hone : (l.filter p).length ≤ 1 := by
    have := (((List.filter_sublist (p := p) (l := l)).map key).nodup hnodup).subperm hsub |>.length_le
    simpa using this
  have hsum := List.length_eq_length_filter_add (l := l) p
  omega

/-- With nothing held no leader is classified afresh (R9). -/
theorem reclassify_of_nil {s : State} (h : s.path.hold = []) : s.reclassify = s := by
  unfold State.reclassify PathUnit.leaders
  rw [h]
  rfl

/-- With a frame on the list no drain ends (R73). -/
theorem drainTest_of_frame {s : State} {f : FrameRecord} (h : s.tracker.head = some f) : s.drainTest = s := by
  have hne : s.tracker.frames ≠ [] := fun hn => by simp [Tracker.head, hn] at h
  exact if_neg fun hd => hne hd.2.1

/-- The head frame as the release of a WHOLE line leaves it (R66, R68). -/
def FrameRecord.passedWhole (f : FrameRecord) : FrameRecord :=
  { f with cursor := f.cursor + 1, whole := f.whole + 1 }

/-- The part after the release of a WHOLE head line, before the next head line gets its entry (R66, R68). -/
def State.releasedWhole (f : FrameRecord) (e : LineEntry) (s : State) : State :=
  ((((s.count .linesWhole).appendJob f.frame f.slot (.line e.line .whole e.present (e.present.headD 0) 0)).removeLines
    f.frame f.slot f.cursor 1).updHead fun h => { h with cursor := h.cursor + 1, whole := h.whole + 1 })

/-- The frame list after a change of its head. -/
theorem updHead_head {g : FrameRecord → FrameRecord} {s : State} {f : FrameRecord} (h : s.tracker.head = some f) :
    (s.updHead g).tracker.head = some (g f) := by
  unfold Tracker.head at h ⊢
  cases hl : s.tracker.frames with
  | nil => simp [hl] at h
  | cons x rest =>
    rw [hl] at h
    cases h
    simp [State.updHead, hl]

theorem releasedWhole_head {f : FrameRecord} {s : State} (e : LineEntry) (h : s.tracker.head = some f) :
    (s.releasedWhole f e).tracker.head = some f.passedWhole := by
  refine updHead_head (f := f) ?_
  unfold Tracker.head at h ⊢
  simpa using h

/-- The release of a WHOLE head line, with nothing held and nothing waiting, and an UP link (R66, R68). -/
theorem release_of_whole {f : FrameRecord} {e : LineEntry} {s : State} (hwait : s.path.waiting = [])
    (hhold : s.path.hold = []) (hhead : s.tracker.head = some f)
    (hfind : s.stitch.find f.frame f.slot f.cursor = some e) (hwhole : e.state = .whole)
    (hline : f.cursor < s.tracker.stream.lines) (hroom : s.sched.queue.length < 16) :
    s.release = (s.releasedWhole f e).ensureHead := by
  have hsettled : f.cursor < s.tracker.stream.lines ∧ e.state.settled = true ∧ s.sched.hasRoom = true :=
    ⟨hline, by rw [hwhole]; rfl, decide_eq_true hroom⟩
  have hrelease : s.releaseHead f e = (s.releasedWhole f e).ensureHead := by
    unfold State.releaseHead
    dsimp only
    rw [hwhole]
    refine reclassify_of_nil ?_
    simpa [State.releasedWhole] using hhold
  have hhead' : (s.releasedWhole f e).ensureHead.tracker.head = some f.passedWhole := by
    simpa using releasedWhole_head e hhead
  unfold State.release
  rw [hhead]
  dsimp only
  rw [hfind]
  dsimp only
  rw [if_pos hsettled, hrelease, drainTest_of_frame hhead', takeWaiting_of_nil (by simpa [State.releasedWhole] using hwait)]

/-- A job that joins the queue while the link is UP stands at its tail (R77). -/
theorem appendJob_queue {s : State} (hup : s.link.state = .up) (frame : FrameNumber) (slot : Fin 4) (b : JobBody) :
    (s.appendJob frame slot b).sched.queue =
      s.sched.queue ++ [{ id := s.sched.nextJob, frame, slot, body := b, placing := .waiting }] := by
  unfold State.appendJob
  dsimp only
  rw [if_pos hup]
  rfl

/-- The entries after the release of one line of distinct entries: one at most left (R57, R68). -/
theorem releasedWhole_entries {f : FrameRecord} {s : State} (e : LineEntry) (hdistinct : s.EntriesDistinct) :
    s.stitch.entries.length ≤ (s.releasedWhole f e).stitch.entries.length + 1 := by
  have hkept : (s.releasedWhole f e).stitch.entries = s.stitch.entries.filter fun x =>
      !(x.frame == f.frame && x.slot == f.slot && decide (f.cursor ≤ x.line) && decide (x.line < f.cursor + 1)) := by
    unfold State.releasedWhole
    rw [(updHead_frame _ _).2.2.2.2.2.2.2.1]
    show List.filter _ _ = _
    simp
  rw [hkept]
  refine length_le_filter_succ (key := LineEntry.key) (k := (f.frame, f.slot, f.cursor)) hdistinct.1 fun x _ hx => ?_
  simp only [Bool.and_eq_true, beq_iff_eq, decide_eq_true_eq] at hx
  obtain ⟨⟨⟨hframe, hslot⟩, hle⟩, hlt⟩ := hx
  unfold LineEntry.key
  rw [hframe, hslot, le_antisymm (Nat.lt_succ_iff.1 hlt) hle]

/-- The next head line gets an entry at most (R68). -/
theorem ensureHead_entries (s : State) :
    s.stitch.entries.length ≤ s.ensureHead.stitch.entries.length ∧
      s.ensureHead.stitch.entries.length ≤ s.stitch.entries.length + 1 := by
  unfold State.ensureHead
  split
  · exact ⟨le_rfl, Nat.le_succ _⟩
  · split
    · simp [State.addEntry]
    · exact ⟨le_rfl, Nat.le_succ _⟩

theorem releasedWhole_length_le (f : FrameRecord) (e : LineEntry) (s : State) :
    (s.releasedWhole f e).stitch.entries.length ≤ s.stitch.entries.length := by
  unfold State.releasedWhole
  rw [(updHead_frame _ _).2.2.2.2.2.2.2.1]
  refine (List.length_filter_le _ _).trans (le_of_eq ?_)
  simp

theorem releasedWhole_sameButRelease (f : FrameRecord) (e : LineEntry) (s : State) :
    SameButRelease s (s.releasedWhole f e).ensureHead := by
  constructor <;> simp [State.releasedWhole]

/-- The words of a release, in the order of its rule (R66, R68). -/
theorem due_of_release :
    (([5, 4] ++ mirroredWords).filter fun w => decide (w = 4 ∨ w = 5)).foldl joinDue [] = [5, 4] := by decide

theorem release_due {f : FrameRecord} {e : LineEntry} {s : State} (hready : s.path.mode = .ready)
    (hdue : s.status.due = []) (hwait : s.path.waiting = []) (hhold : s.path.hold = [])
    (hdistinct : s.EntriesDistinct) (hup : s.link.state = .up) (hhead : s.tracker.head = some f)
    (hfind : s.stitch.find f.frame f.slot f.cursor = some e) (hwhole : e.state = .whole)
    (hline : f.cursor < s.tracker.stream.lines) (hroom : s.sched.queue.length < 16) :
    (mirroredIn releaseOrder State.release s).status.due = [5, 4] := by
  have hgo := release_of_whole hwait hhold hhead hfind hwhole hline hroom
  have hsame : SameButRelease s s.release := hgo ▸ releasedWhole_sameButRelease f e s
  have hdue' : s.release.status.due = [] := by
    rw [hgo]
    simpa [State.releasedWhole] using hdue
  have h4 : s.statusWord 4 ≠ s.release.statusWord 4 := by
    refine statusWord_head_ne (g := f.passedWhole) hhead ?_ ?_ rfl rfl
    · rw [hgo]
      simpa using releasedWhole_head e hhead
    · rw [hgo]
      simp [State.releasedWhole]
  have h5 : s.statusWord 5 ≠ s.release.statusWord 5 := by
    obtain ⟨hlow, hhigh⟩ := ensureHead_entries (s.releasedWhole f e)
    have hkept := releasedWhole_entries (f := f) e hdistinct
    have hleft := releasedWhole_length_le f e s
    refine statusWord_tables_ne ?_ ?_ ?_ ?_
    · rw [hgo]
      simp [State.releasedWhole]
    · rw [hgo]
      simp [State.releasedWhole, appendJob_queue, hup]
    · rw [hgo]; omega
    · rw [hgo]; omega
  refine (mirroredIn_due_of_changed (p := fun w => decide (w = 4 ∨ w = 5)) (hsame.mode.trans hready) hdue'
    fun w => ?_).trans due_of_release
  rw [decide_eq_true_iff]
  constructor
  · intro hne
    by_contra hno
    obtain ⟨hw4, hw5⟩ := not_or.1 hno
    exact hne (hsame.statusWord hw4 hw5).symm
  · rintro (rfl | rfl)
    · exact h4
    · exact h5

/-! ### The obligation -/

/-- Settles O52: a row notes the words of each of its changes, no turn repeats a word, and a halt, a failed send and
a release note theirs in their rule's order. -/
theorem changedWordsBecomeDueOnce : Obligations.ChangedWordsBecomeDueOnce := by
  unfold Obligations.ChangedWordsBecomeDueOnce
  refine ⟨fun c s t w h hinit hready => exec_notes hinit s t h hready w,
    step_keeps (P := State.DueDistinct) (fun m k a s => List.nodup_nil) (fun _ _ => Turn.dueDistinct) (fun s hs => ?_)
      (fun _ _ hs => hs),
    ?_, ?_, ?_⟩
  · simpa [State.DueDistinct] using hs
  · rintro r v o s hready hdue rfl ha hev hbad
    refine ⟨_, rfl, producerIndexWrite_due hready hdue ha hev ?_⟩
    rw [Bool.eq_false_iff, ne_eq, outIndexOk_iff]
    omega
  · rintro r sr o s hready hdue rfl ha hh hup hreached hlast hatt hev
    exact ⟨_, rfl, ackTimeout_due hready hdue ha hh hup hreached hlast hatt hev⟩
  · intro f e s hready hdue hwait hhold hdistinct hup hhead hfind hwhole hline hroom
    exact ⟨_, rfl, release_due hready hdue hwait hhold hdistinct hup hhead hfind hwhole hline hroom⟩

end Sys2Proof.Machine

/-!
The machine and its resets: steps, completion, power-on reset, restart and init completion.
-/

namespace Sys2Proof.Machine

/-! ### The machine (O1, O2, O4) -/

/-- Settles O1: a step takes the command at the front. -/
theorem stepRunsFrontCommand : Obligations.StepRunsFrontCommand := by
  unfold Obligations.StepRunsFrontCommand
  intro c s
  rfl

/-- A request is of the shape of section 1.1. -/
theorem wf_iff (r : Request) : r.wf = true ↔ 1 ≤ r.size ∧ r.addr.toNat % 256 + r.size ≤ 256 := by
  simp [Request.wf]

theorem wfWrite_iff (r : Request) : r.wfWrite = true ↔ r.wf = true ∧ ∃ data, r.access = .write data := by
  have hwrite : r.isWrite = true ↔ ∃ data, r.access = .write data := by
    unfold Request.isWrite
    cases r.access <;> simp
  rw [Request.wfWrite, Bool.and_eq_true, hwrite]

/-- A code that no command has is above 0x11, but for 0 (R148). -/
theorem unknownCode_eq_false_iff (code : BitVec 8) : unknownCode code = false ↔ code.toNat ≤ 17 := by
  have hzero : code = 0 ↔ code.toNat = 0 := ⟨fun h => by rw [h]; rfl, fun h => BitVec.eq_of_toNat_eq h⟩
  simp only [unknownCode, knownCode, Bool.and_eq_false_iff, decide_eq_false_iff_not, Bool.not_eq_false',
    Bool.and_eq_true, decide_eq_true_eq, ne_eq, not_not, hzero]
  omega

/-- A row that is no launch completes, but for a request of a shape that is ruled out. -/
theorem exec_completes {c : Instr} (hwf : c.wf = true) (s : State) : ∃ t, exec c s = .next t := by
  cases hlaunch : launchOf c with
  | some l =>
    obtain h | ⟨o, h⟩ := exec_launch_cases hlaunch s
    · exact ⟨s, h⟩
    · exact ⟨_, h⟩
  | none =>
    cases c
    case upstreamRequest r => exact ⟨_, if_pos hwf⟩
    case captureWrite w k r => exact ⟨_, if_pos hwf⟩
    -- The rows that answer next in every state.
    case powerOnReset | restartN | initCompletion | frameMark | release | frameEnd | linkFrameStart
        | rateChangeEffect | splitChangeEffect | parcelSent | returnWindowArrival | probeCycle | trialEnd
        | monitorBlockJudgement | linkLoss | ackTimeout | producerIndexWrite | consumerIndexWrite =>
      exact ⟨_, rfl⟩
    -- The rows that are a change under a condition, and without it leave the state.
    case holdExpiry | forwarding | ownRequestGrant | downstreamResponse | ownWriteAccepted | stitchDeadline
        | payloadFetchComplete | recordFetchResponse | parameterWordWrite | acknowledge | scheduleImageResponse
        | snapshotStep | statusWriteIssue =>
      simp only [exec, execHoldExpiry, execForwarding, execOwnRequestGrant, execDownstreamResponse,
        execOwnWriteAccepted, execStitchDeadline, execPayloadFetchComplete, execRecordFetchResponse,
        execParameterWordWrite, execAcknowledge, execScheduleImageResponse, execSnapshotStep, execStatusWriteIssue]
      (repeat' split) <;> exact ⟨_, rfl⟩
    all_goals cases hlaunch

/-- The commands that the outside cannot present. -/
theorem wf_eq_false_iff (c : Instr) : c.wf = false ↔
    (∃ r, c = .upstreamRequest r ∧ r.wf = false) ∨ (∃ w k r, c = .captureWrite w k r ∧ r.wfWrite = false) ∨
      ∃ code n tag, c = .unknownOp code n tag ∧ code.toNat ≤ 17 := by
  cases c with
  | upstreamRequest r => simp [Instr.wf]
  | captureWrite w k r => simp [Instr.wf]
  | unknownOp code n tag => simp [Instr.wf, unknownCode_eq_false_iff]
  | _ => simp [Instr.wf]

/-- Settles O2, row by row. -/
theorem wellFormedCommandsComplete : Obligations.WellFormedCommandsComplete := by
  unfold Obligations.WellFormedCommandsComplete
  exact ⟨fun c s hwf => exec_completes hwf s,
    fun r s hwf => if_neg (Bool.eq_false_iff.1 hwf), fun w k r s hwf => if_neg (Bool.eq_false_iff.1 hwf),
    wf_iff, fun r => rfl, wfWrite_iff, wf_eq_false_iff⟩

/-- Settles O4: power-on reset of any part meets every law, and the reset state is the part after one. -/
theorem resetMeetsEveryLaw : Obligations.ResetMeetsEveryLaw := by
  unfold Obligations.ResetMeetsEveryLaw
  obtain ⟨hin, hheads, hout⟩ := ringLaws_of_empty (s := State.reset) rfl
  obtain ⟨hcounts, hsplits⟩ := cleared_ranges .down false 0 (0, 0)
  exact ⟨⟨Nat.zero_le _, Nat.zero_le _⟩, fun _ => trivial, Nat.zero_le _, List.nodup_nil, Nat.zero_le _,
    entriesDistinct_of_nil rfl, fun _ => ⟨rfl, fun _ h => absurd h List.not_mem_nil, rfl, rfl, rfl⟩, hcounts, hsplits,
    ⟨fun h => absurd rfl h, rfl, rfl, rfl⟩, hin, hheads, framesOnSlots_of_nil rfl, hout⟩

/-! ### Power-on reset (O5) -/

/-- The address of the mailbox page by its strap (R3). -/
theorem mailboxPage_eq (p : Straps) : p.mailboxPage = 0xFFFFF00000 + 0x1000 * p.mbsel.toNat := by
  show 0xFFFFF00000 + p.mbsel.toNat * 0x1000 = _
  omega

/-- Nothing is held after power-on reset, with whatever waits at the port taken in (R17, R18). -/
theorem poweredOn_hold (m k : BitVec 4) (a : Bool) (s : State) : (s.poweredOn m k a).takeWaiting.path.hold = [] := by
  have hacts := takeWaiting_acts (s.poweredOn m k a)
  have hquiet : (s.poweredOn m k a).InitializingQuiet :=
    fun _ => ⟨rfl, fun _ h => absurd h List.not_mem_nil, rfl, rfl, rfl⟩
  exact (hacts.keeps (P := State.InitializingQuiet) (fun _ _ => Act.initializingQuiet) hquiet
    (hacts.settings.1.trans rfl)).1

/-- Settles O5: the port opens on the new part, and changes no block but the queues it takes into. -/
theorem powerOnResetSetsEveryBlock : Obligations.PowerOnResetSetsEveryBlock := by
  unfold Obligations.PowerOnResetSetsEveryBlock
  refine ⟨fun m k a s => ⟨_, exec_powerOnReset m k a s, ?_⟩, ?_, ?_, ?_, ?_, ?_, mailboxPage_eq, fun _ _ _ => rfl⟩
  · refine ⟨by simp [State.poweredOn, State.initial], by simp [State.poweredOn, State.initial, PathUnit.initial],
      poweredOn_hold m k a s, by simp [State.poweredOn, State.initial, PathUnit.initial],
      by simp [State.poweredOn, State.initial, PathUnit.initial],
      by simp [State.poweredOn, State.initial, PathUnit.initial], fun f hf => ?_, fun q hq => ?_,
      by simp [State.poweredOn, State.initial], by simp [State.poweredOn, State.initial],
      by simp [State.poweredOn, State.initial], by simp [State.poweredOn, State.initial],
      by simp [State.poweredOn, State.initial], by simp [State.poweredOn, State.initial],
      by simp [State.poweredOn, State.initial], by simp [State.poweredOn, State.initial, StatusUnit.empty],
      by simp [State.poweredOn, State.initial, StatusUnit.empty],
      by simp [State.poweredOn, State.initial, StatusUnit.empty],
      by simp [State.poweredOn, State.initial, StatusUnit.empty],
      by simp [State.poweredOn, State.initial, StatusUnit.empty],
      by simp [State.poweredOn, State.initial, StatusUnit.empty], fun hwait => ?_⟩
    · rw [show (s.poweredOn m k a).takeWaiting.path.forwarded = (s.poweredOn m k a).path.forwarded by simp] at hf
      obtain ⟨g, -, rfl⟩ := List.mem_map.1 hf
      rfl
    · rw [show (s.poweredOn m k a).takeWaiting.path.ownOut = (s.poweredOn m k a).path.ownOut by simp] at hq
      obtain ⟨p, -, rfl⟩ := List.mem_map.1 hq
      rfl
    · rw [takeWaiting_of_nil (s := s.poweredOn m k a) hwait]
      exact ⟨rfl, rfl, rfl, rfl⟩
  · exact ⟨fun i => by simp [RegionMap.empty], rfl, rfl, rfl, rfl, rfl, rfl, fun i => by simp [Tracker.empty]⟩
  · exact fun n m => ⟨rfl, rfl, rfl, rfl, rfl, fun i => by simp [Scheduler.empty]⟩
  · exact ⟨fun n => ⟨fun r => by simp [RingUnit.empty], fun r => by simp [RingUnit.empty], rfl⟩, rfl, rfl, rfl⟩
  · exact fun _ _ _ => rfl
  · exact ⟨rfl, rfl, fun i => ⟨by simp [Mailbox.empty], by simp [Mailbox.empty]⟩⟩

end Sys2Proof.Machine

/-!
A restart (R19, R155, R156) and init completion (R17).
-/

namespace Sys2Proof.Machine

/-! ### Counting -/

/-- Counters after a count (R169). -/
def counted (v : Vector (BitVec 32) 59) (c : Counter) (n : Nat) : Vector (BitVec 32) 59 :=
  v.set c.index (saturate v[c.index] n)

theorem countBy_counters_eq (c : Counter) (n : Nat) (s : State) :
    (s.countBy c n).status.counters = counted s.status.counters c n := rfl

theorem count_counters_eq (c : Counter) (s : State) :
    (s.count c).status.counters = counted s.status.counters c 1 := rfl

theorem getElem_counted (v : Vector (BitVec 32) 59) (c : Counter) (n : Nat) (i : Fin 59) :
    (counted v c n)[i] = if c.index = i then saturate v[i] n else v[i] := by
  unfold counted
  rw [getElem_set_slot]
  split
  · next h => subst h; rfl
  · rfl

theorem saturate_zero (v : BitVec 32) : saturate v 0 = v := by
  unfold saturate
  have := v.isLt
  apply BitVec.eq_of_toNat_eq
  split
  · simp
  · omega

theorem saturate_saturate (v : BitVec 32) (m n : Nat) : saturate (saturate v m) n = saturate v (m + n) := by
  have h1 := v.isLt
  apply BitVec.eq_of_toNat_eq
  unfold saturate
  have hmax : (0xFFFFFFFF : BitVec 32).toNat = 4294967295 := rfl
  split_ifs <;> simp only [BitVec.toNat_ofNat, hmax] at * <;> omega

/-- Two vectors of counters that agree at every index are the same. -/
theorem counters_ext {v w : Vector (BitVec 32) 59} (h : ∀ i : Fin 59, v[i] = w[i]) : v = w :=
  Vector.ext fun i hi => h ⟨i, hi⟩

theorem counted_zero (v : Vector (BitVec 32) 59) (c : Counter) : counted v c 0 = v :=
  counters_ext fun i => by rw [getElem_counted, saturate_zero, ite_self]

theorem counted_counted (v : Vector (BitVec 32) 59) (c : Counter) (m n : Nat) :
    counted (counted v c m) c n = counted v c (m + n) :=
  counters_ext fun i => by
    rw [getElem_counted, getElem_counted, getElem_counted]
    split <;> simp [saturate_saturate]

/-- Counts of two counters come in either order. -/
theorem counted_comm (v : Vector (BitVec 32) 59) {c d : Counter} (h : c.index ≠ d.index) (m n : Nat) :
    counted (counted v c m) d n = counted (counted v d n) c m :=
  counters_ext fun i => by
    simp only [getElem_counted]
    by_cases hc : c.index = i
    · have hd : d.index ≠ i := fun hd => h (hc.trans hd.symm)
      simp [hc, hd]
    · simp [hc]

/-! ### The emptying of the hold queue (R19 step 1) -/

/-- Protection reads the straps, the mode and the map. -/
theorem protection_congr {s t : State} (hs : t.straps = s.straps) (hmode : t.path.mode = s.path.mode)
    (hmap : t.map = s.map) (r : Request) : t.protection r = s.protection r := by
  unfold State.protection State.lookup
  rw [hs, hmode, hmap]

/-- A held request goes on at a restart (R19 step 1). -/
def State.goesOn (s : State) (h : Held) : Bool := decide (h.role = .leader) || (s.protection h.request).isNone

/-- What the restart does to a held request that goes on (R19 step 1). -/
theorem flushOne_of_goesOn {s : State} {h : Held} (hgo : s.goesOn h = true) :
    s.flushOne h = (s.joinPass h.request []).count .holdExpiries := by
  unfold State.flushOne
  unfold State.goesOn at hgo
  split
  · next o hrole hprot => simp [hrole, hprot] at hgo
  · rfl

/-- What the restart does to a held request that protection blocks (R19 step 1). -/
theorem flushOne_of_stays {s : State} {h : Held} (hgo : s.goesOn h = false) :
    ∃ o, s.flushOne h = s.block h.request o := by
  unfold State.goesOn at hgo
  rw [Bool.or_eq_false_iff, decide_eq_false_iff_not] at hgo
  obtain ⟨hrole, hprot⟩ := hgo
  have hfollower : h.role = .follower := by
    cases hr : h.role with
    | follower => rfl
    | leader => exact absurd hr hrole
  obtain ⟨o, ho⟩ := Option.isSome_iff_exists.1 (by simpa using hprot)
  exact ⟨o, by rw [State.flushOne, hfollower, ho]⟩

/-- The three counters of a restart, counted by what goes on and what is blocked, a write or a read (R19). -/
def flushCounted (v : Vector (BitVec 32) 59) (go blocked : List Held) : Vector (BitVec 32) 59 :=
  counted
    (counted (counted v .holdExpiries go.length) .blockedWrites (blocked.filter fun h => h.request.isWrite).length)
    .blockedReads (blocked.filter fun h => !h.request.isWrite).length

/-- A blocked request counts by its kind (R12). -/
theorem block_counters (r : Request) (o : Origin) (s : State) :
    (s.block r o).status.counters =
      counted s.status.counters (if r.isWrite then .blockedWrites else .blockedReads) 1 := by
  unfold State.block
  cases r.isWrite <;> rfl

theorem flushCounted_go (v : Vector (BitVec 32) 59) (h : Held) (go blocked : List Held) :
    flushCounted (counted v .holdExpiries 1) go blocked = flushCounted v (h :: go) blocked := by
  unfold flushCounted
  rw [counted_counted, List.length_cons, Nat.add_comm]

theorem flushCounted_blocked (v : Vector (BitVec 32) 59) (h : Held) (go blocked : List Held) :
    flushCounted (counted v (if h.request.isWrite then .blockedWrites else .blockedReads) 1) go blocked =
      flushCounted v go (h :: blocked) := by
  unfold flushCounted
  cases hw : h.request.isWrite with
  | true =>
    rw [if_pos rfl, counted_comm v (c := .blockedWrites) (d := .holdExpiries) (by decide), counted_counted]
    simp [hw, Nat.add_comm]
  | false =>
    rw [if_neg Bool.false_ne_true, counted_comm v (c := .blockedReads) (d := .holdExpiries) (by decide),
      counted_comm _ (c := .blockedReads) (d := .blockedWrites) (by decide), counted_counted]
    simp [hw, Nat.add_comm]

/-- The requests held go on untapped or are blocked, in their order (R19 step 1). -/
theorem foldl_flushOne (s : State) (l : List Held) (t : State) (hs : t.straps = s.straps)
    (hmode : t.path.mode = s.path.mode) (hmap : t.map = s.map) :
    (l.foldl (fun t h => t.flushOne h) t).path.pass =
        t.path.pass ++ (l.filter s.goesOn).map (fun h => { request := h.request, taps := [] }) ∧
      (l.foldl (fun t h => t.flushOne h) t).out =
        t.out ++ (l.filter fun h => !s.goesOn h).map (fun h => .answer h.request.initiator true []) ∧
      (l.foldl (fun t h => t.flushOne h) t).status.counters =
        flushCounted t.status.counters (l.filter s.goesOn) (l.filter fun h => !s.goesOn h) := by
  induction l generalizing t with
  | nil => simp [flushCounted, counted_zero]
  | cons h l ih =>
    obtain ⟨hpass, hout, hcount⟩ := ih (t.flushOne h) (by simpa using hs) (by simpa using hmode) (by simpa using hmap)
    have hgoes : t.goesOn h = s.goesOn h := by
      unfold State.goesOn
      rw [protection_congr hs hmode hmap]
    rw [List.foldl_cons, hpass, hout, hcount]
    cases hgo : s.goesOn h with
    | true =>
      rw [flushOne_of_goesOn (hgoes.trans hgo), count_counters_eq]
      refine ⟨by simp [hgo, joinPass_pass], by simp [hgo], ?_⟩
      show flushCounted (counted t.status.counters .holdExpiries 1) _ _ = _
      rw [flushCounted_go _ h]
      simp [hgo]
    | false =>
      obtain ⟨o, ho⟩ := flushOne_of_stays (hgoes.trans hgo)
      rw [ho, block_out, block_counters, flushCounted_blocked]
      exact ⟨by simp [hgo], by simp [hgo], by simp [hgo]⟩

/-- What goes on is what a restart flushes, and the others are blocked (R19 step 1). -/
theorem filter_goesOn (s : State) : s.path.hold.filter s.goesOn = s.flushed ∧
    (s.path.hold.filter fun h => !s.goesOn h) = s.flushBlocked := by
  refine ⟨rfl, List.filter_congr fun h _ => ?_⟩
  unfold State.goesOn
  cases h.role <;> cases s.protection h.request <;> rfl

/-- The pass queue, the outputs and the counters after the hold queue is emptied (R19 step 1). -/
theorem flushHold_facts (s : State) :
    s.flushHold.path.pass = s.path.pass ++ s.flushed.map (fun h => { request := h.request, taps := [] }) ∧
      s.flushHold.out = s.out ++ s.flushBlocked.map (fun h => .answer h.request.initiator true []) ∧
      s.flushHold.status.counters = flushCounted s.status.counters s.flushed s.flushBlocked := by
  have h := foldl_flushOne s s.path.hold (s.updPath fun p => { p with hold := [] }) rfl rfl rfl
  rw [(filter_goesOn s).1, (filter_goesOn s).2] at h
  exact h

/-! ### The restarted part -/

/-- The port appends to the pass queue alone (R1). -/
theorem takeIn_pass (r : Request) (s : State) : s.path.pass <+: (s.takeIn r).path.pass := by
  unfold State.takeIn
  split
  · exact List.prefix_rfl
  · cases s.classify r with
    | hold => exact List.prefix_rfl
    | block o => simp
    | pass taps torn => dsimp only; split <;> simp [joinPass_pass]

theorem takeWaiting_pass (s : State) : s.path.pass <+: s.takeWaiting.path.pass := by
  have hloop (n : Nat) (s : State) : s.path.pass <+: (takeLoop n s).path.pass := by
    induction n generalizing s with
    | zero => exact List.prefix_rfl
    | succ n ih =>
      cases hw : s.path.waiting with
      | nil => rw [takeLoop, hw]
      | cons r rest =>
        by_cases ho : s.path.portOpen = true
        · rw [takeLoop_succ_of_open hw ho]
          exact (takeIn_pass r (s.updPath fun p => { p with waiting := rest })).trans (ih _)
        · rw [takeLoop, hw]
          dsimp only
          rw [if_neg ho]
  exact hloop _ s

/-- A restart sets every block, from a part that has issued the writes `results` and holds the mailbox `m` (R19). -/
theorem takeRestart_restartedFrom (s : State) (results : List OwnRequest) (m : Mailbox) {u : State}
    (hu : u = { s with path := { s.path with other := s.path.other ++ results }, mbox := m }) :
    RestartedFrom s u.takeRestart results m.restarted := by
  obtain ⟨hpass, hout, hcounters⟩ := flushHold_facts u
  have hflushed : u.flushed = s.flushed ∧ u.flushBlocked = s.flushBlocked := by
    subst hu
    exact ⟨rfl, rfl⟩
  have hread (q : OwnRequest) : q.retired.isRead = q.isRead := rfl
  have hpassed : (u.restarted.issueStatus 0).path.pass = s.flushedPass := by
    show List.map _ u.flushHold.path.pass = _
    rw [hpass, List.map_append, hflushed.1, hu]
    simp [State.flushedPass]
  have houts : (u.restarted.issueStatus 0).out =
      s.out ++ s.flushBlocked.map (fun h => .answer h.request.initiator true []) := by
    show u.flushHold.out = _
    rw [hout, hflushed.2, hu]
  have hquiet : (u.restarted.issueStatus 0).takeWaiting.InitializingQuiet := by
    obtain ⟨hhold, htaps, -⟩ := restarted_queues u
    refine (takeWaiting_acts _).keeps (P := State.InitializingQuiet) (fun _ _ => Act.initializingQuiet) ?_
    exact fun _ => ⟨hhold, htaps, rfl, rfl, rfl⟩
  have hmode : u.takeRestart.path.mode = .initializing := by simp
  obtain ⟨hhold, htaps, -⟩ := hquiet hmode
  have hwaiting : s.path.waiting = [] → u.takeRestart = u.restarted.issueStatus 0 := by
    intro hw
    refine (takeRestart_eq u).trans (takeWaiting_of_nil ?_)
    show u.flushHold.path.waiting = []
    subst hu
    simpa using hw
  refine ⟨hmode, hhold, htaps, ?_, ?_, by simp, ?_, ?_, ?_, ?_, ?_, by simp, by simp, ?_, ?_, ?_, ?_, by simp,
    by simp, by simp, by simp, by simp, by simp, fun hw => ?_⟩
  · obtain ⟨more, hmore⟩ := takeWaiting_pass (u.restarted.issueStatus 0)
    exact ⟨more, by rw [takeRestart_eq, ← hmore, hpassed]⟩
  · obtain ⟨more, hmore⟩ := (takeWaiting_acts (u.restarted.issueStatus 0)).outside.2.2.2
    exact ⟨more, by rw [takeRestart_eq, ← hmore, houts]⟩
  · intro q hq
    simp only [takeRestart_blocks, List.mem_map, List.mem_filter] at hq
    obtain ⟨p, ⟨-, hp⟩, rfl⟩ := hq
    rw [hread]
    simpa using hp
  · intro q hq
    simp only [takeRestart_blocks, List.mem_map] at hq
    obtain ⟨p, -, rfl⟩ := hq
    rfl
  · subst hu; simp
  · intro i
    subst hu
    simp [RegionMap.restarted]
  · simp [RegionMap.restarted]
  · subst hu; simp
  · subst hu; simp
  · subst hu; simp [LinkUnit.restarted]
  · subst hu; simp
  · rw [hwaiting hw]
    refine ⟨rfl, rfl, hpassed, houts, ?_⟩
    show u.flushHold.status.counters = _
    rw [hcounters, hflushed.1, hflushed.2, hu]
    rfl

/-- A step that ends INITIALIZING notes no change (R162). -/
theorem mirroredIn_initializing {o : WordOrder} {f : State → State} {s : State}
    (h : (f s).path.mode = .initializing) : mirroredIn o f s = f s := noteChanges_initializing _ _ _ h

/-- The running command's end: its writes, and the command state IDLE (R152). -/
theorem finish_of_running {s : State} {c : CommandTag} (hrun : s.mbox.running = some c) (e : ErrorCode)
    (d : List Word) :
    s.finish e d =
      { s with
        path := { s.path with other := s.path.other ++ finalWrites s c.code c.tag e d }
        mbox := { s.mbox with running := none } } := by
  unfold State.finish
  rw [hrun]
  simp [State.issueData, State.issueResult, State.issueWrite, State.updPath, State.updMbox, finalWrites,
    resultDataWrite, resultWordWrite]

/-! ### The obligations -/

/-- A pin restart restarts every block, with the result of the aborted command (R156). -/
theorem pinRestart_restartedFrom (s : State) :
    RestartedFrom s s.pinRestart
      (match s.mbox.running with
       | none => []
       | some c =>
         if c.code = Command.restart.code then []
         else [resultWordWrite s .failed c.code c.tag .aborted false])
      (match s.mbox.running with
       | none => Mailbox.empty
       | some c =>
         if c.code = Command.restart.code then
           { Mailbox.empty with running := some c, abortNote := s.mbox.abortNote }
         else Mailbox.empty) := by
  have hsame := takeRestart_restartedFrom s [] s.mbox (u := s) (by simp)
  unfold State.pinRestart
  unfold Mailbox.restarted at hsame
  cases hrun : s.mbox.running with
  | none =>
    rw [hrun] at hsame
    exact hsame
  | some c =>
    rw [hrun] at hsame
    dsimp only at hsame ⊢
    by_cases hc : c.code = Command.restart.code
    · rw [if_pos hc] at hsame
      rwa [if_pos hc, if_pos hc, if_pos hc]
    · have habort := takeRestart_restartedFrom s [resultWordWrite s .failed c.code c.tag .aborted false] s.mbox
        (u := s.abort c) rfl
      unfold Mailbox.restarted at habort
      rw [hrun] at habort
      dsimp only at habort
      rw [if_neg hc] at habort
      rwa [if_neg hc, if_neg hc, if_neg hc]

/-- A taken RESTART restarts every block, with the results of the aborted command and of its own launch (R155). -/
theorem launchRestart_restartedFrom (tag : BitVec 8) (s : State) :
    RestartedFrom s (s.launchRestart tag)
      ((match s.mbox.running with
        | none => []
        | some c => [resultWordWrite s .failed c.code c.tag .aborted false]) ++ [runningWrite s .restart tag])
      { Mailbox.empty with
        running := some { code := Command.restart.code, tag }, abortNote := s.mbox.running } := by
  unfold State.launchRestart
  cases hrun : s.mbox.running with
  | none =>
    exact takeRestart_restartedFrom s _
      { s.mbox with running := some { code := Command.restart.code, tag }, abortNote := none }
      (by simp [State.issueResult, State.issueWrite, State.updPath, State.updMbox, runningWrite, resultWordWrite, hrun])
  | some r =>
    exact takeRestart_restartedFrom s _
      { s.mbox with running := some { code := Command.restart.code, tag }, abortNote := some r }
      (by simp [State.abort, State.issueResult, State.issueWrite, State.updPath, State.updMbox, runningWrite,
        resultWordWrite, hrun])

/-- Settles O6, by the state just before the restart: what its results add to the own requests. -/
theorem restartSetsEveryBlock : Obligations.RestartSetsEveryBlock := by
  refine ⟨fun s => ⟨s.pinRestart, ?_, pinRestart_restartedFrom s⟩, fun tag s hmode => ?_, fun _ => rfl⟩
  · exact congrArg _ (mirroredIn_initializing (pinRestart_restartedFrom s).1)
  · cases hrun : s.mbox.running with
    | none =>
      have hstate := launch_restart_of_idle hmode hrun tag
      have hall := launchRestart_restartedFrom tag s.staleAll
      have hstale : s.staleAll.mbox.running = none := hrun
      rw [hstale] at hall
      refine ⟨s.staleAll.launchRestart tag, ?_, hall⟩
      exact congrArg _ ((mirroredIn_initializing (by rw [hstate]; exact hall.1)).trans hstate)
    | some r =>
      have hstate := launch_restart_of_running hmode hrun tag
      have hall := launchRestart_restartedFrom tag s
      rw [hrun] at hall
      refine ⟨s.launchRestart tag, ?_, hall⟩
      exact congrArg _ ((mirroredIn_initializing (by rw [hstate]; exact hall.1)).trans hstate)

/-- Settles O7, by whether a RESTART is running. -/
theorem initCompletionWritesStatusBlock : Obligations.InitCompletionWritesStatusBlock := by
  intro s hmode
  refine ⟨s.initDone, rfl, ?_⟩
  unfold State.initDone
  rw [hmode]
  dsimp only
  cases hrest : s.isRunning .restart with
  | false =>
    have hready : (s.updPath fun p => { p with mode := .ready }).isRunning .restart = false := hrest
    rw [hready, if_neg Bool.false_ne_true]
    refine ⟨?_, nofun, fun _ => rfl, by simp, by simp, by simp, rfl⟩
    cases hrun : s.mbox.running with
    | none =>
      dsimp only
      rw [List.append_nil]
      rfl
    | some c =>
      have hc : c.code ≠ Command.restart.code := fun hc => by
        simp [(isRunning_iff s .restart).2 ⟨c, hrun, hc⟩] at hrest
      dsimp only
      rw [if_neg hc, List.append_nil]
      rfl
  | true =>
    obtain ⟨c, hrun, hc⟩ := (isRunning_iff s .restart).1 hrest
    have hready : (s.updPath fun p => { p with mode := .ready }).isRunning .restart = true := hrest
    rw [hready, if_pos rfl, hrun]
    dsimp only
    rw [if_pos hc]
    rw [finish_of_running (s := s.updPath fun p => { p with mode := .ready }) hrun]
    refine ⟨?_, fun _ => rfl, nofun, by simp, by simp, by simp, rfl⟩
    rfl

end Sys2Proof.Machine

/-!
Classification (R2 to R6, R17, R21, R22, R50) and the request taken at the port (R1).
-/

namespace Sys2Proof.Machine

/-! ### Words and areas -/

theorem overlaps_iff (a n lo hi : Nat) : overlaps a n lo hi = true ↔ a < hi ∧ lo < a + n := by
  simp [overlaps]

/-- The touched words ascend and are the aligned words that share a byte with the access (R6). -/
theorem touchedWords_facts (a n : Nat) (hn : 0 < n) :
    (touchedWords a n).Pairwise (· < ·) ∧
      ∀ w, w ∈ touchedWords a n ↔ w % 8 = 0 ∧ w < a + n ∧ a < w + 8 := by
  unfold touchedWords
  refine ⟨?_, fun w => ?_⟩
  · rw [List.pairwise_map]
    exact List.pairwise_lt_range.imp fun h => by omega
  · simp only [List.mem_map, List.mem_range]
    constructor
    · rintro ⟨i, hi, rfl⟩
      omega
    · rintro ⟨hw, hlt, hle⟩
      exact ⟨w / 8 - a / 8, by omega, by omega⟩

/-- Every control word is on the list of control words (R3). -/
theorem mem_controlWords (w : ControlWord) : w ∈ controlWords := by
  cases w with
  | param i => revert i; decide
  | launch => decide
  | acknowledge => decide

/-- The control entries of a write are those of the words it touches (R4). -/
theorem control_mem_controlTaps (page a : Nat) (data : List Byte) (w : ControlWord) (v : Option Word) :
    .control w v ∈ controlTaps page a data ↔
      (a < page + w.offset + 8 ∧ page + w.offset < a + data.length) ∧ v = coveredWord a data (page + w.offset) := by
  unfold controlTaps
  rw [List.mem_filterMap]
  dsimp only
  constructor
  · rintro ⟨u, -, hu⟩
    split at hu
    · next ho =>
      obtain ⟨rfl, rfl⟩ : u = w ∧ coveredWord a data (page + u.offset) = v := by simpa using hu
      exact ⟨(overlaps_iff _ _ _ _).1 ho, rfl⟩
    · exact absurd hu nofun
  · rintro ⟨ho, rfl⟩
    exact ⟨w, mem_controlWords w, if_pos ((overlaps_iff _ _ _ _).2 ho)⟩

/-- The entries of a mailbox write are control entries, in ascending address order (R4). -/
theorem controlTaps_ascending (page a : Nat) (data : List Byte) :
    (∀ x ∈ controlTaps page a data, ∃ w v, x = .control w v) ∧
      (controlTaps page a data).Pairwise (fun x y =>
        ∀ w v w' v', x = .control w v → y = .control w' v' → w.offset < w'.offset) := by
  have hentry {w : ControlWord} {x : Tap}
      (h : (if overlaps a data.length (page + w.offset) (page + w.offset + 8) then
        some (Tap.control w (coveredWord a data (page + w.offset))) else none) = some x) :
      x = .control w (coveredWord a data (page + w.offset)) := by
    split at h
    · exact (Option.some.inj h).symm
    · exact absurd h nofun
  refine ⟨fun x hx => ?_, ?_⟩
  · obtain ⟨w, -, hw⟩ := List.mem_filterMap.1 hx
    exact ⟨w, _, hentry hw⟩
  · have hsorted : controlWords.Pairwise (fun w w' => w.offset < w'.offset) := by decide
    refine hsorted.filterMap _ fun w w' hlt x hx y hy u v u' v' hu hu' => ?_
    obtain ⟨rfl, -⟩ : w = u ∧ _ := by simpa [hentry hx] using hu
    obtain ⟨rfl, -⟩ : w' = u' ∧ _ := by simpa [hentry hy] using hu'
    exact hlt

/-- The watch words: the stream's mark word, and the words of the bound rings (R6). -/
theorem mem_watchWords (a : Nat) (s : State) : a ∈ s.watchWords ↔
    (s.tracker.stream.state ≠ .closed ∧ a = s.tracker.stream.markWord) ∨
    (∃ r : Fin 4, (s.rings.outbound[r]).state ≠ .unbound ∧ (s.rings.outbound[r]).producerWord = some a) ∨
    (∃ r : Fin 2, (s.rings.inbound[r]).state ≠ .unbound ∧ (s.rings.inbound[r]).consumerWord = some a) := by
  have hring {α : Type} {n : Nat} (v : Vector α n) (p : α → Bool) (f : α → Option Nat) :
      a ∈ (v.toList.filter p).flatMap (fun o => (f o).toList) ↔ ∃ r : Fin n, p v[r] = true ∧ f v[r] = some a := by
    simp only [List.mem_flatMap, List.mem_filter, Vector.mem_toList_iff, Option.mem_toList]
    constructor
    · rintro ⟨o, ⟨ho, hp⟩, hf⟩
      obtain ⟨i, hi, rfl⟩ := Vector.getElem_of_mem ho
      exact ⟨⟨i, hi⟩, hp, hf⟩
    · rintro ⟨r, hp, hf⟩
      exact ⟨v[r], ⟨Vector.getElem_mem r.isLt, hp⟩, hf⟩
  unfold State.watchWords
  rw [List.mem_append, List.mem_append, hring, hring, or_assoc]
  simp only [decide_eq_true_eq]
  refine or_congr_left ?_
  unfold Stream.isOpen
  by_cases hc : s.tracker.stream.state = .closed <;> simp [hc]

/-- The lookup takes the valid entry of lowest index that contains the address (R21). -/
theorem lookup_eq_some_iff (a : Nat) (i : Fin 32) (s : State) : s.lookup a = some i ↔
    ((s.map.windows[i]).kind ≠ .free ∧ (s.map.windows[i]).base ≤ a ∧
      a < (s.map.windows[i]).base + (s.map.windows[i]).size ∧
      (s.path.mode = .initializing → (s.map.windows[i]).locked = true)) ∧
    ∀ j : Fin 32, j < i →
      ¬ ((s.map.windows[j]).kind ≠ .free ∧ (s.map.windows[j]).base ≤ a ∧
        a < (s.map.windows[j]).base + (s.map.windows[j]).size ∧
        (s.path.mode = .initializing → (s.map.windows[j]).locked = true)) := by
  have hhit (w : Window) :
      (w.valid && w.contains a && (decide (s.path.mode = .ready) || w.locked)) = true ↔
        w.kind ≠ .free ∧ w.base ≤ a ∧ a < w.base + w.size ∧ (s.path.mode = .initializing → w.locked = true) := by
    unfold Window.valid Window.contains
    cases s.path.mode <;> simp [and_assoc]
  unfold State.lookup
  rw [firstFrom_eq_some_iff]
  simp only [← hhit, Nat.zero_le, true_and, forall_const, Bool.not_eq_true]

/-- The segment position of a window: its first place in an open stream's list (R21). -/
theorem position_eq_some_iff (t : Stream) (w : Fin 32) (k : Fin 6) : t.position w = some k ↔
    t.state ≠ .closed ∧ t.windows[k.val]? = some w ∧ ∀ j : Nat, j < k.val → t.windows[j]? ≠ some w := by
  have hfirst (n : Nat) : t.windows.findIdx? (fun v => v == w) = some n ↔
      t.windows[n]? = some w ∧ ∀ j : Nat, j < n → t.windows[j]? ≠ some w := by
    rw [List.findIdx?_eq_some_iff_getElem]
    constructor
    · rintro ⟨hn, hw, hbefore⟩
      refine ⟨by simpa [List.getElem?_eq_getElem hn] using hw, fun j hj hjw => ?_⟩
      have := hbefore j hj
      rw [List.getElem?_eq_getElem (by omega)] at hjw
      simp_all
    · rintro ⟨hw, hbefore⟩
      obtain ⟨hn, hval⟩ := List.getElem?_eq_some_iff.1 hw
      refine ⟨hn, by simpa using hval, fun j hj => ?_⟩
      have := hbefore j hj
      rw [List.getElem?_eq_getElem (by omega)] at this
      simpa using this
  unfold Stream.position
  by_cases hc : t.state = .closed
  · simp [hc]
  · rw [if_neg hc, ← hfirst]
    simp only [ne_eq, hc, not_false_eq_true, true_and]
    cases t.windows.findIdx? (fun v => v == w) with
    | none => simp
    | some n =>
      dsimp only
      split
      · simp [Fin.ext_iff]
      · simp; omega

/-- The hold question (R50, R56). -/
theorem mustHold_iff (t : Tracker) (w : Window) (a : Addr) :
    t.mustHold w a = true ↔
      t.stream.state ≠ .closed ∧
        ∃ (f : FrameNumber) (slot : Fin 4) (line b i : Nat), t.mapWrite w a = .line f slot line b ∧
          t.indexOf f slot = some i ∧ (48 : Int) ≤ t.position i line ∧ 0 < t.stream.holdLimit := by
  unfold Tracker.mustHold Stream.isOpen
  rw [Bool.and_eq_true, decide_eq_true_eq]
  refine and_congr_right fun _ => ?_
  cases t.mapWrite w a with
  | stray => simp
  | unframed => simp
  | line f slot line b =>
    unfold Tracker.holdAnswer
    cases hi : t.indexOf f slot with
    | none => simp [hi]
    | some i =>
      simp only [Bool.and_eq_true, decide_eq_true_eq, Mapped.line.injEq, hi]
      constructor
      · rintro ⟨hpos, hlimit⟩
        exact ⟨f, slot, line, b, i, ⟨rfl, rfl, rfl, rfl⟩, hi, hpos, hlimit⟩
      · rintro ⟨_, _, _, _, j, ⟨rfl, rfl, rfl, rfl⟩, hj, hpos, hlimit⟩
        obtain rfl : i = j := Option.some.inj (hi.symm.trans hj)
        exact ⟨hpos, hlimit⟩

/-! ### Protection and classification -/

/-- What goes on to the watch word step carries the entries of the words covered whole (R6). -/
theorem watchStep_eq (s : State) (taps : List Tap) (a : Nat) (data : List Byte) :
    s.watchStep taps a data = .pass (taps ++ s.watchEntries a data) (s.watchTorn a data) := by
  unfold State.watchStep State.watchTouched State.watchEntries State.watchTorn
  simp [List.filterMap_map, List.filter_map, Function.comp_def]

/-- Protection inside the mailbox page while READY (R3). -/
theorem protection_mailbox {s : State} {r : Request} (hmode : s.path.mode = .ready) (hid : r.initiator ≠ 15)
    (hin : inMailbox s.straps.mailboxPage r.addr.toNat = true) :
    s.protection r =
      if r.isWrite && (touchesPartWritten s.straps.mailboxPage r.addr.toNat r.size ||
          (touchesControl s.straps.mailboxPage r.addr.toNat r.size && decide (r.initiator ≠ s.straps.ctlid))) then
        some .mailbox
      else none := by
  unfold State.protection
  rw [if_neg hid, if_pos ⟨hmode, hin⟩]

/-- Protection by the map (R5, R17, R22). -/
theorem protection_map {s : State} {r : Request} (hid : r.initiator ≠ 15)
    (hout : s.path.mode = .ready → inMailbox s.straps.mailboxPage r.addr.toNat = false) :
    s.protection r =
      match s.lookup r.addr.toNat with
      | none => none
      | some i => if (s.map.windows[i]).permits r then none else some (.window i) := by
  exact (if_neg hid).trans (if_neg fun h => Bool.false_ne_true ((hout h.1).symm.trans h.2))

theorem classify_of_protection_some {s : State} {r : Request} {o : Origin} (h : s.protection r = some o) :
    s.classify r = .block o := (classify_eq_block_iff s r o).2 h

/-- A read that protection permits passes untapped (R6). -/
theorem classify_read {s : State} {r : Request} {n : Nat} (h : s.protection r = none) (hr : r.access = .read n) :
    s.classify r = .pass [] 0 := by
  unfold State.classify
  rw [h, hr]
  cases s.path.mode <;> rfl

theorem classify_initializing_pass {s : State} {r : Request} (h : s.protection r = none)
    (hmode : s.path.mode = .initializing) : s.classify r = .pass [] 0 := by
  unfold State.classify
  rw [h, hmode]

/-- A permitted write of the mailbox page (R4). -/
theorem classify_write_mailbox {s : State} {r : Request} {data : List Byte} (h : s.protection r = none)
    (hmode : s.path.mode = .ready) (hr : r.access = .write data)
    (hin : inMailbox s.straps.mailboxPage r.addr.toNat = true) :
    s.classify r =
      .pass (controlTaps s.straps.mailboxPage r.addr.toNat data ++ s.watchEntries r.addr.toNat data)
        (s.watchTorn r.addr.toNat data) := by
  unfold State.classify
  rw [h, hmode, hr]
  dsimp only
  rw [if_pos hin, watchStep_eq]

/-- A permitted write outside the mailbox page and outside every window (R22). -/
theorem classify_write_none {s : State} {r : Request} {data : List Byte} (h : s.protection r = none)
    (hmode : s.path.mode = .ready) (hr : r.access = .write data)
    (hout : inMailbox s.straps.mailboxPage r.addr.toNat = false) (hl : s.lookup r.addr.toNat = none) :
    s.classify r = .pass (s.watchEntries r.addr.toNat data) (s.watchTorn r.addr.toNat data) := by
  unfold State.classify
  rw [h, hmode, hr]
  dsimp only
  rw [if_neg (by simp [hout]), hl]
  exact watchStep_eq s [] _ _

/-- A permitted write in a window (R5, R50). -/
theorem classify_write_window {s : State} {r : Request} {data : List Byte} {i : Fin 32} (h : s.protection r = none)
    (hmode : s.path.mode = .ready) (hr : r.access = .write data)
    (hout : inMailbox s.straps.mailboxPage r.addr.toNat = false) (hl : s.lookup r.addr.toNat = some i) :
    s.classify r =
      match (s.map.windows[i]).kind, s.tracker.stream.position i with
      | .capture, some k =>
        if s.tracker.mustHold s.map.windows[i] r.addr then .hold
        else .pass (.capture i k :: s.watchEntries r.addr.toNat data) (s.watchTorn r.addr.toNat data)
      | _, _ => .pass (s.watchEntries r.addr.toNat data) (s.watchTorn r.addr.toNat data) := by
  unfold State.classify
  rw [h, hmode, hr]
  dsimp only
  rw [if_neg (by simp [hout]), hl]
  simp only [watchStep_eq]
  rfl

/-- Inside the mailbox page classification is by the areas written (R3, R4). -/
theorem classify_mailbox (r : Request) (s : State) (hmode : s.path.mode = .ready) (hid : r.initiator ≠ 15)
    (hin : inMailbox s.straps.mailboxPage r.addr.toNat = true) :
    match r.access with
    | .read _ => s.classify r = .pass [] 0
    | .write data =>
      if touchesPartWritten s.straps.mailboxPage r.addr.toNat data.length = true ∨
          (touchesControl s.straps.mailboxPage r.addr.toNat data.length = true ∧ r.initiator ≠ s.straps.ctlid) then
        s.classify r = .block .mailbox
      else
        s.classify r =
          .pass (controlTaps s.straps.mailboxPage r.addr.toNat data ++ s.watchEntries r.addr.toNat data)
            (s.watchTorn r.addr.toNat data) := by
  have hprot := protection_mailbox hmode hid hin
  cases hr : r.access with
  | read n => exact classify_read (by rw [hprot]; simp [Request.isWrite, hr]) hr
  | write data =>
    dsimp only
    have hsize : r.size = data.length := by simp [Request.size, hr]
    have hwrite : r.isWrite = true := by simp [Request.isWrite, hr]
    rw [hsize, hwrite] at hprot
    simp only [Bool.true_and, Bool.or_eq_true, Bool.and_eq_true, decide_eq_true_eq] at hprot
    split
    · next h => exact classify_of_protection_some (hprot.trans (if_pos h))
    · next h => exact classify_write_mailbox (hprot.trans (if_neg h)) hmode hr hin

/-- Outside the mailbox page classification is by the map (R5, R22, R50). -/
theorem classify_map (r : Request) (s : State) (hmode : s.path.mode = .ready) (hid : r.initiator ≠ 15)
    (hout : inMailbox s.straps.mailboxPage r.addr.toNat = false) :
    match s.lookup r.addr.toNat with
    | none =>
      s.classify r =
        (match r.access with
         | .read _ => .pass [] 0
         | .write data => .pass (s.watchEntries r.addr.toNat data) (s.watchTorn r.addr.toNat data))
    | some i =>
      if (s.map.windows[i]).permits r = false then s.classify r = .block (.window i)
      else
        match r.access, (s.map.windows[i]).kind, s.tracker.stream.position i with
        | .read _, _, _ => s.classify r = .pass [] 0
        | .write data, .capture, some k =>
          if s.tracker.mustHold s.map.windows[i] r.addr = true then s.classify r = .hold
          else
            s.classify r =
              .pass (.capture i k :: s.watchEntries r.addr.toNat data) (s.watchTorn r.addr.toNat data)
        | .write data, _, _ =>
          s.classify r = .pass (s.watchEntries r.addr.toNat data) (s.watchTorn r.addr.toNat data) := by
  have hprot := protection_map (s := s) hid fun _ => hout
  cases hl : s.lookup r.addr.toNat with
  | none =>
    rw [hl] at hprot
    cases hr : r.access with
    | read n => exact classify_read hprot hr
    | write data => exact classify_write_none hprot hmode hr hout hl
  | some i =>
    rw [hl] at hprot
    dsimp only at hprot ⊢
    cases hperm : (s.map.windows[i]).permits r with
    | false =>
      rw [if_pos rfl]
      exact classify_of_protection_some (hprot.trans (if_neg fun h => Bool.false_ne_true (hperm.symm.trans h)))
    | true =>
      rw [if_neg (by simp)]
      have hnone : s.protection r = none := hprot.trans (if_pos hperm)
      cases hr : r.access with
      | read n => exact classify_read hnone hr
      | write data =>
        have hclass := classify_write_window hnone hmode hr hout hl
        cases hk : (s.map.windows[i]).kind with
        | free | guard => rw [hk] at hclass; exact hclass
        | capture =>
          cases hpos : s.tracker.stream.position i with
          | none => rw [hk, hpos] at hclass; exact hclass
          | some k =>
            rw [hk, hpos] at hclass
            dsimp only at hclass ⊢
            split
            · next hm => rw [if_pos hm] at hclass; exact hclass
            · next hm => rw [if_neg hm] at hclass; exact hclass

/-- While INITIALIZING classification is by the locked windows alone (R17, R21). -/
theorem classify_initializing_eq (r : Request) (s : State) (hmode : s.path.mode = .initializing)
    (hid : r.initiator ≠ 15) :
    s.classify r =
      match s.lookup r.addr.toNat with
      | none => .pass [] 0
      | some i => if (s.map.windows[i]).permits r = true then .pass [] 0 else .block (.window i) := by
  have hprot := protection_map (s := s) (r := r) hid fun h => by simp [hmode] at h
  cases hl : s.lookup r.addr.toNat with
  | none =>
    rw [hl] at hprot
    exact classify_initializing_pass hprot hmode
  | some i =>
    rw [hl] at hprot
    dsimp only at hprot ⊢
    split
    · next hperm => exact classify_initializing_pass (hprot.trans (if_pos hperm)) hmode
    · next hperm => exact classify_of_protection_some (hprot.trans (if_neg hperm))

/-! ### Obligations -/

/-- Settles O9, from the lemmas about the lookup, the tap entries and protection. -/
theorem classificationByMailboxAndMap : Obligations.ClassificationByMailboxAndMap := by
  refine ⟨classify_mailbox, classify_map, mem_watchWords, touchedWords_facts, ⟨?_, controlTaps_ascending,
    fun _ => rfl, rfl, rfl⟩, lookup_eq_some_iff, classify_initializing_eq, mustHold_iff, ⟨?_, ?_, ?_, ?_,
    position_eq_some_iff⟩, fun r o s => (classify_eq_block_iff s r o).symm, fun _ _ _ => rfl⟩
  · intro page a data w v
    rw [control_mem_controlTaps, and_assoc]
    rfl
  · intro p a
    simp [inMailbox, mailboxPage_eq]
  · intro page a n
    simp [touchesPartWritten, overlaps_iff, or_assoc]
  · intro page a n
    simp [touchesControl, overlaps_iff]
  · intro w r
    unfold Window.permits inSet
    split <;> rfl

end Sys2Proof.Machine

/-!
The request taken at the port (R1), the expiry of a held request (R10).
-/

namespace Sys2Proof.Machine

/-! ### A step and its due list -/

/-- A step's status is its operation's but for the due list (R162). -/
theorem mirroredIn_status (o : WordOrder) (f : State → State) (s : State) :
    (mirroredIn o f s).status = { (f s).status with due := (mirroredIn o f s).status.due } := by
  obtain ⟨due, h⟩ := noteChanges_eq (o s (f s)) s (f s)
  unfold mirroredIn
  rw [h]

/-- A step is its operation with another due list (R162). -/
theorem mirroredIn_eq_withDue (o : WordOrder) (f : State → State) (s : State) :
    ∃ due, mirroredIn o f s = (f s).withDue due := noteChanges_eq (o s (f s)) s (f s)

/-! ### The port -/

/-- A closed port takes nothing (R1). -/
theorem takeWaiting_of_closed {s : State} (h : s.path.portOpen = false) : s.takeWaiting = s := by
  unfold State.takeWaiting
  cases hw : s.path.waiting with
  | nil => rfl
  | cons r rest =>
    rw [List.length_cons, takeLoop, hw]
    dsimp only
    rw [if_neg (by simp [h])]

theorem holds_iff (p : PathUnit) (i : BitVec 4) : p.holds i = true ↔ ∃ h ∈ p.hold, h.request.initiator = i := by
  simp [PathUnit.holds]

theorem portOpen_iff (p : PathUnit) : p.portOpen = true ↔ p.hold.length < 8 ∧ p.pass.length < 4 := by
  unfold PathUnit.portOpen
  rw [Bool.and_eq_true, decide_eq_true_eq, decide_eq_true_eq]
  rfl

/-- What a block does (R12, R16). -/
theorem block_eq (r : Request) (o : Origin) (s : State) :
    s.block r o =
      { s with
        path :=
          { s.path with
            guard := some
              (s.path.guard.getD { addr := r.addr, initiator := r.initiator, isWrite := r.isWrite, origin := o }) }
        status :=
          { s.status with
            events := s.status.events ||| Event.guard.mask
            counters := (s.count (if r.isWrite then .blockedWrites else .blockedReads)).status.counters }
        out := s.out ++ [.answer r.initiator true []] } := by
  have hpath := block_path r o s
  have hout := block_out r o s
  have hstatus : (s.block r o).status =
      { s.status with
        events := s.status.events ||| Event.guard.mask
        counters := (s.count (if r.isWrite then .blockedWrites else .blockedReads)).status.counters } := by
    unfold State.block
    cases r.isWrite <;> rfl
  have hrest : s.block r o =
      { s with path := (s.block r o).path, status := (s.block r o).status, out := (s.block r o).out } := by
    unfold State.block
    cases r.isWrite <;> rfl
  rw [hpath, hout, hstatus] at hrest
  exact hrest

/-- A request of an initiator with one in the hold queue follows it (R7). -/
theorem takeIn_of_holds {s : State} {r : Request} (h : s.path.holds r.initiator = true) :
    s.takeIn r = s.joinHold r .follower := if_pos h

/-- A request that classification passes joins the pass queue (R1, R17). -/
theorem takeIn_of_classify_pass {s : State} {r : Request} {taps : List Tap} {torn : Nat}
    (hfree : s.path.holds r.initiator = false) (hc : s.classify r = .pass taps torn) :
    s.takeIn r =
      if s.path.mode = .initializing then ((s.countBy .watchTornWords torn).joinPass r taps).count .initPasses
      else (s.countBy .watchTornWords torn).joinPass r taps := by
  unfold State.takeIn
  rw [hfree, hc]
  rfl

/-- A request that classification holds leads its chain (R7). -/
theorem takeIn_of_classify_hold {s : State} {r : Request} (hfree : s.path.holds r.initiator = false)
    (hc : s.classify r = .hold) : s.takeIn r = s.joinHold r .leader := by
  unfold State.takeIn
  rw [hfree, hc]
  rfl

/-- Settles O10: the port is closed, or takes the request as its verdict says. -/
theorem upstreamRequestTaken : Obligations.UpstreamRequestTaken := by
  refine ⟨fun r s hwf hport => ?_, fun p => ⟨portOpen_iff p, holds_iff p⟩⟩
  cases hopen : s.path.portOpen with
  | false =>
    have hclosed : (s.updPath fun p => { p with waiting := p.waiting ++ [r] }).takeWaiting =
        s.updPath fun p => { p with waiting := p.waiting ++ [r] } := takeWaiting_of_closed hopen
    refine ⟨_, if_pos hwf, ?_⟩
    obtain ⟨due, hdue⟩ := mirroredIn_eq_withDue ascending
      (fun t => (t.updPath fun p => { p with waiting := p.waiting ++ [r] }).takeWaiting) s
    rw [hdue, hclosed, if_pos rfl]
    exact ⟨by simp [State.withDue], by simp [State.withDue], rfl, rfl, rfl, rfl, rfl⟩
  | true =>
    have hwait : s.path.waiting = [] := by simpa [hopen] using hport
    refine ⟨_, exec_upstreamRequest_of_open hwf hwait hopen, ?_⟩
    rw [if_neg (by simp)]
    refine ⟨by simp, by simp, by simp, by simp, ?_⟩
    obtain ⟨due, hdue⟩ := mirroredIn_eq_withDue ascending (State.takeIn r) s
    rw [hdue]
    cases hholds : s.path.holds r.initiator with
    | true =>
      rw [takeIn_of_holds hholds, if_pos rfl]
      exact ⟨rfl, rfl, rfl⟩
    | false =>
      rw [if_neg Bool.false_ne_true]
      cases hc : s.classify r with
      | pass taps torn =>
        rw [takeIn_of_classify_pass hholds hc]
        dsimp only
        split <;> exact ⟨rfl, rfl, rfl⟩
      | hold =>
        rw [takeIn_of_classify_hold hholds hc]
        exact ⟨rfl, rfl, rfl⟩
      | block o =>
        rw [takeIn_of_classify_block hholds hc, block_eq]
        exact ⟨rfl, rfl, rfl⟩

end Sys2Proof.Machine

/-!
The expiry of a held request and the work on its chain (R9, R10).
-/

namespace Sys2Proof.Machine

/-! ### Leaving and promotion -/

/-- Without the one element that a test accepts, a list is what the test rejects. -/
theorem eraseP_eq_filter_not {α : Type} {p : α → Bool} {l : List α} {x : α} (h : l.filter p = [x]) :
    l.eraseP p = l.filter (fun a => !p a) := by
  induction l with
  | nil => rfl
  | cons a l ih =>
    cases ha : p a with
    | true =>
      rw [List.filter_cons_of_pos ha] at h
      have hnone : l.filter p = [] := List.tail_eq_of_cons_eq h
      rw [List.eraseP_cons_of_pos ha, List.filter_cons_of_neg (by simp [ha])]
      exact (List.filter_eq_self.2 fun b hb => by simpa using List.filter_eq_nil_iff.1 hnone b hb).symm
    | false =>
      rw [List.filter_cons_of_neg (by simp [ha])] at h
      rw [List.eraseP_cons_of_neg (by simp [ha]), List.filter_cons_of_pos (by simp [ha]), ih h]

/-- The oldest request of an initiator is the first of its own (R9). -/
theorem leaveHold_promote_at {i : BitVec 4} {h : Held} {earlier later : List Held} {s : State}
    (hhold : s.path.hold = earlier ++ h :: later) (hi : h.request.initiator = i)
    (hearlier : ∀ x ∈ earlier, x.request.initiator ≠ i) :
    s.leaveHold i = { s with path := { s.path with hold := earlier ++ later } } ∧
      s.promote i =
        { s with path := { s.path with hold := earlier ++ { h with role := .leader } :: later } } := by
  have hleave : s.path.hold.eraseP (fun x => x.request.initiator == i) = earlier ++ later := by
    rw [hhold, List.eraseP_append_right _ fun x hx => by simpa using hearlier x hx,
      List.eraseP_cons_of_pos (by simp [hi])]
  have hfirst (l : List Held) (hl : ∀ x ∈ l, x.request.initiator ≠ i) :
      promoteFirst i (l ++ h :: later) = l ++ { h with role := .leader } :: later := by
    induction l with
    | nil => exact if_pos hi
    | cons x l ih =>
      rw [List.cons_append, promoteFirst, if_neg (hl x List.mem_cons_self),
        ih fun y hy => hl y (List.mem_cons_of_mem x hy)]
      rfl
  constructor
  · rw [← hleave]; rfl
  · rw [← hfirst earlier hearlier, ← hhold]; rfl

/-! ### The work on a chain -/

/-- With no request left there is no work (R9). -/
theorem workChain_of_none {i : BitVec 4} {s : State} (ho : s.path.oldest i = none) : s.workChain i = s := by
  unfold State.workChain
  cases s.path.hold.length with
  | zero => rfl
  | succ n => rw [chainLoop, ho]

/-- The work on the chain takes the oldest request as its verdict says, and goes on (R9, R10). -/
theorem workChain_of_some {i : BitVec 4} {h : Held} {s : State} (ho : s.path.oldest i = some h) :
    match s.classify h.request with
    | .hold =>
      if reached s.link.count h.deadline = true then s.workChain i = (s.expire h).workChain i
      else s.workChain i = s.promote i
    | .pass taps torn =>
      s.workChain i =
        (((s.leaveHold i).countBy .watchTornWords torn).joinPass h.request taps).workChain i
    | .block o => s.workChain i = ((s.leaveHold i).block h.request o).workChain i := by
  have hlength := length_leave ho
  obtain ⟨n, hn⟩ : ∃ n, s.path.hold.length = n + 1 :=
    ⟨_, (Nat.succ_pred_eq_of_pos (List.length_pos_of_mem (List.mem_of_find?_eq_some ho))).symm⟩
  have hfuel {t : State} (ht : t.path.hold = s.path.hold.eraseP fun x => x.request.initiator == i) :
      chainLoop n i t = t.workChain i := by
    have hlen : t.path.hold.length = n := by rw [ht]; omega
    rw [State.workChain, hlen]
  have hloop : s.workChain i = chainLoop (n + 1) i s := by rw [State.workChain, hn]
  rw [chainLoop, ho] at hloop
  dsimp only at hloop
  cases hc : s.classify h.request with
  | pass taps torn =>
    rw [hc] at hloop
    exact hloop.trans (hfuel rfl)
  | block o =>
    rw [hc] at hloop
    exact hloop.trans (hfuel (by simp [leaveHold_hold]))
  | hold =>
    rw [hc] at hloop
    dsimp only at hloop ⊢
    split
    · next hr =>
      rw [if_pos hr] at hloop
      exact hloop.trans (hfuel (by rw [expire_hold, oldest_initiator ho]))
    · next hr => exact hloop.trans (if_neg hr)

/-- The work on a chain appends to the pass queue alone. -/
theorem workChain_pass (i : BitVec 4) (s : State) : s.path.pass <+: (s.workChain i).path.pass := by
  have hloop (n : Nat) (s : State) : s.path.pass <+: (chainLoop n i s).path.pass := by
    induction n generalizing s with
    | zero => exact List.prefix_rfl
    | succ n ih =>
      rw [chainLoop]
      cases s.path.oldest i with
      | none => exact List.prefix_rfl
      | some h =>
        dsimp only
        cases s.classify h.request with
        | hold =>
          dsimp only
          split
          · exact (List.prefix_append _ _).trans (ih (s.expire h))
          · exact List.prefix_rfl
        | pass taps torn =>
          exact (List.prefix_append _ _).trans
            (ih (((s.leaveHold i).countBy .watchTornWords torn).joinPass h.request taps))
        | block o =>
          have hblock : s.path.pass <+: ((s.leaveHold i).block h.request o).path.pass := by simp
          exact hblock.trans (ih _)
  exact hloop _ s

/-! ### The expiry -/

/-- HOLD_EXPIRY of a leader whose deadline is reached (R10). -/
theorem exec_holdExpiry {i : BitVec 4} {h : Held} {s : State} (ho : s.path.oldest i = some h)
    (hrole : h.role = .leader) (hreached : reached s.link.count h.deadline = true) :
    exec (.holdExpiry i) s =
      .next (mirroredIn ascending (fun t => ((t.expire h).workChain i).takeWaiting) s) := by
  show Sys2Proof.Machine.execHoldExpiry i s = _
  unfold execHoldExpiry
  rw [ho]
  exact if_pos ⟨hrole, hreached⟩

/-- Settles O11, by the expiry's equation and those of the work on a chain. -/
theorem holdExpiryForwardsUntapped : Obligations.HoldExpiryForwardsUntapped := by
  refine ⟨fun i h s ho hrole hreached => ?_, fun i h s hwait hone hrole hreached => ?_,
    fun i h s hwait ho hrole hreached => ?_, fun i s => workChain_of_none, fun i h s => workChain_of_some,
    fun c d => by simp [reached], fun p i => rfl, fun i h earlier later s => leaveHold_promote_at,
    fun r taps s => rfl, fun h s => rfl, block_eq⟩
  · have hpass : (s.expire h).path.pass <+: ((s.expire h).workChain i).takeWaiting.path.pass :=
      (workChain_pass i _).trans (takeWaiting_pass _)
    obtain ⟨more, hmore⟩ := hpass
    refine ⟨_, more, exec_holdExpiry ho hrole hreached, ?_, by simp, by simp, by simp, by simp⟩
    rw [mirroredIn_path, ← hmore, expire_pass, List.append_assoc]
    rfl
  · have ho : s.path.oldest i = some h := by
      rw [oldest_eq_head?]
      exact congrArg List.head? hone
    have hi := oldest_initiator ho
    have hhold : (s.expire h).path.hold = s.path.hold.filter (fun x => x.request.initiator != i) := by
      rw [expire_hold, hi]
      exact eraseP_eq_filter_not hone
    have hdone : (s.expire h).workChain i = s.expire h := by
      refine workChain_of_none ?_
      rw [PathUnit.oldest, hhold, List.find?_filter]
      simp
    have hwait' : (s.expire h).path.waiting = [] := by simpa using hwait
    refine ⟨_, exec_holdExpiry ho hrole hreached, ?_⟩
    obtain ⟨due, hdue⟩ := mirroredIn_eq_withDue ascending (fun t => ((t.expire h).workChain i).takeWaiting) s
    rw [hdue, hdone, takeWaiting_of_nil hwait', ← hhold]
    exact ⟨rfl, rfl, by simp [State.withDue], by simp [State.withDue], by simp [State.withDue], rfl⟩
  · have hwait' : ((s.expire h).workChain i).path.waiting = [] := by simpa using hwait
    obtain ⟨due, hdue⟩ := mirroredIn_eq_withDue ascending (fun t => ((t.expire h).workChain i).takeWaiting) s
    refine ⟨due, ?_⟩
    rw [exec_holdExpiry ho hrole hreached, hdue, takeWaiting_of_nil hwait']
    rfl

end Sys2Proof.Machine

/-!
The responses to forwarded requests and own writes (R12, R15, R62).
-/

namespace Sys2Proof.Machine

/-! ### Taking the element at a place -/

/-- What is taken is the element with `k` before it that satisfy the test. -/
theorem takeNth_eq_some_iff {α : Type} (p : α → Bool) (k : Nat) (l : List α) (x : α) (rest : List α) :
    takeNth p k l = some (x, rest) ↔
      ∃ before after, l = before ++ x :: after ∧ rest = before ++ after ∧ p x = true ∧
        (before.filter p).length = k := by
  induction l generalizing k rest with
  | nil => simp [takeNth]
  | cons a l ih =>
    have hskip (n m : Nat) (hfilter : ∀ before : List α, ((a :: before).filter p).length = m ↔
        (before.filter p).length = n) (hfirst : m = 0 → p a = false) :
        (takeNth p n l).map (fun r => (r.1, a :: r.2)) = some (x, rest) ↔
          ∃ before after, a :: l = before ++ x :: after ∧ rest = before ++ after ∧ p x = true ∧
            (before.filter p).length = m := by
      rw [Option.map_eq_some_iff]
      constructor
      · rintro ⟨⟨y, r⟩, hy, hxr⟩
        obtain ⟨rfl, rfl⟩ := Prod.mk.inj hxr
        obtain ⟨before, after, rfl, rfl, hp, hcount⟩ := (ih n r).1 hy
        exact ⟨a :: before, after, rfl, rfl, hp, (hfilter before).2 hcount⟩
      · rintro ⟨before, after, hl, rfl, hp, hcount⟩
        cases before with
        | nil =>
          obtain ⟨rfl, rfl⟩ := List.cons.inj hl
          rw [hfirst hcount.symm] at hp
          exact absurd hp Bool.false_ne_true
        | cons b before =>
          obtain ⟨rfl, rfl⟩ := List.cons.inj hl
          exact ⟨(x, before ++ after), (ih n _).2 ⟨before, after, rfl, rfl, hp, (hfilter before).1 hcount⟩, rfl⟩
    unfold takeNth
    cases ha : p a with
    | false =>
      rw [if_neg Bool.false_ne_true]
      exact hskip k k (fun before => by rw [List.filter_cons_of_neg (by simp [ha])]) fun _ => ha
    | true =>
      rw [if_pos rfl]
      cases k with
      | zero =>
        dsimp only
        constructor
        · intro h
          obtain ⟨rfl, rfl⟩ := Prod.mk.inj (Option.some.inj h)
          exact ⟨[], l, rfl, rfl, ha, rfl⟩
        · rintro ⟨before, after, hl, rfl, hp, hcount⟩
          cases before with
          | nil =>
            obtain ⟨rfl, rfl⟩ := List.cons.inj hl
            rfl
          | cons b before =>
            obtain ⟨rfl, rfl⟩ := List.cons.inj hl
            simp [ha] at hcount
      | succ k =>
        exact hskip k (k + 1) (fun before => by rw [List.filter_cons_of_pos ha]; simp) nofun

/-! ### Damage -/

/-- An entry whose segments are `gs` after a damage: judged again if settled, else settled once every segment
ended (R62, R63). -/
def LineEntry.damaged (e : LineEntry) (gs : List Segment) : LineEntry :=
  { e with
    segments := gs
    deadline := if e.state.settled = false ∧ gs.all Segment.ended = true then none else e.deadline
    state :=
      if e.state.settled then
        if e.state = .absent then .absent else if gs.any Segment.isFull then .torn else .absent
      else if gs.all Segment.ended then
        if gs.all Segment.isFull then .whole else if gs.any Segment.isFull then .torn else .absent
      else e.state }

/-- The damaged entry is the one that `damage` puts (R62, R63). -/
theorem damaged_eq (e : LineEntry) (gs : List Segment) :
    (if e.state.settled then ({ e with segments := gs } : LineEntry).rejudge
      else ({ e with segments := gs } : LineEntry).settle) = e.damaged gs := by
  unfold LineEntry.damaged
  cases hsettled : e.state.settled with
  | true =>
    obtain ⟨id, frame, slot, line, st, deadline, segments⟩ := e
    unfold LineEntry.rejudge
    cases st with
    | openState | live => exact absurd hsettled Bool.false_ne_true
    | whole | torn | absent => simp
  | false =>
    unfold LineEntry.settle settledState
    dsimp only
    cases gs.all Segment.ended <;> simp

/-- An ERROR on a write that was applied (R62). -/
theorem damage_of_find {s : State} {a : Applied} {e : LineEntry}
    (he : s.stitch.entries.find? (fun x => x.id == a.entry) = some e)
    (hd : (e.segment a.position).state ≠ .damaged) :
    s.damage a =
      (s.count (.damagedSegments a.position)).putEntry
        (e.damaged (e.segments.set a.position.val { e.segment a.position with state := .damaged })) := by
  unfold State.damage
  rw [he]
  dsimp only
  rw [if_neg hd, ← damaged_eq]

theorem damage_of_none {s : State} {a : Applied}
    (he : s.stitch.entries.find? (fun x => x.id == a.entry) = none) : s.damage a = s := by
  unfold State.damage
  rw [he]

theorem damage_of_damaged {s : State} {a : Applied} {e : LineEntry}
    (he : s.stitch.entries.find? (fun x => x.id == a.entry) = some e)
    (hd : (e.segment a.position).state = .damaged) : s.damage a = s := by
  unfold State.damage
  rw [he]
  exact if_pos hd

/-! ### The response -/

/-- The answer to a request that no segment waits for, or without ERROR (R12). -/
theorem answered_plain {f : Forwarded} {error : Bool} (hf : f.discard = false)
    (hplain : f.applied = none ∨ error = false) (data : List Byte) (s : State) :
    s.answered f error data =
      s.emit (.answer f.request.initiator error (if f.request.isWrite || error then [] else data)) := by
  unfold State.answered
  rw [if_neg (by simp [hf])]
  obtain h | rfl := hplain
  · rw [h]
  · cases f.applied <;> rfl

/-- The answer ERROR to a capture write that was applied (R12, R62). -/
theorem answered_applied {f : Forwarded} {a : Applied} (hf : f.discard = false) (happlied : f.applied = some a)
    (data : List Byte) (s : State) :
    s.answered f true data = (s.emit (.answer f.request.initiator true [])).damage a := by
  unfold State.answered
  rw [if_neg (by simp [hf]), happlied, Bool.or_true]
  rfl

/-- DOWNSTREAM_RESPONSE to the outstanding request at a place (R12). -/
theorem exec_downstreamResponse {k : Nat} {s : State} {f : Forwarded} {rest : List Forwarded}
    (h : takeNth (fun _ => true) k s.path.forwarded = some (f, rest)) (error : Bool) (data : List Byte) :
    exec (.downstreamResponse k error data) s =
      .next (mirroredIn ascending
        (fun t => (t.updPath fun p => { p with forwarded := rest }).answered f error data) s) := by
  show Sys2Proof.Machine.execDownstreamResponse k error data s = _
  unfold execDownstreamResponse
  rw [h]
  rfl

/-- Settles O13, by the answer and, for an ERROR on an applied write, the entry and its segment. -/
theorem responseReturnedAndErrorDamages : Obligations.ResponseReturnedAndErrorDamages := by
  intro k error data f rest s htake hf
  refine ⟨_, exec_downstreamResponse htake error data, ?_⟩
  obtain ⟨due, hdue⟩ := mirroredIn_eq_withDue ascending
    (fun t => (t.updPath fun p => { p with forwarded := rest }).answered f error data) s
  rw [hdue]
  cases error with
  | false =>
    rw [answered_plain hf (.inr rfl)]
    exact ⟨rfl, rfl, rfl, rfl, ⟨rfl, rfl, rfl⟩, rfl, rfl, rfl, rfl⟩
  | true =>
    rw [Bool.or_true, if_pos rfl, if_neg (nofun : ¬ (true = false))]
    cases happlied : f.applied with
    | none =>
      rw [answered_plain hf (.inl happlied), Bool.or_true]
      exact ⟨rfl, rfl, rfl, rfl, ⟨rfl, rfl, rfl⟩, rfl, rfl, rfl, rfl⟩
    | some a =>
      rw [answered_applied hf happlied]
      dsimp only
      cases he : s.stitch.entries.find? (fun x => x.id == a.entry) with
      | none =>
        rw [damage_of_none (by exact he)]
        exact ⟨rfl, rfl, rfl, rfl, ⟨rfl, rfl, rfl⟩, rfl, rfl, rfl, rfl⟩
      | some e =>
        dsimp only
        split
        · next hd =>
          rw [damage_of_damaged (by exact he) hd]
          exact ⟨rfl, rfl, rfl, rfl, ⟨rfl, rfl, rfl⟩, rfl, rfl, rfl, rfl⟩
        · next hd =>
          rw [damage_of_find (by exact he) hd]
          exact ⟨rfl, rfl, rfl, rfl, ⟨rfl, rfl, rfl⟩, rfl, rfl, rfl, rfl⟩

/-! ### The acceptance of an own write -/

/-- The landing that a write belongs to counts it, and ends with its last write (R112, R115). -/
theorem landingAccepted_landing {r : Fin 2} {serial left : Nat} {ack : Option Bool} {s : State}
    (h : (s.rings.inbound[r]).landing = .inProgress serial left ack) :
    (s.landingAccepted r serial).rings.inbound[r] =
      if left ≤ 1 then
        { s.rings.inbound[r] with
          landing := .idle
          toSend :=
            match (generalizing := false) ack with
            | some toggle => .ack toggle
            | none => (s.rings.inbound[r]).toSend }
      else { s.rings.inbound[r] with landing := .inProgress serial (left - 1) ack } := by
  show (s.rings.inbound.set r _)[r] = _
  rw [getElem_set_slot, if_pos rfl]
  dsimp only
  rw [h]
  exact if_neg (not_not.2 rfl)

/-- One buffer of the return binding changes, and the other stays. -/
theorem updBuffer_buffer (sel : Bool) (f : ReturnBuffer → ReturnBuffer) (b : ReturnBinding) :
    (b.updBuffer sel f).buffer sel = f (b.buffer sel) ∧ (b.updBuffer sel f).buffer (!sel) = b.buffer (!sel) := by
  cases sel <;> exact ⟨rfl, rfl⟩

theorem updBuffer_doneWord (sel : Bool) (f : ReturnBuffer → ReturnBuffer) (b : ReturnBinding) :
    (b.updBuffer sel f).doneWord = b.doneWord := by
  cases sel <;> rfl

/-- The done word of a buffer that is due and complete is written (R118). -/
theorem doneTest_of_due {s : State} {sel : Bool} {frame : BitVec 16} {lines a : Nat}
    (hdue : (s.rings.ret.buffer sel).due = some (frame, lines)) (ha : s.rings.ret.doneWord = some a)
    (hleft : (s.rings.ret.buffer sel).left = 0) :
    (s.doneTest sel).rings.ret = s.rings.ret.updBuffer sel (fun b => { b with due := none }) ∧
      (s.doneTest sel).path.other = s.path.other ++ [s.doneWrite sel frame lines a] := by
  unfold State.doneTest
  dsimp only
  rw [hdue, ha]
  dsimp only
  rw [if_pos hleft]
  have hvalue : flag sel + atBit 16 frame.toNat + atBit 32 (s.linesField lines) =
      flag sel + 65536 * frame.toNat + 4294967296 * s.linesField lines := by
    unfold atBit
    omega
  rw [hvalue]
  split <;> exact ⟨rfl, rfl⟩

/-- Nothing is written while no done word is due or a landing write is outstanding (R118). -/
theorem doneTest_of_not {s : State} {sel : Bool}
    (h : (s.rings.ret.buffer sel).due = none ∨ s.rings.ret.doneWord = none ∨
      (s.rings.ret.buffer sel).left ≠ 0) : s.doneTest sel = s := by
  unfold State.doneTest
  dsimp only
  split
  · next frame lines a hdue ha =>
    simp only [hdue, ha, reduceCtorEq, false_or] at h
    exact if_neg h
  · rfl

/-- The acceptance of a return landing write (R117, R118). -/
theorem returnAccepted_facts (sel : Bool) (serial : Nat) (s : State) :
    if s.rings.ret.bound = true ∧ s.rings.ret.serial = serial then
      (s.returnAccepted sel serial).rings.ret.buffer (!sel) = s.rings.ret.buffer (!sel) ∧
        match (s.rings.ret.buffer sel).due, s.rings.ret.doneWord with
        | some (frame, lines), some a =>
          if (s.rings.ret.buffer sel).left ≤ 1 then
            (s.returnAccepted sel serial).rings.ret.buffer sel =
                { s.rings.ret.buffer sel with left := 0, due := none } ∧
              (s.returnAccepted sel serial).path.other = s.path.other ++ [s.doneWrite sel frame lines a]
          else
            (s.returnAccepted sel serial).rings.ret.buffer sel =
                { s.rings.ret.buffer sel with left := (s.rings.ret.buffer sel).left - 1 } ∧
              (s.returnAccepted sel serial).path.other = s.path.other
        | _, _ =>
          (s.returnAccepted sel serial).rings.ret.buffer sel =
              { s.rings.ret.buffer sel with left := (s.rings.ret.buffer sel).left - 1 } ∧
            (s.returnAccepted sel serial).path.other = s.path.other
    else (s.returnAccepted sel serial).rings.ret = s.rings.ret ∧
      (s.returnAccepted sel serial).path.other = s.path.other := by
  split
  case isFalse h =>
    rw [State.returnAccepted, if_neg h]
    exact ⟨rfl, rfl⟩
  case isTrue h =>
    obtain ⟨hself, hother⟩ := updBuffer_buffer sel (fun b => { b with left := b.left - 1 }) s.rings.ret
    have hword := updBuffer_doneWord sel (fun b => { b with left := b.left - 1 }) s.rings.ret
    rw [State.returnAccepted, if_pos h]
    generalize hu : s.updRet (·.updBuffer sel fun b => { b with left := b.left - 1 }) = u
    have hret : u.rings.ret = s.rings.ret.updBuffer sel (fun b => { b with left := b.left - 1 }) := by rw [← hu]; rfl
    have hpath : u.path = s.path := by rw [← hu]; rfl
    have hwrite (frame : BitVec 16) (lines a : Nat) : u.doneWrite sel frame lines a = s.doneWrite sel frame lines a := by
      rw [← hu]; rfl
    rw [← hret] at hself hother hword
    have hstays (hn : (u.rings.ret.buffer sel).due = none ∨ u.rings.ret.doneWord = none ∨
          (u.rings.ret.buffer sel).left ≠ 0) :
        (u.doneTest sel).rings.ret.buffer (!sel) = s.rings.ret.buffer (!sel) ∧
        (u.doneTest sel).rings.ret.buffer sel =
            { s.rings.ret.buffer sel with left := (s.rings.ret.buffer sel).left - 1 } ∧
          (u.doneTest sel).path.other = s.path.other := by
      rw [doneTest_of_not hn, hpath]
      exact ⟨hother, hself, rfl⟩
    cases hdue : (s.rings.ret.buffer sel).due with
    | none => exact hstays (.inl (by rw [hself]; exact hdue))
    | some d =>
      obtain ⟨frame, lines⟩ := d
      cases ha : s.rings.ret.doneWord with
      | none => exact hstays (.inr (.inl (hword.trans ha)))
      | some a =>
        dsimp only
        split
        case isFalse hleft =>
          refine hstays (.inr (.inr ?_))
          rw [hself]
          dsimp only
          omega
        case isTrue hleft =>
          have hzero : (s.rings.ret.buffer sel).left - 1 = 0 := by omega
          obtain ⟨hafter, hwrites⟩ := doneTest_of_due (s := u) (sel := sel) (by rw [hself]; exact hdue)
            (hword.trans ha) (by rw [hself]; exact hzero)
          obtain ⟨hself', hother'⟩ := updBuffer_buffer sel (fun b => { b with due := none }) u.rings.ret
          rw [hafter, hwrites, hself', hother', hself, hother, hpath, hwrite, hzero]
          exact ⟨rfl, rfl, rfl⟩

/-- The acceptance of a snapshot write (R171). -/
theorem snapshotAccepted_facts {s : State} {n : Snapshot} (h : s.status.snapshot = some n) :
    if n.next = 59 ∧ n.left ≤ 1 then
      s.snapshotAccepted.status.snapshot = none ∧
        ∀ tag, s.mbox.running = some { code := Command.snapshotCounters.code, tag } →
          s.snapshotAccepted.mbox = { s.mbox with running := none } ∧
            s.snapshotAccepted.path.other =
              s.path.other ++ finalWrites s Command.snapshotCounters.code tag .noError s.mbox.staging.toList
    else
      s.snapshotAccepted.status.snapshot = some { n with left := n.left - 1 } ∧ s.snapshotAccepted.mbox = s.mbox ∧
        s.snapshotAccepted.path.other = s.path.other := by
  unfold State.snapshotAccepted
  rw [h]
  dsimp only
  split
  case isTrue hlast =>
    rw [if_pos ⟨hlast.1, by omega⟩]
    refine ⟨by simp, fun tag hrun => ?_⟩
    have hruns : (s.updStatus fun u => { u with snapshot := none }).isRunning .snapshotCounters = true :=
      (isRunning_iff _ _).2 ⟨_, hrun, rfl⟩
    rw [State.finishIf, if_pos hruns,
      finish_of_running (s := s.updStatus fun u => { u with snapshot := none }) hrun]
    exact ⟨rfl, rfl⟩
  case isFalse hmore =>
    rw [if_neg fun hn => hmore ⟨hn.1, by omega⟩]
    exact ⟨rfl, rfl, rfl⟩

/-- What the acceptance of a write leaves unless it belongs to it. -/
theorem writeAccepted_others (o : Owner) (s : State) :
    ((∀ r n, o ≠ .landing r n) → (s.writeAccepted o).rings.inbound = s.rings.inbound) ∧
      ((∀ b n, o ≠ .returnLanding b n) → (s.writeAccepted o).rings.ret = s.rings.ret) ∧
      (o ≠ .snapshot → (s.writeAccepted o).mbox = s.mbox ∧
        (s.writeAccepted o).status.snapshot = s.status.snapshot) := by
  unfold State.writeAccepted
  cases o with
  | landing r n => exact ⟨fun h => absurd rfl (h r n), by simp, by simp⟩
  | returnLanding b n => exact ⟨by simp, fun h => absurd rfl (h b n), by simp⟩
  | resultWord raises => cases raises <;> exact ⟨fun _ => rfl, fun _ => rfl, fun _ => ⟨rfl, rfl⟩⟩
  | snapshot => exact ⟨by simp, by simp, fun h => absurd rfl h⟩
  | _ => exact ⟨fun _ => rfl, fun _ => rfl, fun _ => ⟨rfl, rfl⟩⟩

/-- The acceptance of a write lowers no event, and that of a final result word raises CMD_DONE (R15). -/
theorem writeAccepted_events (o : Owner) (s : State) :
    (s.writeAccepted o).status.events = s.status.events ∨ s.writeAccepted o = s.raise .cmdDone := by
  unfold State.writeAccepted
  cases o with
  | resultWord raises =>
    cases raises with
    | false => exact .inl rfl
    | true => exact .inr rfl
  | landing | returnLanding | snapshot => exact .inl (by simp)
  | _ => exact .inl rfl

/-- A pending event stays pending when another is raised (R163). -/
theorem eventPending_raise {e f : Event} {s : State} (h : s.eventPending e = true) :
    (s.raise f).eventPending e = true := by
  have hne : s.status.events &&& e.mask ≠ 0 := by simpa [State.eventPending] using h
  rw [State.eventPending, raise_events, decide_eq_true_eq]
  intro hzero
  refine hne (BitVec.eq_of_getLsbD_eq fun i hi => ?_)
  have hbit := congrArg (fun m => m.getLsbD i) hzero
  simp only [BitVec.getLsbD_and, BitVec.getLsbD_or] at hbit ⊢
  revert hbit
  cases s.status.events.getLsbD i <;> cases e.mask.getLsbD i <;> simp

/-- OWN_WRITE_ACCEPTED for the outstanding write at a place (R15). -/
theorem exec_ownWriteAccepted {k : Nat} {s : State} {q : OwnRequest} {rest : List OwnRequest}
    (h : takeNth (fun x => !x.isRead) k s.path.ownOut = some (q, rest)) (error : Bool) :
    exec (.ownWriteAccepted k error) s =
      .next (mirroredIn ascending
        (fun t => (t.updPath fun p => { p with ownOut := rest }).ownAnswered q error) s) := by
  show Sys2Proof.Machine.execOwnWriteAccepted k error s = _
  unfold execOwnWriteAccepted
  rw [h]
  rfl

/-- The state in which a live write's acceptance is handed to its block: MEMERR raised on ERROR (R15). -/
def State.responded (rest : List OwnRequest) (error : Bool) (s : State) : State :=
  if error then (s.updPath fun p => { p with ownOut := rest }).raise .memErr
  else s.updPath fun p => { p with ownOut := rest }

theorem responded_eq (rest : List OwnRequest) (error : Bool) (s : State) :
    ∃ events, s.responded rest error =
      { s with path := { s.path with ownOut := rest }, status := { s.status with events } } := by
  unfold State.responded
  cases error <;> exact ⟨_, rfl⟩

/-- Settles O14, by the block that the accepted write belongs to. -/
theorem ownWriteAcceptanceActs : Obligations.OwnWriteAcceptanceActs := by
  refine ⟨fun k error q rest s htake hdead => ?_, fun k error q rest s htake hlive => ?_,
    fun α p => takeNth_eq_some_iff p, fun q => ?_⟩
  · refine ⟨_, exec_ownWriteAccepted htake error, ?_⟩
    obtain ⟨due, hdue⟩ := mirroredIn_eq_withDue ascending
      (fun t => (t.updPath fun p => { p with ownOut := rest }).ownAnswered q error) s
    rw [hdue, State.ownAnswered, if_neg (by simp [hdead])]
    exact ⟨rfl, ⟨rfl, rfl, rfl⟩, ⟨rfl, rfl, rfl⟩, ⟨rfl, rfl, rfl, rfl⟩, rfl, rfl⟩
  · refine ⟨_, exec_ownWriteAccepted htake error, ?_⟩
    obtain ⟨due, hdue⟩ := mirroredIn_eq_withDue ascending
      (fun t => (t.updPath fun p => { p with ownOut := rest }).ownAnswered q error) s
    have hanswer : (s.updPath fun p => { p with ownOut := rest }).ownAnswered q error =
        (s.responded rest error).writeAccepted q.owner := by
      rw [State.ownAnswered, if_pos hlive]
      rfl
    rw [hdue, hanswer]
    have hmem : error = true → (s.responded rest error).eventPending .memErr = true := by
      rintro rfl
      exact raise_eventPending .memErr _
    obtain ⟨events, hu⟩ := responded_eq rest error s
    generalize s.responded rest error = u at hu hmem
    obtain ⟨hinbound, hret, hmbox⟩ := writeAccepted_others q.owner u
    have hrings : u.rings = s.rings := by rw [hu]
    have hpath : u.path.other = s.path.other := by rw [hu]
    have hbox : u.mbox = s.mbox ∧ u.status.snapshot = s.status.snapshot := by rw [hu]; exact ⟨rfl, rfl⟩
    rw [hrings] at hinbound hret
    rw [hbox.1, hbox.2] at hmbox
    refine ⟨?_, ?_, ?_, ?_, ?_, ?_, ?_, fun he => ?_, fun ho => ?_, hinbound, hret, hmbox,
      fun r serial left ack ho hland => ?_, fun sel serial ho => ?_, fun n ho hsnap => ?_⟩
    iterate 7 simp [State.withDue, hu]
    · obtain hsame | hraise := writeAccepted_events q.owner u
      · have := hmem he
        simpa [State.eventPending, State.withDue, hsame] using this
      · rw [hraise]
        exact eventPending_raise (hmem he)
    · rw [ho]
      exact raise_eventPending .cmdDone u
    · rw [ho, ← hpath, ← hrings] at *
      refine ⟨?_, landingAccepted_landing hland⟩
      exact congrArg PathUnit.other (landingAccepted_frame r serial u).2.2.1
    · have hfacts := returnAccepted_facts sel serial u
      have hwrite (frame : BitVec 16) (lines a : Nat) :
          u.doneWrite sel frame lines a = s.doneWrite sel frame lines a := by
        rw [hu]; rfl
      rw [hrings, hpath] at hfacts
      simp only [hwrite] at hfacts
      rw [ho]
      exact hfacts
    · have hfacts := snapshotAccepted_facts (hbox.2.trans hsnap)
      have hwrites (tag : BitVec 8) (data : List Word) :
          finalWrites u Command.snapshotCounters.code tag .noError data =
            finalWrites s Command.snapshotCounters.code tag .noError data := by
        rw [hu]; rfl
      rw [hbox.1, hpath] at hfacts
      simp only [hwrites] at hfacts
      rw [ho]
      exact hfacts
  · unfold OwnRequest.isRead
    cases q.access <;> simp

end Sys2Proof.Machine

/-!
The arbiter's grants (R14), the forwarding of a request and its tap set (R4, R11).
-/

namespace Sys2Proof.Machine

/-! ### Nothing waiting stays so -/

theorem takeRestart_waiting {s : State} (h : s.path.waiting = []) : s.takeRestart.path.waiting = [] := by
  have hw : (s.restarted.issueStatus 0).path.waiting = [] := by
    show s.flushHold.path.waiting = []
    simpa using h
  rw [takeRestart_eq, takeWaiting_of_nil hw, hw]

theorem launchRestart_waiting {tag : BitVec 8} {s : State} (h : s.path.waiting = []) :
    (s.launchRestart tag).path.waiting = [] := by
  unfold State.launchRestart
  dsimp only
  refine takeRestart_waiting ?_
  split <;> simpa [State.abort] using h

theorem failed_waiting (c : Command) (p : Params) (s : State) : (c.failed p s).path.waiting = s.path.waiting := by
  unfold Command.failed
  cases c <;> simp

theorem launch_waiting {code : BitVec 8} {n : BitVec 4} {tag : BitVec 8} {s : State} (h : s.path.waiting = []) :
    (s.launch code n tag).path.waiting = [] := by
  unfold State.launch
  split
  · exact h
  · split
    · split
      · exact launchRestart_waiting h
      · exact h
    · unfold State.judge
      dsimp only
      split
      · simpa using h
      · split
        · simpa using h
        · split
          · simpa using h
          · split
            · simpa [failed_waiting] using h
            · split
              · exact launchRestart_waiting h
              all_goals simpa using h

theorem runTap_waiting {r : Request} {tap : Tap} {s : State} (h : s.path.waiting = []) :
    (s.runTap r tap).path.waiting = [] := by
  unfold State.runTap
  split
  · simpa using h
  · exact launch_waiting h
  · exact h
  · simpa using h
  · exact h
  · simpa using h
  · simpa using h

theorem runTaps_waiting (r : Request) (taps : List Tap) {s : State} (h : s.path.waiting = []) :
    (runTaps r taps s).path.waiting = [] := by
  induction taps generalizing s with
  | nil => exact h
  | cons tap rest ih =>
    have hone : (mirroredIn (tapOrder tap) (State.runTap r tap) s).path.waiting = [] := by
      rw [mirroredIn_path]
      exact runTap_waiting h
    obtain hcons | hcons := runTaps_cons r tap rest s
    · rw [hcons]; exact hone
    · rw [hcons]; exact ih hone

/-! ### The arbiter -/

/-- The side that the arbiter grants (R14). -/
theorem nextSide_facts (p : PathUnit) :
    (p.pass = [] → p.egress = [] → p.other = [] → p.nextSide = none) ∧
      (p.pass ≠ [] → p.egress = [] → p.other = [] → p.nextSide = some .pass) ∧
      (p.pass = [] → (p.egress ≠ [] ∨ p.other ≠ []) → p.nextSide = some .own) ∧
      (p.pass ≠ [] → (p.egress ≠ [] ∨ p.other ≠ []) → p.lastSide = .own → p.nextSide = some .pass) ∧
      (p.pass ≠ [] → (p.egress ≠ [] ∨ p.other ≠ []) → p.lastSide = .pass → p.nextSide = some .own) := by
  unfold PathUnit.nextSide
  cases p.pass with
  | nil => cases p.egress <;> cases p.other <;> simp
  | cons x rest => cases p.egress <;> cases p.other <;> simp +contextual

/-- The state in which the tap set of the head is carried out: it is forwarded (R11). -/
def State.granted (x : Passing) (rest : List Passing) (s : State) : State :=
  { s with
    path :=
      { s.path with
        pass := rest, lastSide := .pass
        forwarded := s.path.forwarded ++ [{ request := x.request, applied := none, discard := false }] }
    out := s.out ++ [.forward x.request] }

/-- FORWARDING of the head of the pass queue (R11). -/
theorem exec_forwarding {x : Passing} {rest : List Passing} {s : State} (hside : s.path.nextSide = some .pass)
    (hpass : s.path.pass = x :: rest) :
    exec .forwarding s = .next (mirroredIn ascending State.forwardHead s) ∧
      s.forwardHead = (runTaps x.request x.taps (s.granted x rest)).takeWaiting :=
  ⟨if_pos hside, by rw [State.forwardHead, hpass]; rfl⟩

/-- FORWARDING is the tap set of the head when nothing waits at the port (R11). -/
theorem exec_forwarding_of_nil {x : Passing} {rest : List Passing} {s : State}
    (hside : s.path.nextSide = some .pass) (hpass : s.path.pass = x :: rest) (hwait : s.path.waiting = []) :
    ∃ due, exec .forwarding s = .next ((runTaps x.request x.taps (s.granted x rest)).withDue due) := by
  obtain ⟨hexec, hhead⟩ := exec_forwarding hside hpass
  obtain ⟨due, hdue⟩ := mirroredIn_eq_withDue ascending State.forwardHead s
  have hnil : (runTaps x.request x.taps (s.granted x rest)).path.waiting = [] := runTaps_waiting _ _ hwait
  exact ⟨due, by rw [hexec, hdue, hhead, takeWaiting_of_nil hnil]⟩

/-- OWN_REQUEST_GRANT of the head of EGRESS, or of OTHER while EGRESS is empty (R14). -/
theorem grantOwn_eq {q : OwnRequest} {rest : List OwnRequest} {s : State}
    (h : s.path.egress = q :: rest ∨ (s.path.egress = [] ∧ s.path.other = q :: rest)) :
    s.grantOwn =
      { s with
        path :=
          { s.path with
            egress := s.path.egress.tail
            other := if s.path.egress = [] then rest else s.path.other
            lastSide := .own
            ownOut := s.path.ownOut ++ [q] }
        out := s.out ++ [.own q.owner q.addr q.access] } := by
  unfold State.grantOwn
  obtain h | ⟨hegress, hother⟩ := h
  · rw [h, if_neg (List.cons_ne_nil q rest)]
    rfl
  · rw [hegress, hother, if_pos rfl]
    simp [State.updPath, State.emit, hegress]

/-- The first entry of a tap set, and those after it unless the part is INITIALIZING (R11, R155). -/
theorem runTaps_cons_eq (r : Request) (tap : Tap) (rest : List Tap) (s : State) : ∃ due,
    runTaps r (tap :: rest) s =
      if ((s.runTap r tap).withDue due).path.mode = .initializing then (s.runTap r tap).withDue due
      else runTaps r rest ((s.runTap r tap).withDue due) := by
  obtain ⟨due, hdue⟩ := mirroredIn_eq_withDue (tapOrder tap) (State.runTap r tap) s
  refine ⟨due, ?_⟩
  rw [runTaps, hdue]
  split
  · next h => rw [if_pos h]
  · next h => rw [if_neg (by simp [h])]

/-! ### The rows of the tap entries -/

/-- A row that is one change is its operation but for the due list. -/
theorem changeIn_eq_withDue (o : WordOrder) (f : State → State) (s : State) :
    ∃ due, changeIn o f s = .next ((f s).withDue due) := by
  obtain ⟨due, hdue⟩ := mirroredIn_eq_withDue o f s
  exact ⟨due, by rw [changeIn_eq, hdue]⟩

/-- A launch row is its launch, unless it is of LINK CONTROL and another row's (R148, log entry 24). -/
theorem exec_launch_of_own {c : Instr} {code : BitVec 8} {n : BitVec 4} {tag : BitVec 8} {s : State}
    (hlaunch : launchOf c = some (code, n, tag)) (hwf : c.wf = true)
    (hown : ∀ op other, rowOperation c = some op → linkOperation s.mbox.params = some other →
      s.mbox.running = none → n = 1 → s.mbox.anyStale 1 = false → other = op) :
    exec c s = changeIn (launchOrder code) (State.launch code n tag) s := by
  have hlink (op : LinkOperation) (hop : rowOperation c = some op) :
      launchLink op n tag s = launchStep .linkControl n tag s := by
    unfold launchLink
    dsimp only
    split
    · next other hother =>
      exact if_neg fun ⟨⟨_, hrun, hn, hstale⟩, hne⟩ => hne (hown op other hop hother hrun hn hstale)
    · rfl
  cases c
  case unknownOp => cases hlaunch; exact execUnknownOp_eq_changeIn hwf n tag s
  case linkControlEnable | linkControlDisable | linkControlRetrain =>
    cases hlaunch; exact hlink _ rfl
  case makeWindow | clearWindow | lockWindow | readWindowFirst | readWindowNext | openStream | closeStream
      | bindRing | bindReturn | unbind | resumeRing | loadSchedule | setSplit | snapshotCounters | setEvents
      | restart =>
    cases hlaunch; rfl
  all_goals cases hlaunch

/-- The ring whose producer word an address is: the first (R11). -/
theorem producerAt_eq_some {u : RingUnit} {a : Nat} {q : Fin 4} (hstate : (u.outbound[q]).state ≠ .unbound)
    (hword : (u.outbound[q]).producerWord = some a)
    (hfirst : ∀ p : Fin 4, p < q → ¬ ((u.outbound[p]).state ≠ .unbound ∧ (u.outbound[p]).producerWord = some a)) :
    u.producerAt a = some q := by
  rw [RingUnit.producerAt, ← Fin.find?_eq_find?_finRange, Fin.find?_eq_some_iff]
  exact ⟨by simpa using ⟨hstate, hword⟩, fun p hp => by simpa using hfirst p hp⟩

theorem producerAt_eq_none {u : RingUnit} {a : Nat}
    (hnone : ∀ p : Fin 4, ¬ ((u.outbound[p]).state ≠ .unbound ∧ (u.outbound[p]).producerWord = some a)) :
    u.producerAt a = none := by
  rw [RingUnit.producerAt, ← Fin.find?_eq_find?_finRange, Fin.find?_eq_none_iff]
  exact fun p => by simpa using hnone p

/-- The ring whose consumer word an address is: the first (R11). -/
theorem consumerAt_eq_some {u : RingUnit} {a : Nat} {q : Fin 2} (hstate : (u.inbound[q]).state ≠ .unbound)
    (hword : (u.inbound[q]).consumerWord = some a)
    (hfirst : ∀ p : Fin 2, p < q → ¬ ((u.inbound[p]).state ≠ .unbound ∧ (u.inbound[p]).consumerWord = some a)) :
    u.consumerAt a = some q := by
  rw [RingUnit.consumerAt, ← Fin.find?_eq_find?_finRange, Fin.find?_eq_some_iff]
  exact ⟨by simpa using ⟨hstate, hword⟩, fun p hp => by simpa using hfirst p hp⟩

theorem consumerAt_eq_none {u : RingUnit} {a : Nat}
    (hnone : ∀ p : Fin 2, ¬ ((u.inbound[p]).state ≠ .unbound ∧ (u.inbound[p]).consumerWord = some a)) :
    u.consumerAt a = none := by
  rw [RingUnit.consumerAt, ← Fin.find?_eq_find?_finRange, Fin.find?_eq_none_iff]
  exact fun p => by simpa using hnone p

theorem isOpen_iff (t : Stream) : t.isOpen = true ↔ t.state ≠ .closed := by
  simp [Stream.isOpen]

/-- An address that is not the mark word of an open stream goes to the rings (R11). -/
theorem watchWrite_of_rings {a : Nat} {v : Word} {s : State}
    (h : s.tracker.stream.state = .closed ∨ a ≠ s.tracker.stream.markWord) :
    s.watchWrite a v =
      match s.rings.producerAt a with
      | some r => s.producerWrite r v
      | none =>
        match s.rings.consumerAt a with
        | some r => s.consumerWrite r v
        | none => s := by
  refine if_neg fun ⟨hopen, ha⟩ => ?_
  obtain hclosed | hne := h
  · exact (isOpen_iff _).1 hopen hclosed
  · exact hne ha

/-- The note of what the last forwarded request was applied to (R12, R62). -/
theorem noteApplied_append (a : Option Applied) (earlier : List Forwarded) (f : Forwarded) :
    noteApplied a (earlier ++ [f]) = earlier ++ [{ f with applied := a }] := by
  induction earlier with
  | nil => rfl
  | cons g earlier ih =>
    cases earlier with
    | nil => rfl
    | cons g' earlier => exact congrArg (g :: ·) ih

/-- A capture write that maps to a line is handed on (R51, R52). -/
theorem capture_of_line {w : Fin 32} {k : Fin 6} {r : Request} {f : FrameNumber} {slot : Fin 4} {line b : Nat}
    {s : State} (hopen : s.tracker.stream.state ≠ .closed) (hw : s.tracker.stream.windows[k.val]? = some w)
    (hmap : s.tracker.mapWrite s.map.windows[w] r.addr = .line f slot line b) :
    s.capture w k r = s.handOn f slot line w k b r.size := by
  unfold State.capture
  dsimp only
  rw [if_neg (by simpa [isOpen_iff] using hopen), if_neg (by simpa using hw), hmap]

/-- A capture write of a line at position 48 or beyond is dropped (R56, R59). -/
theorem handOn_of_far {w : Fin 32} {k : Fin 6} {f : FrameNumber} {slot : Fin 4} {line b n i : Nat} {s : State}
    (hi : s.tracker.indexOf f slot = some i) (hpos : (48 : Int) ≤ s.tracker.position i line) :
    s.handOn f slot line w k b n = (s, none) := by
  have hge : (Config.stitchWindow : Int) ≤ s.tracker.position i line := hpos
  unfold State.handOn
  rw [hi]
  dsimp only
  rw [if_neg (by omega), if_pos hge]

/-- A capture write of a line in the window goes to its unsettled entry, or a new one (R58, R59). -/
theorem handOn_of_window {w : Fin 32} {k : Fin 6} {f : FrameNumber} {slot : Fin 4} {line b n i : Nat} {s : State}
    (hi : s.tracker.indexOf f slot = some i) (hnonneg : 0 ≤ s.tracker.position i line)
    (hpos : s.tracker.position i line < 48) :
    s.handOn f slot line w k b n =
      match s.stitch.find f slot line with
      | some e =>
        if e.state.settled then (s.count (.lateWrites k), none)
        else (s.applyWrite e w k b n, some { entry := e.id, position := k })
      | none =>
        ((s.addEntry (s.newEntry f slot line .live)).applyWrite (s.newEntry f slot line .live) w k b n,
          some { entry := s.stitch.nextEntry, position := k }) := by
  have hlt : ¬ (Config.stitchWindow : Int) ≤ s.tracker.position i line := not_le.2 hpos
  unfold State.handOn
  rw [hi]
  exact (if_neg (by omega)).trans (if_neg hlt)

/-- The entry of a capture write in the window is noted for its response (R59, R62). -/
theorem runTap_capture_path {r : Request} {w : Fin 32} {k : Fin 6} {earlier : List Forwarded} {f : Forwarded}
    {frame : FrameNumber} {slot : Fin 4} {line b i id : Nat} {s : State}
    (hforwarded : s.path.forwarded = earlier ++ [f]) (hopen : s.tracker.stream.state ≠ .closed)
    (hw : s.tracker.stream.windows[k.val]? = some w)
    (hmap : s.tracker.mapWrite s.map.windows[w] r.addr = .line frame slot line b)
    (hi : s.tracker.indexOf frame slot = some i) (hnonneg : 0 ≤ s.tracker.position i line)
    (hpos : s.tracker.position i line < 48)
    (hid : (∃ e, s.stitch.find frame slot line = some e ∧ e.state.settled = false ∧ id = e.id) ∨
      (s.stitch.find frame slot line = none ∧ id = s.stitch.nextEntry)) :
    (s.runTap r (.capture w k)).path =
      { s.path with forwarded := earlier ++ [{ f with applied := some { entry := id, position := k } }] } := by
  have hnoted : (s.capture w k r).2 = some { entry := id, position := k } := by
    rw [capture_of_line hopen hw hmap, handOn_of_window hi hnonneg hpos]
    obtain ⟨e, he, hunsettled, rfl⟩ | ⟨hnone, rfl⟩ := hid
    · rw [he]
      dsimp only
      rw [if_neg (by simp [hunsettled])]
    · rw [hnone]
  have hpath : (s.capture w k r).1.path = s.path := by simp
  show { (s.capture w k r).1.path with
    forwarded := noteApplied (s.capture w k r).2 (s.capture w k r).1.path.forwarded } = _
  rw [hpath, hnoted, hforwarded, noteApplied_append]

/-- A capture write at position 48 or beyond does nothing (R59). -/
theorem runTap_capture_of_far {r : Request} {w : Fin 32} {k : Fin 6} {earlier : List Forwarded} {f : Forwarded}
    {frame : FrameNumber} {slot : Fin 4} {line b i : Nat} {s : State}
    (hforwarded : s.path.forwarded = earlier ++ [f]) (hnone : f.applied = none)
    (hopen : s.tracker.stream.state ≠ .closed) (hw : s.tracker.stream.windows[k.val]? = some w)
    (hmap : s.tracker.mapWrite s.map.windows[w] r.addr = .line frame slot line b)
    (hi : s.tracker.indexOf frame slot = some i) (hpos : (48 : Int) ≤ s.tracker.position i line) :
    s.runTap r (.capture w k) = s := by
  have hsame : noteApplied none s.path.forwarded = s.path.forwarded := by
    rw [hforwarded, noteApplied_append, ← hnone]
  unfold State.runTap
  dsimp only
  rw [capture_of_line hopen hw hmap, handOn_of_far hi hpos]
  dsimp only
  rw [State.updPath, hsame]

/-! ### The obligation -/

/-- Settles O12, from the lemmas about the arbiter, the tap set and the rows of its entries. -/
theorem arbiterGrantsTheHead : Obligations.ArbiterGrantsTheHead := by
  refine ⟨nextSide_facts, fun x rest s hside hpass => ?_, ⟨fun x rest s hside hpass htaps hwait => ?_,
    fun q rest s hside hhead => ?_⟩, ⟨fun x rest s hside hpass hwait => exec_forwarding_of_nil hside hpass hwait,
    fun _ _ => rfl, runTaps_cons_eq⟩, ⟨fun r i v s hmode => ?_, fun r v s hmode => ?_,
    fun r c v s hlaunch hwf hown => ?_, fun r v s hcode => ?_, fun _ _ => ⟨rfl, rfl⟩⟩,
    ⟨fun r a v s hwait hopen ha => ?_, fun r a v q s hmark hstate hword hfirst => ?_,
      fun r a v q s hmark hnone hstate hword hfirst => ?_, fun r a v s ha => ?_⟩,
    ⟨fun r w k s hwf => ?_, fun r w k earlier f frame slot line b i s hf hnone hopen hw hmap hi hnonneg =>
      ⟨fun hpos => runTap_capture_of_far hf hnone hopen hw hmap hi hpos,
        fun hpos id hid => runTap_capture_path hf hopen hw hmap hi hnonneg hpos hid⟩⟩, fun v => ?_⟩
  · obtain ⟨hexec, hhead⟩ := exec_forwarding hside hpass
    have hgrows : (s.granted x rest).out <+: s.forwardHead.out := by
      rw [hhead]
      exact (Moves.outside (runTaps_moves _ _ _)).2.2.trans (Acts.outside (takeWaiting_acts _)).2.2.2
    obtain ⟨more, hmore⟩ := hgrows
    refine ⟨_, more, hexec, ?_⟩
    rw [mirroredIn_out, ← hmore]
    exact List.append_assoc _ _ _
  · obtain ⟨due, hdue⟩ := exec_forwarding_of_nil hside hpass hwait
    rw [htaps] at hdue
    exact ⟨_, hdue, rfl, rfl, ⟨rfl, rfl, rfl⟩, ⟨rfl, rfl, rfl⟩, rfl, rfl⟩
  · have hexec : exec .ownRequestGrant s = changeIn ascending State.grantOwn s := if_pos hside
    obtain ⟨due, hdue⟩ := changeIn_eq_withDue ascending State.grantOwn s
    refine ⟨_, hexec.trans hdue, ?_⟩
    rw [grantOwn_eq hhead]
    exact ⟨rfl, rfl, ⟨rfl, rfl, rfl⟩, ⟨rfl, rfl, rfl⟩, rfl, rfl⟩
  · have hexec : exec (.parameterWordWrite i v) s = changeIn ascending (State.paramWrite i v) s := by
      show execParameterWordWrite i v s = _
      rw [execParameterWordWrite, hmode]
      rfl
    rw [hexec]
    exact changeIn_eq_withDue ascending (State.paramWrite i v) s
  · have hexec : exec (.acknowledge v) s = changeIn acknowledgeOrder (State.acknowledge v) s := by
      show execAcknowledge v s = _
      rw [execAcknowledge, hmode]
    rw [hexec]
    exact changeIn_eq_withDue acknowledgeOrder (State.acknowledge v) s
  · rw [exec_launch_of_own hlaunch hwf hown]
    exact changeIn_eq_withDue _ _ s
  · exact if_pos (.inr hcode)
  · have hmark : s.runTap r (.watch a v) = s.frameMark a v := if_pos ⟨(isOpen_iff _).2 hopen, ha⟩
    obtain ⟨due, hdue⟩ := changeIn_eq_withDue markOrder (fun t => (t.frameMark a v).takeWaiting) s
    refine ⟨due, hdue.trans ?_⟩
    rw [hmark, takeWaiting_of_nil (by simpa using hwait)]
  · have hring : s.runTap r (.watch a v) = s.producerWrite q v := by
      refine (watchWrite_of_rings hmark).trans ?_
      rw [producerAt_eq_some hstate hword hfirst]
    rw [hring]
    exact changeIn_eq_withDue ascending (State.producerWrite q v) s
  · have hring : s.runTap r (.watch a v) = s.consumerWrite q v := by
      refine (watchWrite_of_rings hmark).trans ?_
      rw [producerAt_eq_none hnone, consumerAt_eq_some hstate hword hfirst]
    rw [hring]
    exact changeIn_eq_withDue ascending (State.consumerWrite q v) s
  · rw [mem_watchWords, not_or, not_or] at ha
    obtain ⟨hmark, hproducer, hconsumer⟩ := ha
    refine (watchWrite_of_rings (by tauto)).trans ?_
    rw [producerAt_eq_none fun p hp => hproducer ⟨p, hp⟩, consumerAt_eq_none fun p hp => hconsumer ⟨p, hp⟩]
  · have hexec : exec (.captureWrite w k r) s = changeIn ascending (fun t => (t.capture w k r).1) s := if_pos hwf
    obtain ⟨due, hdue⟩ := changeIn_eq_withDue ascending (fun t => (t.capture w k r).1) s
    refine ⟨due, hexec.trans (hdue.trans ?_)⟩
    have hpath : (s.capture w k r).1.path = s.path := by simp
    rw [← hpath]
    rfl
  · simp [launchCode, launchCount, launchTag, bits]

end Sys2Proof.Machine

/-!
Capture writes: sorted out, handed on and applied (R51, R52, R59 to R64).
-/

namespace Sys2Proof.Machine

/-! ### The mapping -/

/-- The mapping of a write: stray, unframed, or a line (R51, R52). -/
theorem mapWrite_facts (t : Tracker) (w : Window) (a : Addr) :
    let offset := (a.toNat + 2 ^ 40 - w.base) % 2 ^ 40
    let slot := offset / w.stride
    let rest := offset % w.stride
    let line := rest / w.pitch
    let b := rest % w.pitch
    ((t.stream.slotCount ≤ slot ∨ 4 ≤ slot ∨ t.stream.lines ≤ line ∨ w.segLen ≤ b) → t.mapWrite w a = .stray) ∧
      (∀ i : Fin 4, i.val = slot → slot < t.stream.slotCount → line < t.stream.lines → b < w.segLen →
        match (t.slots[i]).frame with
        | none => t.mapWrite w a = .unframed
        | some f => t.mapWrite w a = .line f i line b) := by
  intro offset slot rest line b
  have hmap : t.mapWrite w a =
      if t.stream.slotCount ≤ slot ∨ t.stream.lines ≤ line ∨ w.segLen ≤ b then .stray
      else if h : slot < 4 then
        match (t.slots[slot]).frame with
        | none => .unframed
        | some f => .line f ⟨slot, h⟩ line b
      else .stray := rfl
  rw [hmap]
  refine ⟨fun h => ?_, fun i hi hslot hline hb => ?_⟩
  · split
    · rfl
    · next hin => exact dif_neg (by omega)
  · have hlt : slot < 4 := hi ▸ i.isLt
    obtain rfl : i = ⟨slot, hlt⟩ := Fin.ext hi
    rw [if_neg (by omega), dif_pos hlt]
    show match (t.slots[slot]).frame with
      | none => _
      | some f => _
    cases (t.slots[slot]).frame <;> rfl

/-- The list index of a frame is its first place on the list (R43). -/
theorem indexOf_eq_some_iff (t : Tracker) (frame : FrameNumber) (slot : Fin 4) (i : Nat) :
    t.indexOf frame slot = some i ↔
      (∃ f, t.frames[i]? = some f ∧ f.frame = frame ∧ f.slot = slot) ∧
        ∀ (j : Nat) (f : FrameRecord), j < i → t.frames[j]? = some f → ¬ (f.frame = frame ∧ f.slot = slot) := by
  unfold Tracker.indexOf
  rw [List.findIdx?_eq_some_iff_getElem]
  constructor
  · rintro ⟨hi, hhit, hbefore⟩
    refine ⟨⟨t.frames[i], List.getElem?_eq_getElem hi, by simpa using hhit⟩, fun j f hj hf => ?_⟩
    obtain ⟨hlt, rfl⟩ := List.getElem?_eq_some_iff.1 hf
    simpa using hbefore j hj
  · rintro ⟨⟨f, hf, hhit⟩, hbefore⟩
    obtain ⟨hi, rfl⟩ := List.getElem?_eq_some_iff.1 hf
    refine ⟨hi, by simpa using hhit, fun j hj => ?_⟩
    simpa using hbefore j _ hj (List.getElem?_eq_getElem (by omega))

/-- The position of a line counts from the head frame's cursor (R55). -/
theorem position_eq (t : Tracker) (i line : Nat) :
    t.position i line =
      (i : Int) * (t.stream.lines : Int) + (line : Int) -
        (match t.frames with
         | [] => 0
         | f :: _ => (f.cursor : Int)) := by
  unfold Tracker.position Tracker.cursor Tracker.head
  cases t.frames <;> rfl

/-! ### Handing on -/

/-- A capture write while the stream is CLOSED, or in a window that moved, does nothing (R51). -/
theorem capture_of_closed {w : Fin 32} {k : Fin 6} {s : State}
    (h : s.tracker.stream.state = .closed ∨ s.tracker.stream.windows[k.val]? ≠ some w) (r : Request) :
    s.capture w k r = (s, none) := by
  unfold State.capture
  dsimp only
  by_cases hclosed : s.tracker.stream.state = .closed
  · exact if_pos (by simp [Stream.isOpen, hclosed])
  · rw [if_neg (by simp [Stream.isOpen, hclosed])]
    exact if_pos (h.resolve_left hclosed)

/-- A capture write in a window of an open stream is sorted by its mapping (R52). -/
theorem capture_of_open {w : Fin 32} {k : Fin 6} {s : State} (hopen : s.tracker.stream.isOpen = true)
    (hw : s.tracker.stream.windows[k.val]? = some w) (r : Request) :
    s.capture w k r =
      match s.tracker.mapWrite s.map.windows[w] r.addr with
      | .stray => (s.count (.strayWrites k), none)
      | .unframed => (s.count .unframedWrites, none)
      | .line f slot line b => s.handOn f slot line w k b r.size := by
  unfold State.capture
  dsimp only
  exact (if_neg (by simp [hopen])).trans (if_neg (by simp [hw]))

/-- A write of a frame that is off the list, or of a line behind the cursor, is late (R59). -/
theorem handOn_of_late {w : Fin 32} {k : Fin 6} {f : FrameNumber} {slot : Fin 4} {line b n : Nat} {s : State}
    (h : ∀ i, s.tracker.indexOf f slot = some i → s.tracker.position i line < 0) :
    s.handOn f slot line w k b n = (s.count (.lateWrites k), none) := by
  unfold State.handOn
  cases hi : s.tracker.indexOf f slot with
  | none => rfl
  | some i => exact if_pos (h i hi)

theorem applyWrite_nextEntry (e : LineEntry) (w : Fin 32) (k : Fin 6) (b n : Nat) (s : State) :
    (s.applyWrite e w k b n).stitch.nextEntry = s.stitch.nextEntry := by
  unfold State.applyWrite State.countEffect
  dsimp only
  split <;> rfl

/-- CAPTURE_WRITE is the capture entry of a write (R51). -/
theorem exec_captureWrite {w : Fin 32} {k : Fin 6} {r : Request} {s : State} (hwf : r.wfWrite = true) :
    ∃ due, exec (.captureWrite w k r) s = .next ((s.capture w k r).1.withDue due) := by
  obtain ⟨due, hdue⟩ := changeIn_eq_withDue ascending (fun t => (t.capture w k r).1) s
  exact ⟨due, (if_pos hwf).trans hdue⟩

/-- Settles O15, by the mapping of the write and the position of its line. -/
theorem captureWriteSortedOut : Obligations.CaptureWriteSortedOut := by
  refine ⟨fun w k r s hwf hopen hw => ?_, fun w k r s hwf hclosed => ?_, mapWrite_facts, indexOf_eq_some_iff,
    position_eq, isOpen_iff⟩
  · obtain ⟨due, hdue⟩ := exec_captureWrite (w := w) (k := k) (s := s) hwf
    refine ⟨_, hdue, by simp [State.withDue], by simp [State.withDue], by simp [State.withDue],
      by simp [State.withDue], by simp [State.withDue], by simp [State.withDue], ?_⟩
    rw [capture_of_open hopen hw]
    cases s.tracker.mapWrite s.map.windows[w] r.addr with
    | stray => exact ⟨rfl, rfl⟩
    | unframed => exact ⟨rfl, rfl⟩
    | line f slot line b =>
      dsimp only
      cases hi : s.tracker.indexOf f slot with
      | none =>
        rw [handOn_of_late (by simp [hi])]
        exact ⟨rfl, rfl⟩
      | some i =>
        dsimp only
        split
        · next hneg =>
          rw [handOn_of_late fun j hj => by rwa [← Option.some.inj (hi.symm.trans hj)]]
          exact ⟨rfl, rfl⟩
        · split
          · next hpos =>
            rw [handOn_of_far hi hpos]
            exact ⟨rfl, rfl⟩
          · next hneg hpos =>
            rw [handOn_of_window hi (not_lt.1 hneg) (not_le.1 hpos)]
            cases s.stitch.find f slot line with
            | some e =>
              intro hsettled
              dsimp only
              rw [if_pos hsettled]
              exact ⟨rfl, rfl⟩
            | none => exact applyWrite_nextEntry _ _ _ _ _ _
  · have hexec : exec (.captureWrite w k r) s = changeIn ascending (fun t => (t.capture w k r).1) s := if_pos hwf
    rw [hexec, changeIn_eq, mirroredIn_of_fixed (by rw [capture_of_closed hclosed])]

/-! ### Applying -/

/-- A write to a segment: in sequence it fills it, out of sequence or beyond the length it damages it (R60). -/
theorem segment_write_eq (g : Segment) (len b n : Nat) :
    g.write len b n =
      match g.state with
      | .full => (g, .rewrite)
      | .damaged => (g, .nothing)
      | _ =>
        if b ≠ g.mark ∨ len < b + n then ({ g with state := .damaged }, .damaged)
        else if b + n = len then ({ state := .full, mark := b + n }, .filled)
        else ({ state := .filling, mark := b + n }, .filled) := by
  have hmark : (if b = g.mark ∧ b + n ≤ len then
        (({ state := if b + n = len then .full else .filling, mark := b + n } : Segment), SegmentEffect.filled)
      else ({ g with state := .damaged }, .damaged)) =
      if b ≠ g.mark ∨ len < b + n then ({ g with state := .damaged }, .damaged)
      else if b + n = len then ({ state := .full, mark := b + n }, .filled)
      else ({ state := .filling, mark := b + n }, .filled) := by
    by_cases hin : b = g.mark ∧ b + n ≤ len
    · have hseq : ¬ (b ≠ g.mark ∨ len < b + n) := by omega
      rw [if_pos hin, if_neg hseq]
      split <;> rfl
    · have hout : b ≠ g.mark ∨ len < b + n := by omega
      rw [if_neg hin, if_pos hout]
  unfold Segment.write
  cases g.state with
  | full | damaged => rfl
  | empty | filling => exact hmark

/-- The entry that a write leaves: its segment written, LIVE, and settled once every segment ended (R60, R61,
R63). -/
def LineEntry.written (e : LineEntry) (gs : List Segment) : LineEntry :=
  { e with
    segments := gs
    deadline := if gs.all Segment.ended then none else e.deadline
    state :=
      if gs.all Segment.ended then
        if gs.all Segment.isFull then .whole else if gs.any Segment.isFull then .torn else .absent
      else .live }

theorem settle_written (e : LineEntry) (gs : List Segment) :
    ({ e with segments := gs, state := .live } : LineEntry).settle = e.written gs := by
  unfold LineEntry.settle LineEntry.written settledState
  dsimp only
  cases gs.all Segment.ended <;> rfl

/-- A write applied to an entry (R60, R61, R63). -/
theorem applyWrite_eq (e : LineEntry) (w : Fin 32) (k : Fin 6) (b n : Nat) (s : State) :
    s.applyWrite e w k b n =
      (s.countEffect k ((e.segment k).write (s.map.windows[w]).segLen b n).2).putEntry
        (e.written (e.segments.set k.val ((e.segment k).write (s.map.windows[w]).segLen b n).1)) := by
  rw [← settle_written]
  rfl

/-- Replacing the entry just added to a table of other entries. -/
theorem putEntry_addEntry {e e' : LineEntry} {s : State} (hid : e'.id = e.id)
    (hnew : ∀ x ∈ s.stitch.entries, x.id ≠ e.id) :
    ((s.addEntry e).putEntry e').stitch =
      { entries := s.stitch.entries ++ [e'], nextEntry := s.stitch.nextEntry + 1 } := by
  show ({ entries := (s.stitch.entries ++ [e]).map (fun x => if x.id = e'.id then e' else x), .. } : StitchUnit) = _
  have hsame : s.stitch.entries.map (fun x => if x.id = e'.id then e' else x) = s.stitch.entries :=
    List.map_congr_left (fun x hx => if_neg (hid ▸ hnew x hx)) |>.trans (List.map_id _)
  rw [List.map_append, hsame]
  simp [hid]
  rfl

/-- The counter that a segment's effect counts (R60). -/
theorem countEffect_facts (k : Fin 6) (x : SegmentEffect) (s : State) :
    (s.countEffect k x).stitch = s.stitch ∧
      match x with
      | .damaged => StatusCounts (s.count (.damagedSegments k)) s (s.countEffect k x)
      | .rewrite => StatusCounts (s.count (.rewrites k)) s (s.countEffect k x)
      | .filled | .nothing => SameStatus s (s.countEffect k x) := by
  cases x <;> exact ⟨rfl, rfl⟩

/-- The entry of a line in the window that a write goes to: the one that stands, or else a new one, LIVE (R58). -/
theorem capture_of_entry {w : Fin 32} {k : Fin 6} {r : Request} {f : FrameNumber} {slot : Fin 4} {line b i : Nat}
    {e : LineEntry} {s : State} (hopen : s.tracker.stream.isOpen = true)
    (hw : s.tracker.stream.windows[k.val]? = some w)
    (hmap : s.tracker.mapWrite s.map.windows[w] r.addr = .line f slot line b)
    (hi : s.tracker.indexOf f slot = some i) (hnonneg : 0 ≤ s.tracker.position i line)
    (hpos : s.tracker.position i line < 48) (hunsettled : e.state.settled = false)
    (he : s.stitch.find f slot line = some e ∨
      (s.stitch.find f slot line = none ∧ e = s.newEntry f slot line .live)) :
    (s.capture w k r).1 =
      (if s.stitch.find f slot line = none then s.addEntry e else s).applyWrite e w k b r.size := by
  rw [capture_of_open hopen hw, hmap]
  dsimp only
  rw [handOn_of_window hi hnonneg hpos]
  obtain hsome | ⟨hnone, rfl⟩ := he
  · rw [hsome, if_neg nofun]
    dsimp only
    rw [if_neg (by simp [hunsettled])]
  · rw [hnone, if_pos rfl]

/-- Settles O16, by the entry that the write goes to. -/
theorem captureWriteApplied : Obligations.CaptureWriteApplied := by
  refine ⟨fun w k r f slot line b i e s hwf hopen hw hmap hi hnonneg hpos hdistinct hunsettled he => ?_,
    segment_write_eq, ⟨fun g => ?_, fun x => ?_, fun e k g hg => ?_, fun u frame slot line => ?_⟩⟩
  · intro gs e'
    obtain ⟨due, hdue⟩ := exec_captureWrite (w := w) (k := k) (s := s) hwf
    refine ⟨_, hdue, ?_, by simp [State.withDue], by simp [State.withDue], by simp [State.withDue],
      by simp [State.withDue], by simp [State.withDue], by simp [State.withDue], ?_⟩
    · rw [capture_of_entry hopen hw hmap hi hnonneg hpos hunsettled he, applyWrite_eq]
      have hmaps : (if s.stitch.find f slot line = none then s.addEntry e else s).map = s.map := by
        split <;> rfl
      rw [hmaps]
      split
      · next hnone =>
        have hnew : e.id = s.stitch.nextEntry := by
          obtain hsome | ⟨-, rfl⟩ := he
          · rw [hnone] at hsome
            exact absurd hsome nofun
          · rfl
        have hput := putEntry_addEntry (e := e) (e' := e') (s := s) rfl fun x hx => by
          have := hdistinct.2.2 x hx
          omega
        rw [← hput]
        show (((s.addEntry e).countEffect k _).putEntry e').stitch = ((s.addEntry e).putEntry e').stitch
        unfold State.putEntry State.updStitch
        dsimp only
        rw [(countEffect_facts k _ (s.addEntry e)).1]
      · show ((s.countEffect k _).putEntry e').stitch = _
        unfold State.putEntry State.updStitch
        dsimp only
        rw [(countEffect_facts k _ s).1]
    · rw [capture_of_entry hopen hw hmap hi hnonneg hpos hunsettled he, applyWrite_eq]
      have hmaps : (if s.stitch.find f slot line = none then s.addEntry e else s).map = s.map := by
        split <;> rfl
      rw [hmaps]
      cases ((e.segment k).write (s.map.windows[w]).segLen b r.size).2 <;> dsimp only <;> split <;> rfl
  · simp [Segment.isFull, Segment.ended]
  · cases x <;> simp [EntryState.settled]
  · simp [LineEntry.segment, hg]
  · unfold StitchUnit.find
    congr 1
    funext e
    rw [Bool.decide_and, Bool.decide_and, Bool.and_assoc]
    rfl

/-- Settles O17: the settling of the entry whose deadline is reached. -/
theorem stitchDeadlineSettles : Obligations.StitchDeadlineSettles := by
  intro slot line e d s hfind hunsettled hdeadline hreached
  have hexec : exec (.stitchDeadline slot line) s = changeIn ascending (fun t => t.putEntry e.expire) s := by
    show execStitchDeadline slot line s = _
    unfold execStitchDeadline
    rw [hfind]
    dsimp only
    rw [hdeadline]
    exact if_pos ⟨hunsettled, hreached⟩
  obtain ⟨due, hdue⟩ := changeIn_eq_withDue ascending (fun t => t.putEntry e.expire) s
  exact ⟨_, hexec.trans hdue, rfl, rfl, rfl, rfl, ⟨rfl, rfl, rfl⟩, ⟨rfl, rfl, rfl, rfl⟩, rfl, rfl⟩

end Sys2Proof.Machine

/-!
What a cursor advance reads and counts (R9), and the head line's entry (R58, R68).
-/

namespace Sys2Proof.Machine

/-! ### What classification reads -/

/-- Two states in which requests are classified, held and forwarded alike (R2 to R6, R9, R10, R50). -/
structure SameReads (s t : State) : Prop where
  straps : t.straps = s.straps
  path : t.path = s.path
  map : t.map = s.map
  stream : t.tracker.stream = s.tracker.stream
  frames : t.tracker.frames = s.tracker.frames
  slots : ∀ i : Fin 4, (t.tracker.slots[i]).frame = (s.tracker.slots[i]).frame
  rings : t.rings = s.rings
  count : t.link.count = s.link.count

theorem SameReads.refl (s : State) : SameReads s s := ⟨rfl, rfl, rfl, rfl, rfl, fun _ => rfl, rfl, rfl⟩

theorem SameReads.trans {s t u : State} (h : SameReads s t) (k : SameReads t u) : SameReads s u :=
  ⟨k.straps.trans h.straps, k.path.trans h.path, k.map.trans h.map, k.stream.trans h.stream,
    k.frames.trans h.frames, fun i => (k.slots i).trans (h.slots i), k.rings.trans h.rings, k.count.trans h.count⟩

section sameReads
variable {s t : State} (h : SameReads s t)
include h

theorem SameReads.mapWrite (w : Window) (a : Addr) : t.tracker.mapWrite w a = s.tracker.mapWrite w a := by
  unfold Tracker.mapWrite
  rw [h.stream]
  dsimp only
  split
  · rfl
  · split
    · next hs =>
      have hframe := h.slots ⟨_, hs⟩
      simp only [Fin.getElem_fin] at hframe
      rw [hframe]
    · rfl

theorem SameReads.mustHold (w : Window) (a : Addr) : t.tracker.mustHold w a = s.tracker.mustHold w a := by
  unfold Tracker.mustHold Tracker.holdAnswer Tracker.indexOf Tracker.position Tracker.cursor Tracker.head
  rw [h.mapWrite, h.stream, h.frames]

theorem SameReads.watchWords : t.watchWords = s.watchWords := by
  unfold State.watchWords
  rw [h.stream, h.rings]

theorem SameReads.watchStep (taps : List Tap) (a : Nat) (data : List Byte) :
    t.watchStep taps a data = s.watchStep taps a data := by
  unfold State.watchStep State.watchTouched
  rw [h.watchWords]

theorem SameReads.protection (r : Request) : t.protection r = s.protection r :=
  protection_congr h.straps (congrArg PathUnit.mode h.path) h.map r

theorem SameReads.lookup (a : Nat) : t.lookup a = s.lookup a := by
  unfold State.lookup
  rw [h.map, h.path]

/-- Requests are classified alike. -/
theorem SameReads.classify (r : Request) : t.classify r = s.classify r := by
  unfold State.classify
  rw [h.protection, h.path, h.straps, h.stream, h.map]
  simp only [h.watchStep, h.lookup, h.mustHold]

theorem SameReads.updPath (f : PathUnit → PathUnit) : SameReads (s.updPath f) (t.updPath f) :=
  ⟨h.straps, congrArg f h.path, h.map, h.stream, h.frames, h.slots, h.rings, h.count⟩

theorem SameReads.countBy (c : Counter) (n : Nat) : SameReads (s.countBy c n) (t.countBy c n) :=
  ⟨h.straps, h.path, h.map, h.stream, h.frames, h.slots, h.rings, h.count⟩

theorem SameReads.block (r : Request) (o : Origin) : SameReads (s.block r o) (t.block r o) := by
  rw [block_eq, block_eq]
  exact ⟨h.straps, by rw [h.path], h.map, h.stream, h.frames, h.slots, h.rings, h.count⟩

theorem SameReads.leaveHold (i : BitVec 4) : SameReads (s.leaveHold i) (t.leaveHold i) := h.updPath _

theorem SameReads.joinPass (r : Request) (taps : List Tap) : SameReads (s.joinPass r taps) (t.joinPass r taps) :=
  h.updPath _

theorem SameReads.expire (x : Held) : SameReads (s.expire x) (t.expire x) :=
  ((h.leaveHold x.request.initiator).joinPass x.request []).countBy .holdExpiries 1

end sameReads

/-- Chains are worked alike. -/
theorem SameReads.chainLoop (n : Nat) (i : BitVec 4) {s t : State} (h : SameReads s t) :
    SameReads (chainLoop n i s) (chainLoop n i t) := by
  induction n generalizing s t with
  | zero => exact h
  | succ n ih =>
    unfold Machine.chainLoop
    rw [h.path]
    cases s.path.oldest i with
    | none => exact h
    | some x =>
      dsimp only
      rw [h.classify]
      cases s.classify x.request with
      | hold =>
        dsimp only
        rw [h.count]
        split
        · exact ih (h.expire x)
        · exact h.updPath _
      | pass taps torn => exact ih (((h.leaveHold i).countBy .watchTornWords torn).joinPass x.request taps)
      | block o => exact ih ((h.leaveHold i).block x.request o)

theorem SameReads.workChain (i : BitVec 4) {s t : State} (h : SameReads s t) :
    SameReads (s.workChain i) (t.workChain i) := by
  unfold State.workChain
  rw [h.path]
  exact h.chainLoop _ i

theorem SameReads.reclassifyLeader (i : BitVec 4) {s t : State} (h : SameReads s t) :
    SameReads (s.reclassifyLeader i) (t.reclassifyLeader i) := by
  unfold State.reclassifyLeader
  rw [h.path]
  cases s.path.oldest i with
  | none => exact h
  | some x =>
    dsimp only
    rw [h.classify]
    cases s.classify x.request with
    | hold => exact h
    | pass taps torn => exact (((h.leaveHold i).countBy .watchTornWords torn).joinPass x.request taps).workChain i
    | block o => exact ((h.leaveHold i).block x.request o).workChain i

/-- A cursor advance does the same to the path (R9). -/
theorem SameReads.reclassify {s t : State} (h : SameReads s t) : SameReads s.reclassify t.reclassify := by
  unfold State.reclassify
  rw [h.path]
  generalize s.path.leaders = leaders
  induction leaders generalizing s t with
  | nil => exact h
  | cons i rest ih => exact ih (h.reclassifyLeader i)

/-! ### What a cursor advance counts -/

/-- The counters that the holding and blocking of requests count (R9, R10, R12). -/
def Counter.ofPath : Counter → Bool
  | .watchTornWords | .blockedWrites | .blockedReads | .holdExpiries | .heldRequests | .initPasses => true
  | _ => false

/-- A count leaves the other counters (R169). -/
theorem countBy_counter_ne {c d : Counter} (h : c.index ≠ d.index) (n : Nat) (s : State) :
    (s.countBy c n).counter d = s.counter d := by
  have hval : c.index.val ≠ d.index.val := Fin.val_ne_of_ne h
  simp [State.counter, Vector.getElem_set_ne, hval]

theorem count_counter_ne {c d : Counter} (h : c.index ≠ d.index) (s : State) :
    (s.count c).counter d = s.counter d := countBy_counter_ne h 1 s

theorem countBy_counter_same (c : Counter) (n : Nat) (s : State) :
    (s.countBy c n).counter c = saturate (s.counter c) n := by
  simp [State.counter]

/-- The counters of the path have places of their own (R170). -/
theorem index_ne_of_ofPath {c d : Counter} (hc : c.ofPath = true) (hd : d.ofPath = false) : c.index ≠ d.index := by
  cases c
  case watchTornWords | blockedWrites | blockedReads | holdExpiries | heldRequests | initPasses =>
    cases d
    case watchTornWords | blockedWrites | blockedReads | holdExpiries | heldRequests | initPasses => cases hd
    case strayWrites k | damagedSegments k | rewrites k | lateWrites k =>
      simp only [Counter.index, ne_eq, Fin.ext_iff]
      omega
    all_goals decide
  all_goals cases hc

section counters
variable {d : Counter} (hd : d.ofPath = false)
include hd

theorem block_counter (r : Request) (o : Origin) (s : State) : (s.block r o).counter d = s.counter d := by
  rw [block_eq]
  show (s.count (if r.isWrite then .blockedWrites else .blockedReads)).counter d = _
  cases r.isWrite
  · exact count_counter_ne (index_ne_of_ofPath rfl hd) s
  · exact count_counter_ne (index_ne_of_ofPath rfl hd) s

theorem expire_counter (h : Held) (s : State) : (s.expire h).counter d = s.counter d :=
  count_counter_ne (index_ne_of_ofPath rfl hd) _

theorem chainLoop_counter (n : Nat) (i : BitVec 4) (s : State) : (chainLoop n i s).counter d = s.counter d := by
  induction n generalizing s with
  | zero => rfl
  | succ n ih =>
    unfold chainLoop
    cases s.path.oldest i with
    | none => rfl
    | some h =>
      dsimp only
      cases s.classify h.request with
      | hold =>
        dsimp only
        split
        · rw [ih, expire_counter hd]
        · rfl
      | pass taps torn => exact (ih _).trans (countBy_counter_ne (index_ne_of_ofPath rfl hd) torn s)
      | block o => exact (ih _).trans (block_counter hd h.request o _)

theorem reclassifyLeader_counter (i : BitVec 4) (s : State) : (s.reclassifyLeader i).counter d = s.counter d := by
  unfold State.reclassifyLeader
  cases s.path.oldest i with
  | none => rfl
  | some h =>
    dsimp only
    cases s.classify h.request with
    | hold => rfl
    | pass taps torn =>
      exact (chainLoop_counter hd _ i _).trans (countBy_counter_ne (index_ne_of_ofPath rfl hd) torn s)
    | block o => exact (chainLoop_counter hd _ i _).trans (block_counter hd h.request o _)

/-- A cursor advance counts the counters of the path alone (R9). -/
theorem reclassify_counter (s : State) : s.reclassify.counter d = s.counter d := by
  unfold State.reclassify
  generalize s.path.leaders = leaders
  induction leaders generalizing s with
  | nil => rfl
  | cons i rest ih => rw [List.foldl_cons, ih, reclassifyLeader_counter hd]

theorem takeIn_counter (r : Request) (s : State) : (s.takeIn r).counter d = s.counter d := by
  unfold State.takeIn
  split
  · exact count_counter_ne (index_ne_of_ofPath rfl hd) _
  · cases s.classify r with
    | hold => exact count_counter_ne (index_ne_of_ofPath rfl hd) _
    | block o => exact block_counter hd r o s
    | pass taps torn =>
      have htorn := countBy_counter_ne (index_ne_of_ofPath (c := .watchTornWords) rfl hd) torn s
      dsimp only
      split
      · exact (count_counter_ne (index_ne_of_ofPath rfl hd) _).trans htorn
      · exact htorn

/-- The opening of the port counts the counters of the path alone (R1). -/
theorem takeWaiting_counter (s : State) : s.takeWaiting.counter d = s.counter d := by
  unfold State.takeWaiting
  generalize s.path.waiting.length = n
  induction n generalizing s with
  | zero => rfl
  | succ n ih =>
    cases hw : s.path.waiting with
    | nil => rw [takeLoop, hw]
    | cons r rest =>
      by_cases ho : s.path.portOpen = true
      · rw [takeLoop_succ_of_open hw ho, ih, takeIn_counter hd]
        rfl
      · rw [takeLoop, hw]
        exact congrArg (State.counter · d) (if_neg ho)

end counters

/-! ### Pending events stay pending -/

section pending
variable {e : Event}

theorem block_eventPending {s : State} (h : s.eventPending e = true) (r : Request) (o : Origin) :
    (s.block r o).eventPending e = true := by
  have hraised : (s.block r o).eventPending e = (s.raise .guard).eventPending e := by
    rw [block_eq]
    rfl
  rw [hraised]
  exact eventPending_raise h

theorem chainLoop_eventPending (n : Nat) (i : BitVec 4) {s : State} (h : s.eventPending e = true) :
    (chainLoop n i s).eventPending e = true := by
  induction n generalizing s with
  | zero => exact h
  | succ n ih =>
    unfold chainLoop
    cases s.path.oldest i with
    | none => exact h
    | some x =>
      dsimp only
      cases s.classify x.request with
      | hold =>
        dsimp only
        split
        · exact ih h
        · exact h
      | pass taps torn => exact ih h
      | block o => exact ih (block_eventPending (s := s.leaveHold i) h x.request o)

theorem reclassifyLeader_eventPending (i : BitVec 4) {s : State} (h : s.eventPending e = true) :
    (s.reclassifyLeader i).eventPending e = true := by
  unfold State.reclassifyLeader
  cases s.path.oldest i with
  | none => exact h
  | some x =>
    dsimp only
    cases s.classify x.request with
    | hold => exact h
    | pass taps torn => exact chainLoop_eventPending _ i h
    | block o => exact chainLoop_eventPending _ i (block_eventPending (s := s.leaveHold i) h x.request o)

/-- A cursor advance lowers no event (R163). -/
theorem reclassify_eventPending {s : State} (h : s.eventPending e = true) : s.reclassify.eventPending e = true := by
  unfold State.reclassify
  generalize s.path.leaders = leaders
  induction leaders generalizing s with
  | nil => exact h
  | cons i rest ih => exact ih (reclassifyLeader_eventPending i h)

theorem takeIn_eventPending {s : State} (h : s.eventPending e = true) (r : Request) :
    (s.takeIn r).eventPending e = true := by
  unfold State.takeIn
  split
  · exact h
  · cases s.classify r with
    | hold => exact h
    | block o => exact block_eventPending h r o
    | pass taps torn => dsimp only; split <;> exact h

/-- The opening of the port lowers no event (R163). -/
theorem takeWaiting_eventPending {s : State} (h : s.eventPending e = true) : s.takeWaiting.eventPending e = true := by
  unfold State.takeWaiting
  generalize s.path.waiting.length = n
  induction n generalizing s with
  | zero => exact h
  | succ n ih =>
    cases hw : s.path.waiting with
    | nil => rwa [takeLoop, hw]
    | cons r rest =>
      by_cases ho : s.path.portOpen = true
      · rw [takeLoop_succ_of_open hw ho]
        exact ih (takeIn_eventPending (s := s.updPath fun p => { p with waiting := rest }) h r)
      · rw [takeLoop, hw]
        exact (congrArg (State.eventPending · e) (if_neg ho)).trans h

end pending

/-! ### The head line's entry -/

/-- A path that agrees with another but in OTHER. -/
theorem PathUnit.eq_of_sameButOther {x y : PathUnit} (h : PathUnit.SameButOther x y) :
    y = { x with other := y.other } := by
  obtain ⟨h1, h2, h3, h4, h5, h6, h7, h8, h9⟩ := h
  cases x
  cases y
  simp_all

/-- The entry of a line is found unless none is the line's. -/
theorem find_eq_none_iff (u : StitchUnit) (frame : FrameNumber) (slot : Fin 4) (line : Nat) :
    u.find frame slot line = none ↔ ∀ e ∈ u.entries, ¬ (e.frame = frame ∧ e.slot = slot ∧ e.line = line) := by
  simp [StitchUnit.find, and_assoc]

/-- The head line gets its entry (R58, R68). -/
theorem ensureHead_entries_eq (s : State) :
    s.ensureHead.stitch.entries = s.headOpened s.stitch.entries s.tracker.frames := by
  unfold State.ensureHead State.headOpened Tracker.head
  cases s.tracker.frames with
  | nil => rfl
  | cons f rest =>
    dsimp only [List.head?_cons]
    simp only [Option.isNone_iff_eq_none, find_eq_none_iff]
    split <;> rfl

end Sys2Proof.Machine

/-!
Jobs that the stitch unit appends, the release of the head line and the end of the head frame (R66 to R71, R77, R79).
-/

namespace Sys2Proof.Machine

/-! ### A job appended -/

/-- The queue after an append: the job at its tail while the link is UP, and else as it was (R77, R79). -/
theorem appendJob_queue_eq (frame : FrameNumber) (slot : Fin 4) (b : JobBody) (s : State) :
    (s.appendJob frame slot b).sched.queue =
      if s.link.state = .up then
        s.sched.queue ++ [{ id := s.sched.nextJob, frame, slot, body := b, placing := .waiting }]
      else s.sched.queue := by
  unfold State.appendJob
  dsimp only
  split <;> rfl

/-- A job appended while the link is not UP is counted as sunk (R79). -/
theorem appendJob_jobsSunk {s : State} (h : s.link.state ≠ .up) (frame : FrameNumber) (slot : Fin 4) (b : JobBody) :
    (s.appendJob frame slot b).counter .jobsSunk = saturate (s.counter .jobsSunk) 1 := by
  unfold State.appendJob
  dsimp only
  rw [if_neg h]
  exact count_counter_same .jobsSunk _

/-- An append counts at most *jobs sunk* (R79). -/
theorem appendJob_counter {d : Counter} (hd : Counter.jobsSunk.index ≠ d.index) (frame : FrameNumber) (slot : Fin 4)
    (b : JobBody) (s : State) : (s.appendJob frame slot b).counter d = s.counter d := by
  unfold State.appendJob
  dsimp only
  split
  · rfl
  · exact count_counter_ne hd _

/-- The slots after an append: lines that are sunk finish (R44, R79). -/
theorem appendJob_slots (frame : FrameNumber) (slot : Fin 4) (b : JobBody) (s : State) :
    (s.appendJob frame slot b).tracker.slots =
      if s.link.state = .up ∨ (s.tracker.slots[slot]).frame ≠ some frame then s.tracker.slots
      else
        s.tracker.slots.set slot
          { s.tracker.slots[slot] with unfinished := (s.tracker.slots[slot]).unfinished - b.lines } := by
  unfold State.appendJob
  dsimp only
  by_cases hup : s.link.state = .up
  · rw [if_pos hup, if_pos (.inl hup)]
    rfl
  · rw [if_neg hup]
    show (State.finishLines _ _ _ _).tracker.slots = _
    unfold State.finishLines
    by_cases hframe : (s.tracker.slots[slot]).frame = some frame
    · rw [if_neg (not_or.2 ⟨hup, not_not.2 hframe⟩)]
      exact congrArg Tracker.slots (if_pos hframe)
    · rw [if_pos (.inr hframe)]
      exact congrArg Tracker.slots (if_neg hframe)

/-- The tracker after an append, but for its slots (R77). -/
theorem appendJob_tracker_eq (frame : FrameNumber) (slot : Fin 4) (b : JobBody) (s : State) :
    (s.appendJob frame slot b).tracker =
      { s.tracker with slots := (s.appendJob frame slot b).tracker.slots } := by
  obtain ⟨-, -, -, -, -, hstream, hframes, hnewest, -⟩ := appendJob_frame frame slot b s
  generalize (s.appendJob frame slot b).tracker = k at hstream hframes hnewest
  obtain ⟨stream, frames, slots, newest⟩ := k
  obtain rfl : stream = s.tracker.stream := hstream
  obtain rfl : frames = s.tracker.frames := hframes
  obtain rfl : newest = s.tracker.newest := hnewest
  rfl

/-- A job of no lines leaves the tracker (R44). -/
theorem appendJob_frameEnd_tracker (frame : FrameNumber) (slot : Fin 4) (whole torn absent : Nat) (s : State) :
    (s.appendJob frame slot (.frameEnd whole torn absent)).tracker = s.tracker := by
  have hslots : (s.appendJob frame slot (.frameEnd whole torn absent)).tracker.slots = s.tracker.slots := by
    rw [appendJob_slots]
    split
    · rfl
    · exact Vector.set_getElem_self _
  rw [appendJob_tracker_eq, hslots]

/-- An append keeps every slot's frame (R44). -/
theorem appendJob_slot_frame (frame : FrameNumber) (slot : Fin 4) (b : JobBody) (s : State) (i : Fin 4) :
    ((s.appendJob frame slot b).tracker.slots[i]).frame = (s.tracker.slots[i]).frame := by
  rw [appendJob_slots]
  split
  · rfl
  · rw [getElem_set_slot]
    split
    · next h => subst h; rfl
    · rfl

/-! ### The cursor advance -/

/-- The head frame's record after its cursor advanced by `n`. -/
theorem advance_facts {f : FrameRecord} {rest : List FrameRecord} {n : Nat} {upd : FrameRecord → FrameRecord}
    {s : State} (hframes : s.tracker.frames = f :: rest) :
    (s.advance f n upd).tracker =
        { s.tracker with frames := upd { f with cursor := f.cursor + n } :: rest } ∧
      (s.advance f n upd).stitch.entries =
        s.headOpened
          (s.stitch.entries.filter (fun e =>
            !(e.frame == f.frame && e.slot == f.slot && decide (f.cursor ≤ e.line) &&
              decide (e.line < f.cursor + n))))
          (upd { f with cursor := f.cursor + n } :: rest) ∧
      (∀ d : Counter, d.ofPath = false → (s.advance f n upd).counter d = s.counter d) ∧
      SameReads
        ({ s with
          tracker := { s.tracker with frames := upd { f with cursor := f.cursor + n } :: rest } } : State).reclassify
        (s.advance f n upd) := by
  generalize hu : (s.removeLines f.frame f.slot f.cursor n).updHead
    (fun h => upd { h with cursor := h.cursor + n }) = u
  have htracker : u.tracker = { s.tracker with frames := upd { f with cursor := f.cursor + n } :: rest } := by
    rw [← hu]
    show (match s.tracker.frames with
      | [] => s.tracker
      | h :: rest => { s.tracker with frames := upd { h with cursor := h.cursor + n } :: rest }) = _
    rw [hframes]
  have hadvance : s.advance f n upd = u.ensureHead.reclassify := by rw [← hu]; rfl
  rw [hadvance]
  refine ⟨by simp [htracker], ?_, fun d hd => ?_, SameReads.reclassify ?_⟩
  · have hsame : u.ensureHead.reclassify.stitch = u.ensureHead.stitch := by simp
    rw [hsame, ensureHead_entries_eq, htracker]
    unfold State.headOpened
    rw [htracker, ← hu]
    rfl
  · rw [reclassify_counter hd, ensureHead_counter, ← hu]
    rfl
  · refine ⟨by simp [← hu], by simp [← hu], by simp [← hu], ?_, ?_, fun i => ?_, by simp [← hu], by simp [← hu]⟩ <;>
      simp [htracker]

/-! ### The absent run -/

/-- The lines that an absent run takes in have no entry or an OPEN one, and the line that stops it another (R67). -/
theorem runLoop_facts (u : StitchUnit) (frame : FrameNumber) (slot : Fin 4) (fuel line : Nat) :
    runLoop u frame slot fuel line ≤ fuel ∧
      (∀ l, line ≤ l → l < line + runLoop u frame slot fuel line → ∀ x, u.find frame slot l = some x →
        x.state = .openState) ∧
      (runLoop u frame slot fuel line < fuel →
        ∃ x, u.find frame slot (line + runLoop u frame slot fuel line) = some x ∧ x.state ≠ .openState) := by
  induction fuel generalizing line with
  | zero => exact ⟨le_rfl, fun l h1 h2 => by simp only [runLoop] at h2; omega, fun h => absurd h (Nat.not_lt_zero _)⟩
  | succ fuel ih =>
    obtain ⟨hle, hopen, hstop⟩ := ih (line + 1)
    have hgo (hline : ∀ x, u.find frame slot line = some x → x.state = .openState)
        (hrun : runLoop u frame slot (fuel + 1) line = runLoop u frame slot fuel (line + 1) + 1) :
        runLoop u frame slot (fuel + 1) line ≤ fuel + 1 ∧
          (∀ l, line ≤ l → l < line + runLoop u frame slot (fuel + 1) line → ∀ x, u.find frame slot l = some x →
            x.state = .openState) ∧
          (runLoop u frame slot (fuel + 1) line < fuel + 1 →
            ∃ x, u.find frame slot (line + runLoop u frame slot (fuel + 1) line) = some x ∧
              x.state ≠ .openState) := by
      rw [hrun]
      refine ⟨by omega, fun l h1 h2 => ?_, fun h => ?_⟩
      · obtain rfl | hlt := Nat.eq_or_lt_of_le h1
        · exact hline
        · exact hopen l hlt (by omega)
      · have hnext : line + (runLoop u frame slot fuel (line + 1) + 1) =
            line + 1 + runLoop u frame slot fuel (line + 1) := by omega
        rw [hnext]
        exact hstop (by omega)
    cases hfind : u.find frame slot line with
    | none => exact hgo (by simp [hfind]) (by rw [runLoop, hfind])
    | some e =>
      by_cases he : e.state = .openState
      · refine hgo (fun x hx => ?_) (by rw [runLoop, hfind]; exact if_pos he)
        rwa [← Option.some.inj (hfind.symm.trans hx)]
      · have hrun : runLoop u frame slot (fuel + 1) line = 0 := by rw [runLoop, hfind]; exact if_neg he
        rw [hrun]
        exact ⟨Nat.zero_le _, fun l h1 h2 => by omega, fun _ => ⟨e, hfind, he⟩⟩

/-! ### The release -/

/-- What a release does with the job body `b` of `n` lines, the counter `c` counted `n` times and the head frame's
record `f'` (R66 to R68). -/
structure ReleasedAs (s t : State) (f : FrameRecord) (rest : List FrameRecord) (b : JobBody) (f' : FrameRecord)
    (n : Nat) (c : Counter) : Prop where
  tracker : t.tracker =
    { s.tracker with
      frames := f' :: rest
      slots :=
        if s.link.state = .up ∨ (s.tracker.slots[f.slot]).frame ≠ some f.frame then s.tracker.slots
        else
          s.tracker.slots.set f.slot
            { s.tracker.slots[f.slot] with
              unfinished := (s.tracker.slots[f.slot]).unfinished - (f'.cursor - f.cursor) } }
  entries : t.stitch.entries =
    s.headOpened
      (s.stitch.entries.filter (fun e =>
        !(e.frame == f.frame && e.slot == f.slot && decide (f.cursor ≤ e.line) && decide (e.line < f'.cursor))))
      (f' :: rest)
  queue : t.sched.queue =
    if s.link.state = .up then
      s.sched.queue ++ [{ id := s.sched.nextJob, frame := f.frame, slot := f.slot, body := b, placing := .waiting }]
    else s.sched.queue
  sunk : s.link.state ≠ .up → t.counter .jobsSunk = saturate (s.counter .jobsSunk) 1
  map : t.map = s.map
  rings : t.rings = s.rings
  link : t.link = s.link
  mbox : t.mbox = s.mbox
  counted : t.counter c = saturate (s.counter c) n
  waiting : t.path.waiting = s.path.waiting
  path : t.path = ({ s with tracker := { s.tracker with frames := f' :: rest } } : State).reclassify.path

/-- A job of `n` lines is appended and the cursor advances by `n` (R66 to R68). -/
theorem releasedAs_advance {f : FrameRecord} {rest : List FrameRecord} {b : JobBody} {n : Nat} {c : Counter}
    {upd : FrameRecord → FrameRecord} {s : State} (hframes : s.tracker.frames = f :: rest) (hb : b.lines = n)
    (hcursor : (upd { f with cursor := f.cursor + n }).cursor = f.cursor + n) (hc : c.ofPath = false)
    (hsunk : Counter.jobsSunk.index ≠ c.index) :
    ReleasedAs s (((s.countBy c n).appendJob f.frame f.slot b).advance f n upd) f rest b
      (upd { f with cursor := f.cursor + n }) n c := by
  generalize hu : (s.countBy c n).appendJob f.frame f.slot b = u
  have huframes : u.tracker.frames = f :: rest := by simp [← hu, hframes]
  obtain ⟨htracker, hentries, hcounter, hreads⟩ := advance_facts (n := n) (upd := upd) huframes
  have hutracker : u.tracker = { s.tracker with slots := u.tracker.slots } := by
    rw [← hu]
    exact appendJob_tracker_eq _ _ _ (s.countBy c n)
  have hslots : u.tracker.slots =
      if s.link.state = .up ∨ (s.tracker.slots[f.slot]).frame ≠ some f.frame then s.tracker.slots
      else
        s.tracker.slots.set f.slot
          { s.tracker.slots[f.slot] with unfinished := (s.tracker.slots[f.slot]).unfinished - n } := by
    rw [← hu, appendJob_slots, hb]
    rfl
  have hbase : SameReads
      { s with tracker := { s.tracker with frames := upd { f with cursor := f.cursor + n } :: rest } }
      { u with tracker := { u.tracker with frames := upd { f with cursor := f.cursor + n } :: rest } } :=
    ⟨by simp [← hu], by simp [← hu], by simp [← hu], by simp [← hu], rfl,
      fun i => by rw [← hu]; exact appendJob_slot_frame _ _ _ (s.countBy c n) i, by simp [← hu], by simp [← hu]⟩
  have hpath := (hbase.reclassify.trans hreads).path
  refine ⟨?_, ?_, ?_, fun hdown => ?_, by simp [← hu], by simp [← hu], by simp [← hu], by simp [← hu], ?_,
    by simp [← hu], hpath⟩
  · rw [htracker, hutracker, hslots, hcursor, Nat.add_sub_cancel_left]
  · rw [hentries, hcursor]
    have hstitch : u.stitch = s.stitch ∧ u.link = s.link ∧ u.tracker.stream = s.tracker.stream := by simp [← hu]
    unfold State.headOpened
    rw [hstitch.1, hstitch.2.1, hstitch.2.2]
  · have hqueue : (u.advance f n upd).sched = u.sched := by simp
    rw [hqueue, ← hu]
    exact appendJob_queue_eq _ _ _ (s.countBy c n)
  · rw [hcounter _ rfl, ← hu]
    exact (appendJob_jobsSunk (s := s.countBy c n) hdown _ _ _).trans
      (congrArg (saturate · 1) (countBy_counter_ne hsunk.symm n s))
  · rw [hcounter c hc, ← hu, appendJob_counter hsunk, countBy_counter_same]

/-- The rest of a release does nothing to what the release did: the list is not empty, and the port's opening touches
the queues, the guard fault record and the counters of the path (R1, R73). -/
theorem ReleasedAs.finished {s u : State} {f f' : FrameRecord} {rest : List FrameRecord} {b : JobBody} {n : Nat}
    {c : Counter} (h : ReleasedAs s u f rest b f' n c) :
    u.drainTest.takeWaiting = u.takeWaiting ∧
      (s.path.waiting = [] → u.takeWaiting.path =
        ({ s with tracker := { s.tracker with frames := f' :: rest } } : State).reclassify.path) := by
  have hhead : u.tracker.head = some f' := by rw [h.tracker]; rfl
  refine ⟨by rw [drainTest_of_frame hhead], fun hw => ?_⟩
  rw [takeWaiting_of_nil (by rw [h.waiting, hw]), h.path]

/-- The released head line has no entry after the release (R66, R68). -/
theorem find_released {f f' : FrameRecord} {rest : List FrameRecord} {s t : State}
    (hcursor : f.cursor < f'.cursor)
    (hentries : t.stitch.entries =
      s.headOpened
        (s.stitch.entries.filter (fun e =>
          !(e.frame == f.frame && e.slot == f.slot && decide (f.cursor ≤ e.line) && decide (e.line < f'.cursor))))
        (f' :: rest)) :
    t.stitch.find f.frame f.slot f.cursor = none := by
  rw [find_eq_none_iff, hentries]
  have hgone : ∀ e ∈ s.stitch.entries.filter (fun e =>
      !(e.frame == f.frame && e.slot == f.slot && decide (f.cursor ≤ e.line) && decide (e.line < f'.cursor))),
      ¬ (e.frame = f.frame ∧ e.slot = f.slot ∧ e.line = f.cursor) := by
    rintro e he ⟨h1, h2, h3⟩
    obtain ⟨-, hkept⟩ := List.mem_filter.1 he
    simp [h1, h2, h3, hcursor] at hkept
  unfold State.headOpened
  dsimp only
  split
  · intro e he
    obtain he | he := List.mem_append.1 he
    · exact hgone e he
    · obtain rfl := List.mem_singleton.1 he
      exact fun ⟨_, _, hline⟩ => absurd hline (by dsimp only; omega)
  · exact hgone

/-- RELEASE of a settled head line with room in the queue (R66). -/
theorem exec_release {f : FrameRecord} {rest : List FrameRecord} {e : LineEntry} {s : State}
    (hframes : s.tracker.frames = f :: rest) (hfind : s.stitch.find f.frame f.slot f.cursor = some e)
    (hsettled : e.state.settled = true) (hline : f.cursor < s.tracker.stream.lines)
    (hroom : s.sched.queue.length < 16) :
    ∃ due, exec .release s = .next (((s.releaseHead f e).drainTest.takeWaiting).withDue due) := by
  have hrelease : s.release = (s.releaseHead f e).drainTest.takeWaiting := by
    unfold State.release Tracker.head
    rw [hframes]
    dsimp only [List.head?_cons]
    rw [hfind]
    exact if_pos ⟨hline, hsettled, decide_eq_true hroom⟩
  obtain ⟨due, hdue⟩ := changeIn_eq_withDue releaseOrder State.release s
  exact ⟨due, by rw [← hrelease]; exact hdue⟩

/-- The present set of an entry (R66). -/
theorem present_facts (e : LineEntry) : e.present.Pairwise (· < ·) ∧
    ∀ k : Fin 6, k ∈ e.present ↔ ∃ g, e.segments[k.val]? = some g ∧ g.state = .full := by
  unfold LineEntry.present
  refine ⟨(List.pairwise_lt_finRange 6).filter _, fun k => ?_⟩
  rw [List.mem_filter]
  unfold LineEntry.segment Segment.isFull
  rw [List.getD_eq_getElem?_getD]
  by_cases hk : k.val < e.segments.length
  · simp [hk]
  · simp [hk]

/-- What the three kinds of release have in common, from what one of them did (R66 to R68). -/
theorem releaseAppends_of_releasedAs {s : State} {f f' : FrameRecord} {rest : List FrameRecord} {e : LineEntry}
    {b : JobBody} {n : Nat} {c : Counter} (hframes : s.tracker.frames = f :: rest)
    (hfind : s.stitch.find f.frame f.slot f.cursor = some e) (hsettled : e.state.settled = true)
    (hline : f.cursor < s.tracker.stream.lines) (hroom : s.sched.queue.length < 16)
    (h : ReleasedAs s (s.releaseHead f e) f rest b f' n c) (hframe : f'.frame = f.frame ∧ f'.slot = f.slot)
    (hcursor : f.cursor < f'.cursor) (hc : c.ofPath = false) :
    ∃ t : State, exec .release s = .next t ∧
      t.tracker.frames = f' :: rest ∧ f'.frame = f.frame ∧ f'.slot = f.slot ∧
      t.stitch.find f.frame f.slot f.cursor = none ∧
      t.stitch.entries =
        s.headOpened
          (s.stitch.entries.filter (fun e =>
            !(e.frame == f.frame && e.slot == f.slot && decide (f.cursor ≤ e.line) &&
              decide (e.line < f'.cursor))))
          (f' :: rest) ∧
      t.sched.queue =
        (if s.link.state = .up then
          s.sched.queue ++ [{ id := s.sched.nextJob, frame := f.frame, slot := f.slot, body := b,
                              placing := .waiting }]
         else s.sched.queue) ∧
      t.tracker =
        { s.tracker with
          frames := f' :: rest
          slots :=
            if s.link.state = .up ∨ (s.tracker.slots[f.slot]).frame ≠ some f.frame then s.tracker.slots
            else
              s.tracker.slots.set f.slot
                { s.tracker.slots[f.slot] with
                  unfinished := (s.tracker.slots[f.slot]).unfinished - (f'.cursor - f.cursor) } } ∧
      (s.link.state ≠ .up → t.counter .jobsSunk = saturate (s.counter .jobsSunk) 1) ∧
      t.map = s.map ∧ t.rings = s.rings ∧ t.link = s.link ∧ t.mbox = s.mbox ∧
      t.counter c = saturate (s.counter c) n ∧
      (s.path.waiting = [] →
        t.path = ({ s with tracker := { s.tracker with frames := f' :: rest } } : State).reclassify.path) := by
  obtain ⟨due, hexec⟩ := exec_release hframes hfind hsettled hline hroom
  obtain ⟨hdrain, hpath⟩ := h.finished
  rw [hdrain] at hexec
  generalize s.releaseHead f e = u at h hexec hpath
  have hcounter {d : Counter} (hd : d.ofPath = false) : (u.takeWaiting.withDue due).counter d = u.counter d :=
    takeWaiting_counter hd u
  have hentries : (u.takeWaiting.withDue due).stitch.entries = u.stitch.entries := by simp [State.withDue]
  refine ⟨_, hexec, by simp [State.withDue, h.tracker], hframe.1, hframe.2, ?_, hentries.trans h.entries, ?_, ?_,
    fun hdown => (hcounter rfl).trans (h.sunk hdown), ?_, ?_, ?_, ?_, (hcounter hc).trans h.counted, hpath⟩
  · exact find_released hcursor (hentries.trans h.entries)
  · rw [← h.queue]; simp [State.withDue]
  · rw [← h.tracker]; simp [State.withDue]
  · rw [← h.map]; simp [State.withDue]
  · rw [← h.rings]; simp [State.withDue]
  · rw [← h.link]; simp [State.withDue]
  · rw [← h.mbox]; simp [State.withDue]

/-- The head frame's record after the release of a TORN line (R66, R68). -/
def FrameRecord.passedTorn (f : FrameRecord) : FrameRecord := { f with cursor := f.cursor + 1, torn := f.torn + 1 }

/-- The head frame's record after the release of an absent run of `n` lines (R67, R68). -/
def FrameRecord.passedAbsent (f : FrameRecord) (n : Nat) : FrameRecord :=
  { f with cursor := f.cursor + n, absent := f.absent + n }

/-- The release of a settled head line, by its kind (R66, R67). -/
theorem releaseHead_releasedAs {f : FrameRecord} {rest : List FrameRecord} {s : State} (e : LineEntry)
    (hframes : s.tracker.frames = f :: rest) :
    (e.state = .whole → ReleasedAs s (s.releaseHead f e) f rest
      (.line e.line .whole e.present (e.present.headD 0) 0) f.passedWhole 1 .linesWhole) ∧
    (e.state = .torn → ReleasedAs s (s.releaseHead f e) f rest
      (.line e.line .torn e.present (e.present.headD 0) 0) f.passedTorn 1 .linesTorn) ∧
    (e.state = .absent → ReleasedAs s (s.releaseHead f e) f rest (.absentRun f.cursor (s.runLength f))
      (f.passedAbsent (s.runLength f)) (s.runLength f) .linesAbsent) := by
  unfold State.releaseHead
  dsimp only
  refine ⟨fun h => ?_, fun h => ?_, fun h => ?_⟩ <;> rw [h]
  · exact releasedAs_advance (c := .linesWhole) (upd := fun h => { h with whole := h.whole + 1 }) hframes rfl rfl rfl
      (by decide)
  · exact releasedAs_advance (c := .linesTorn) (upd := fun h => { h with torn := h.torn + 1 }) hframes rfl rfl rfl
      (by decide)
  · exact releasedAs_advance (c := .linesAbsent)
      (upd := fun h => { h with absent := h.absent + s.runLength f }) hframes rfl rfl rfl (by decide)

/-- Settles O21, by the kind of the released line. -/
theorem releaseAppendsOneJob : Obligations.ReleaseAppendsOneJob := by
  refine ⟨fun _ => rfl, fun i h s ho => ?_, fun f rest e s hframes hfind hsettled hline hroom => ?_, present_facts⟩
  · unfold State.reclassifyLeader
    rw [ho] <;> rfl
  · obtain ⟨hwhole, htorn, habsent⟩ := releaseHead_releasedAs e hframes
    cases hst : e.state with
    | openState | live => simp [hst, EntryState.settled] at hsettled
    | whole =>
      obtain ⟨t, hexec, hf, h1, h2, h3, h4, h5, h6, h7, h8, h9, h10, h11, hcount, hpath⟩ :=
        releaseAppends_of_releasedAs hframes hfind hsettled hline hroom (hwhole hst) ⟨rfl, rfl⟩ (Nat.lt_succ_self _) rfl
      exact ⟨t, _, _, hexec, hf, h1, h2, h3, h4, h5, h6, h7, h8, h9, h10, h11,
        fun _ => ⟨rfl, rfl, rfl, rfl, rfl, hcount⟩, nofun, nofun, hpath⟩
    | torn =>
      obtain ⟨t, hexec, hf, h1, h2, h3, h4, h5, h6, h7, h8, h9, h10, h11, hcount, hpath⟩ :=
        releaseAppends_of_releasedAs hframes hfind hsettled hline hroom (htorn hst) ⟨rfl, rfl⟩ (Nat.lt_succ_self _) rfl
      exact ⟨t, _, _, hexec, hf, h1, h2, h3, h4, h5, h6, h7, h8, h9, h10, h11, nofun,
        fun _ => ⟨rfl, rfl, rfl, rfl, rfl, hcount⟩, nofun, hpath⟩
    | absent =>
      obtain ⟨hfuel, hopen, hstop⟩ := runLoop_facts s.stitch f.frame f.slot (s.tracker.stream.lines - f.cursor - 1)
        (f.cursor + 1)
      have hrun : s.runLength f = 1 + runLoop s.stitch f.frame f.slot (s.tracker.stream.lines - f.cursor - 1)
        (f.cursor + 1) := rfl
      have hcursor : f.cursor < (f.passedAbsent (s.runLength f)).cursor := by
        show f.cursor < f.cursor + s.runLength f
        omega
      obtain ⟨t, hexec, hf, h1, h2, h3, h4, h5, h6, h7, h8, h9, h10, h11, hcount, hpath⟩ :=
        releaseAppends_of_releasedAs hframes hfind hsettled hline hroom (habsent hst) ⟨rfl, rfl⟩ hcursor rfl
      refine ⟨t, _, _, hexec, hf, h1, h2, h3, h4, h5, h6, h7, h8, h9, h10, h11, nofun, nofun,
        fun _ => ⟨s.runLength f, by omega, by omega, rfl, rfl, rfl, rfl, rfl, hcount, fun l hl hlt => ?_, fun hlt => ?_⟩,
        hpath⟩
      · exact hopen l hl (by omega)
      · have hnext : f.cursor + s.runLength f = f.cursor + 1 + runLoop s.stitch f.frame f.slot
            (s.tracker.stream.lines - f.cursor - 1) (f.cursor + 1) := by omega
        rw [hnext]
        exact hstop (by omega)

end Sys2Proof.Machine

/-!
The end of the head frame (R69, R73) and accepted frame marks (R42 to R48, R72).
-/

namespace Sys2Proof.Machine

/-! ### The end of the head frame -/

/-- What the end of the head frame does before the drain is tested (R69). -/
def State.endedHead (f : FrameRecord) (s : State) : State :=
  (((s.appendJob f.frame f.slot (.frameEnd f.whole f.torn f.absent)).updTracker fun k =>
    { k with frames := k.frames.tail }).ensureHead).reclassify

theorem endHead_eq (f : FrameRecord) (s : State) : s.endHead f = (s.endedHead f).drainTest := rfl

/-- The end of the head frame before the drain is tested (R68, R69, R79). -/
theorem endedHead_facts {f : FrameRecord} {rest : List FrameRecord} {s : State}
    (hframes : s.tracker.frames = f :: rest) :
    (s.endedHead f).tracker = { s.tracker with frames := rest } ∧
      (s.endedHead f).sched.queue =
        (if s.link.state = .up then
          s.sched.queue ++ [{ id := s.sched.nextJob, frame := f.frame, slot := f.slot,
                              body := .frameEnd f.whole f.torn f.absent, placing := .waiting }]
         else s.sched.queue) ∧
      (s.link.state ≠ .up → (s.endedHead f).counter .jobsSunk = saturate (s.counter .jobsSunk) 1) ∧
      (∀ d : Counter, d.ofPath = false → Counter.jobsSunk.index ≠ d.index →
        (s.endedHead f).counter d = s.counter d) ∧
      (s.endedHead f).stitch.entries = s.headOpened s.stitch.entries rest ∧
      SameReads ({ s with tracker := { s.tracker with frames := rest } } : State).reclassify (s.endedHead f) := by
  generalize hu : (s.appendJob f.frame f.slot (.frameEnd f.whole f.torn f.absent)).updTracker
    (fun k => { k with frames := k.frames.tail }) = u
  have htracker : u.tracker = { s.tracker with frames := rest } := by
    rw [← hu]
    show ({ (s.appendJob f.frame f.slot (.frameEnd f.whole f.torn f.absent)).tracker with
      frames := (s.appendJob f.frame f.slot (.frameEnd f.whole f.torn f.absent)).tracker.frames.tail } : Tracker) = _
    rw [appendJob_frameEnd_tracker, hframes]
    rfl
  have hended : s.endedHead f = u.ensureHead.reclassify := by rw [← hu]; rfl
  have hcounter (d : Counter) (hd : d.ofPath = false) : u.ensureHead.reclassify.counter d = u.counter d := by
    rw [reclassify_counter hd, ensureHead_counter]
  rw [hended]
  refine ⟨by simp [htracker], ?_, fun hdown => ?_, fun d hd hne => ?_, ?_, SameReads.reclassify ?_⟩
  · have hqueue : u.ensureHead.reclassify.sched = u.sched := by simp
    rw [hqueue, ← hu]
    exact appendJob_queue_eq _ _ _ s
  · rw [hcounter _ rfl, ← hu]
    exact appendJob_jobsSunk hdown _ _ _
  · rw [hcounter d hd, ← hu]
    exact appendJob_counter hne _ _ _ s
  · have hstitch : u.ensureHead.reclassify.stitch = u.ensureHead.stitch := by simp
    rw [hstitch, ensureHead_entries_eq, htracker]
    have hsame : u.stitch = s.stitch ∧ u.link = s.link := by simp [← hu]
    unfold State.headOpened
    rw [htracker, hsame.1, hsame.2]
  · refine ⟨by simp [← hu], by simp [← hu], by simp [← hu], ?_, ?_, fun i => ?_, by simp [← hu], by simp [← hu]⟩ <;>
      simp [htracker]

/-- The end of the drain: the stream CLOSED, STREAM_CLOSED raised and CLOSE STREAM done (R38, R73). -/
theorem drainTest_of_drained {s : State} (hdrained : s.tracker.stream.state = .draining ∧ s.tracker.frames = [] ∧
      s.sched.queue = []) :
    s.drainTest.tracker =
        { s.tracker with stream := Stream.closed, slots := s.tracker.slots.map (fun r => { r with unfinished := 0 }) } ∧
      s.drainTest.eventPending .streamClosed = true ∧
      ∀ tag, s.mbox.running = some { code := Command.closeStream.code, tag } →
        s.drainTest.mbox = { s.mbox with running := none } ∧
          s.drainTest.path.other =
            s.path.other ++ finalWrites s Command.closeStream.code tag .noError [s.countWord] := by
  unfold State.drainTest
  rw [if_pos hdrained]
  dsimp only
  generalize hu : ((s.updTracker fun t =>
    { t with stream := Stream.closed, slots := t.slots.map (fun r => { r with unfinished := 0 }) }).raise
      .streamClosed) = u
  have hpending : u.eventPending .streamClosed = true := by
    rw [← hu]
    exact raise_eventPending .streamClosed _
  have hsame : u.mbox = s.mbox ∧ u.path = s.path ∧ u.straps = s.straps := by rw [← hu]; exact ⟨rfl, rfl, rfl⟩
  refine ⟨by simp [← hu], by simpa [State.eventPending] using hpending, fun tag hrun => ?_⟩
  have hurun : u.mbox.running = some { code := Command.closeStream.code, tag } := by rw [hsame.1, hrun]
  have hruns : u.isRunning .closeStream = true := (isRunning_iff _ _).2 ⟨_, hurun, rfl⟩
  rw [State.finishIf, if_pos hruns, finish_of_running hurun]
  dsimp only
  rw [hsame.1, hsame.2.1]
  have hwrites : finalWrites u Command.closeStream.code tag .noError [s.countWord] =
      finalWrites s Command.closeStream.code tag .noError [s.countWord] := by
    simp [finalWrites, resultDataWrite, resultWordWrite, hsame.2.2]
  rw [hwrites]
  exact ⟨rfl, rfl⟩

/-- A drain that does not end leaves the part (R73). -/
theorem drainTest_of_not_drained {s : State} (h : ¬ (s.tracker.stream.state = .draining ∧ s.tracker.frames = [] ∧
    s.sched.queue = [])) : s.drainTest = s := if_neg h

/-- Settles O22: the end of the head frame, and then of the drain. -/
theorem frameEndClosesHeadFrame : Obligations.FrameEndClosesHeadFrame := by
  intro f rest s hframes hcursor hroom
  obtain ⟨htracker, hqueue, hsunk, -, hentries, hreads⟩ := endedHead_facts hframes
  have hend : s.endFrame = (s.endHead f).takeWaiting := by
    unfold State.endFrame Tracker.head
    rw [hframes]
    dsimp only [List.head?_cons]
    refine if_pos ?_
    rw [State.frameEndDue, Bool.and_eq_true]
    exact ⟨decide_eq_true hcursor, decide_eq_true hroom⟩
  obtain ⟨due, hdue⟩ := changeIn_eq_withDue jobOrder State.endFrame s
  rw [hend, endHead_eq] at hdue
  have hown : (s.endedHead f).mbox = s.mbox ∧ (s.endedHead f).path.other = s.path.other ∧
      (s.endedHead f).straps = s.straps ∧ (s.endedHead f).link = s.link ∧ (s.endedHead f).map = s.map ∧
      (s.endedHead f).rings = s.rings ∧ (s.endedHead f).path.waiting = s.path.waiting := by
    simp [State.endedHead]
  generalize s.endedHead f = u at hdue htracker hqueue hsunk hentries hreads hown
  obtain ⟨hmbox, hother, hstraps, hlink, hmap, hrings, hwaiting⟩ := hown
  have hcount : u.drainTest.takeWaiting.counter .jobsSunk = u.counter .jobsSunk := by
    rw [takeWaiting_counter rfl, drainTest_counter]
  have hsched : (u.drainTest.takeWaiting.withDue due).sched.queue = u.sched.queue := by simp [State.withDue]
  refine ⟨_, hdue, ?_, hsched.trans hqueue, fun hdown => hcount.trans (hsunk hdown), ?_, ?_, ?_, ?_, fun hw => ?_, ?_⟩
  · simp [State.withDue, htracker]
  · rw [← hmap]; simp [State.withDue]
  · rw [← hrings]; simp [State.withDue]
  · rw [← hlink]; simp [State.withDue]
  · rw [← hentries]; simp [State.withDue]
  · have hnil : u.drainTest.path.waiting = [] := by simp [hwaiting, hw]
    rw [takeWaiting_of_nil hnil, ← hreads.path]
    exact PathUnit.eq_of_sameButOther (drainTest_frame u).2.2.1
  · rw [hsched]
    have hdrained : (u.tracker.stream.state = .draining ∧ u.tracker.frames = [] ∧ u.sched.queue = []) ↔
        (s.tracker.stream.state = .draining ∧ rest = [] ∧ u.sched.queue = []) := by
      rw [htracker]
    have hopened : (u.drainTest.takeWaiting.withDue due).tracker = u.drainTest.tracker ∧
        (u.drainTest.takeWaiting.withDue due).mbox = u.drainTest.mbox ∧
        (u.drainTest.takeWaiting.withDue due).path.other = u.drainTest.path.other := by
      simp [State.withDue]
    split
    · next hd =>
      obtain ⟨hclosed, hpending, hdone⟩ := drainTest_of_drained (hdrained.2 hd)
      obtain ⟨-, hrest, -⟩ := hd
      rw [hopened.1, hopened.2.1, hopened.2.2, hclosed, htracker, hrest]
      refine ⟨rfl, ?_, fun tag hrun => ?_⟩
      · exact takeWaiting_eventPending hpending
      · obtain ⟨hbox, hwrites⟩ := hdone tag (by rw [hmbox, hrun])
        rw [hbox, hwrites, hmbox, hother]
        refine ⟨rfl, ?_⟩
        simp [finalWrites, resultDataWrite, resultWordWrite, hstraps, State.countWord, hlink]
    · next hd =>
      rw [hopened.1, hopened.2.1, hopened.2.2, drainTest_of_not_drained fun h => hd (hdrained.1 h)]
      exact ⟨htracker, hmbox, hother⟩

end Sys2Proof.Machine

/-!
Accepted frame marks: on a free slot (R42 to R45) and on a pinned one (R45 to R48, R72).
-/

namespace Sys2Proof.Machine

/-! ### Acceptance -/

/-- The tracker once a frame is on its slot and at the tail of the list (R42). -/
def Tracker.marked (k : Tracker) (frame : FrameNumber) (slot : Fin 4) : Tracker :=
  { k with
    slots := k.slots.set slot { frame := some frame, unfinished := k.stream.lines }
    frames := k.frames ++ [{ frame, slot, cursor := 0, whole := 0, torn := 0, absent := 0 }]
    newest := some frame }

/-- A mark in sequence with a good slot index is accepted (R40 to R42). -/
theorem frameMark_accepted {value : Word} {i : Fin 4} {frame : FrameNumber} {s : State}
    (hopen : s.tracker.stream.state = .openState) (hi : i.val = bits value 23 16)
    (hframe : frame = BitVec.ofNat 16 (bits value 15 0)) (hslot : i.val < s.tracker.stream.slotCount)
    (hahead : ∀ n, s.tracker.newest = some n → aheadOf frame n = true) :
    s.frameMark s.tracker.stream.markWord value = s.acceptMark frame i := by
  subst hframe
  have hbelow : markSlot value < s.tracker.stream.slotCount := lt_of_eq_of_lt hi.symm hslot
  have hfour : markSlot value < 4 := lt_of_eq_of_lt hi.symm i.isLt
  have hindex : (⟨markSlot value, hfour⟩ : Fin 4) = i := Fin.ext hi.symm
  rw [frameMark_of_inSequence hopen hbelow hfour ((inSequence_eq_true_iff _ _).2 hahead), hindex]

/-- FRAME_MARK of an accepted mark (R42). -/
theorem exec_frameMark_accepted {value : Word} {i : Fin 4} {frame : FrameNumber} {s : State}
    (hopen : s.tracker.stream.state = .openState) (hi : i.val = bits value 23 16)
    (hframe : frame = BitVec.ofNat 16 (bits value 15 0)) (hslot : i.val < s.tracker.stream.slotCount)
    (hahead : ∀ n, s.tracker.newest = some n → aheadOf frame n = true) :
    ∃ due, exec (.frameMark s.tracker.stream.markWord value) s =
      .next ((s.acceptMark frame i).takeWaiting.withDue due) := by
  obtain ⟨due, hdue⟩ := changeIn_eq_withDue markOrder
    (fun t => (t.frameMark s.tracker.stream.markWord value).takeWaiting) s
  rw [frameMark_accepted hopen hi hframe hslot hahead] at hdue
  exact ⟨due, hdue⟩

/-- A mark on a slot that pins no frame drops none (R42). -/
theorem acceptMark_of_free {frame : FrameNumber} {i : Fin 4} {s u : State} (hend : s.endFinished i = u)
    (hpin : u.tracker.pinned i = none) :
    s.acceptMark frame i = (u.updTracker (·.marked frame i)).ensureHead := by
  unfold State.acceptMark
  dsimp only
  rw [hend, hpin]
  exact if_neg Bool.false_ne_true

/-- A mark on a pinned slot drops its frame (R45 to R47). -/
theorem acceptMark_of_pinned {frame old : FrameNumber} {i : Fin 4} {s : State} (hend : s.endFinished i = s)
    (hpin : s.tracker.pinned i = some old) :
    s.acceptMark frame i =
      if (s.tracker.indexOf old i).isSome then
        (((s.dropFrame old i).updTracker (·.marked frame i)).ensureHead).reclassify
      else ((s.dropFrame old i).updTracker (·.marked frame i)).ensureHead := by
  unfold State.acceptMark
  dsimp only
  rw [hend, hpin]
  rfl

theorem indexOf_eq_none {t : Tracker} {frame : FrameNumber} {i : Fin 4} (h : ∀ f ∈ t.frames, f.slot ≠ i) :
    t.indexOf frame i = none := by
  unfold Tracker.indexOf
  rw [List.findIdx?_eq_none_iff]
  intro f hf
  simp [h f hf]

/-- A slot with no unfinished line and no frame on the list pins none (R45). -/
theorem pinned_eq_none {t : Tracker} {i : Fin 4} (hfinished : (t.slots[i]).unfinished = 0)
    (hfree : ∀ f ∈ t.frames, f.slot ≠ i) : t.pinned i = none := by
  unfold Tracker.pinned
  dsimp only
  rw [Option.filter_eq_none_iff]
  intro f hf
  rw [hfinished, indexOf_eq_none hfree]
  exact Bool.false_ne_true

/-- A slot with unfinished lines pins its frame (R45). -/
theorem pinned_eq_some {t : Tracker} {i : Fin 4} {old : FrameNumber} (hframe : (t.slots[i]).frame = some old)
    (hlines : 0 < (t.slots[i]).unfinished) : t.pinned i = some old := by
  unfold Tracker.pinned
  dsimp only
  rw [hframe, Option.filter_some, if_pos]
  simp only [Bool.or_eq_true, decide_eq_true_eq]
  exact .inl hlines

/-- No FRAME_END is taken before a mark whose slot has unfinished lines, or is not the head frame's (R43). -/
theorem endFinished_of_not {i : Fin 4} {s : State}
    (h : 0 < (s.tracker.slots[i]).unfinished ∨ ∀ f ∈ s.tracker.frames, f.slot ≠ i) : s.endFinished i = s := by
  unfold State.endFinished Tracker.head
  cases hframes : s.tracker.frames with
  | nil => rfl
  | cons f rest =>
    refine if_neg fun ⟨hslot, _, hzero, _⟩ => ?_
    obtain hlines | hfree := h
    · omega
    · exact hfree f (by rw [hframes]; exact List.mem_cons_self) hslot

/-- The due FRAME_END of a finished head frame is taken before a mark on its slot (R43, R69). -/
theorem endFinished_of_due {i : Fin 4} {f : FrameRecord} {rest : List FrameRecord} {s : State}
    (hframes : s.tracker.frames = f :: rest) (hslot : f.slot = i)
    (hrecord : s.tracker.slots[i] = { frame := some f.frame, unfinished := 0 })
    (hcursor : f.cursor = s.tracker.stream.lines) (hroom : s.sched.queue.length < 16) :
    s.endFinished i = s.endHead f := by
  unfold State.endFinished Tracker.head
  rw [hframes]
  refine if_pos ⟨hslot, by rw [hrecord], by rw [hrecord], ?_⟩
  rw [State.frameEndDue, Bool.and_eq_true]
  exact ⟨decide_eq_true hcursor, decide_eq_true hroom⟩

/-! ### Marks on a free slot -/

/-- Settles O19: a slot that pins nothing, and one whose frame's FRAME_END is due. -/
theorem markAcceptedOnFreeSlot : Obligations.MarkAcceptedOnFreeSlot := by
  refine ⟨fun value i frame s hopen hwait hi hframe hslot hahead hfinished hfree hlines => ?_,
    fun value i frame f rest s hopen hi hframe hslot hahead hframes hfslot hrest hrecord hcursor hroom => ?_⟩
  · obtain ⟨due, hexec⟩ := exec_frameMark_accepted hopen hi hframe hslot hahead
    have hmark := acceptMark_of_free (frame := frame) (endFinished_of_not (.inr hfree))
      (pinned_eq_none hfinished hfree)
    have hwait' : (s.updTracker (·.marked frame i)).ensureHead.path.waiting = [] := by simpa using hwait
    rw [hmark, takeWaiting_of_nil hwait'] at hexec
    refine ⟨_, hexec, by simp [State.withDue, Tracker.marked], fun hnil hnone => ?_, by simp [State.withDue],
      by simp [State.withDue], by simp [State.withDue], by simp [State.withDue], ?_, by simp [State.withDue]⟩
    · have hentries := ensureHead_entries_eq (s.updTracker (·.marked frame i))
      have hframes' : (s.updTracker (·.marked frame i)).tracker.frames =
          [{ frame, slot := i, cursor := 0, whole := 0, torn := 0, absent := 0 }] := by
        simp [Tracker.marked, hnil]
      rw [hframes'] at hentries
      refine hentries.trans ?_
      unfold State.headOpened
      exact if_pos ⟨hlines, (find_eq_none_iff _ _ _ _).1 hnone⟩
    · simp [State.withDue, SameStatus]
  · obtain ⟨due, hexec⟩ := exec_frameMark_accepted hopen hi hframe hslot hahead
    obtain ⟨htracker, hqueue, -, hcounter, -, -⟩ := endedHead_facts hframes
    have hsame : (s.endedHead f).link = s.link ∧ (s.endedHead f).map = s.map ∧
        (s.endedHead f).rings = s.rings ∧ (s.endedHead f).mbox = s.mbox := by
      simp [State.endedHead]
    have hend : s.endFinished i = s.endedHead f := by
      rw [endFinished_of_due hframes hfslot hrecord hcursor hroom, endHead_eq]
      refine drainTest_of_not_drained fun hd => ?_
      rw [htracker, hopen] at hd
      exact absurd hd.1 nofun
    have hpin : (s.endedHead f).tracker.pinned i = none := by
      refine pinned_eq_none ?_ ?_ <;> rw [htracker]
      · show (s.tracker.slots[i]).unfinished = 0
        rw [hrecord]
      · exact hrest
    rw [acceptMark_of_free hend hpin] at hexec
    have hdropped := hcounter .framesDropped rfl (by decide)
    generalize s.endedHead f = u at hexec htracker hqueue hsame hdropped
    obtain ⟨hlink, hmap, hrings, hmbox⟩ := hsame
    refine ⟨_, hexec, ?_, ?_, ?_, ?_, ?_, ?_, ?_⟩
    · simp [State.withDue, Tracker.marked, htracker]
    · rw [hfslot] at hqueue
      rw [← hqueue]
      simp [State.withDue]
    · rw [← hdropped]
      refine (takeWaiting_counter (d := .framesDropped) rfl _).trans ?_
      rw [ensureHead_counter]
      rfl
    · rw [← hlink]; simp [State.withDue]
    · rw [← hmap]; simp [State.withDue]
    · rw [← hrings]; simp [State.withDue]
    · rw [← hmbox]; simp [State.withDue]

/-! ### Marks on a pinned slot -/

/-- The entry opened for a head line needs no second opening. -/
theorem headOpened_headOpened {s w : State} (hstream : w.tracker.stream = s.tracker.stream) (E : List LineEntry)
    (g : FrameRecord) (r r' : List FrameRecord) :
    w.headOpened (s.headOpened E (g :: r)) (g :: r') = s.headOpened E (g :: r) := by
  unfold State.headOpened
  dsimp only
  rw [hstream]
  refine if_neg fun ⟨hlt, hnone⟩ => ?_
  by_cases hE : ∀ e ∈ E, ¬ (e.frame = g.frame ∧ e.slot = g.slot ∧ e.line = g.cursor)
  · rw [if_pos ⟨hlt, hE⟩] at hnone
    exact hnone _ (List.mem_append_right _ List.mem_cons_self) ⟨rfl, rfl, rfl⟩
  · rw [if_neg fun h => hE h.2] at hnone
    exact hE hnone

/-- An entry of the table with an opened head line is one of the table or the head frame's. -/
theorem mem_headOpened {s : State} {E : List LineEntry} {frames : List FrameRecord} {e : LineEntry}
    (h : e ∈ s.headOpened E frames) : e ∈ E ∨ ∃ f ∈ frames, e.frame = f.frame ∧ e.slot = f.slot := by
  unfold State.headOpened at h
  cases frames with
  | nil => exact .inl h
  | cons f rest =>
    dsimp only at h
    split at h
    · obtain h | h := List.mem_append.1 h
      · exact .inl h
      · obtain rfl := List.mem_singleton.1 h
        exact .inr ⟨f, List.mem_cons_self, rfl, rfl⟩
    · exact .inl h

/-- The part after the drop of a frame, before the head line has its entry (R46 to R48). -/
def State.droppedFrame (old : FrameNumber) (i : Fin 4) (s : State) : State :=
  let t := s.updStitch fun u =>
    { u with entries := u.entries.filter (fun e => !(e.frame == old && e.slot == i)) }
  let t := (t.dropJobs old i).updTracker (·.dropped old i)
  let t := (t.count .framesDropped).countBy .linesDroppedByOverrun (s.tracker.slots[i]).unfinished
  (t.raise .frameDropped).reportDrop old

theorem dropFrame_eq (old : FrameNumber) (i : Fin 4) (s : State) :
    s.dropFrame old i = (s.droppedFrame old i).ensureHead := rfl

/-- The table after a drop and the acceptance of the new frame: the head line opened once (R42, R46, R68). -/
theorem marked_dropped_entries (old frame : FrameNumber) (i : Fin 4) (s : State) :
    (((s.dropFrame old i).updTracker (·.marked frame i)).ensureHead).stitch.entries =
      s.headOpened (s.stitch.entries.filter (fun e => !(e.frame == old && e.slot == i)))
        (s.tracker.frames.filter (fun f => !(f.frame == old && f.slot == i)) ++
          [{ frame, slot := i, cursor := 0, whole := 0, torn := 0, absent := 0 }]) := by
  have hfirst : (s.dropFrame old i).stitch.entries =
      s.headOpened (s.stitch.entries.filter (fun e => !(e.frame == old && e.slot == i)))
        (s.tracker.frames.filter (fun f => !(f.frame == old && f.slot == i))) := by
    rw [dropFrame_eq, ensureHead_entries_eq]
    rfl
  have hstream : ((s.dropFrame old i).updTracker (·.marked frame i)).tracker.stream = s.tracker.stream := by
    simp [Tracker.marked]
  have hframes : ((s.dropFrame old i).updTracker (·.marked frame i)).tracker.frames =
      s.tracker.frames.filter (fun f => !(f.frame == old && f.slot == i)) ++
        [{ frame, slot := i, cursor := 0, whole := 0, torn := 0, absent := 0 }] := by
    simp [Tracker.marked, dropFrame_tracker, Tracker.dropped]
  rw [ensureHead_entries_eq, hframes]
  show ((s.dropFrame old i).updTracker (·.marked frame i)).headOpened (s.dropFrame old i).stitch.entries _ = _
  rw [hfirst]
  cases hrest : s.tracker.frames.filter (fun f => !(f.frame == old && f.slot == i)) with
  | nil =>
    have hsame : s.dropFrame old i = s.droppedFrame old i := by
      have hnil : (s.droppedFrame old i).tracker.frames = [] := hrest
      rw [dropFrame_eq, State.ensureHead, Tracker.head, hnil]
      rfl
    rw [hsame]
    rfl
  | cons g rest => exact headOpened_headOpened hstream _ g rest _

/-- The part after a drop and the acceptance of the new frame (R42, R46 to R48). -/
theorem marked_dropped_facts {old frame : FrameNumber} {i : Fin 4} {s w : State}
    (hw : ((s.dropFrame old i).updTracker (·.marked frame i)).ensureHead = w) :
    w.stitch.entries =
        s.headOpened (s.stitch.entries.filter (fun e => !(e.frame == old && e.slot == i)))
          (s.tracker.frames.filter (fun f => !(f.frame == old && f.slot == i)) ++
            [{ frame, slot := i, cursor := 0, whole := 0, torn := 0, absent := 0 }]) ∧
      w.tracker = (s.tracker.dropped old i).marked frame i ∧ w.sched = (s.dropJobs old i).sched ∧
      w.counter .framesDropped = saturate (s.counter .framesDropped) 1 ∧
      w.counter .linesDroppedByOverrun =
        saturate (s.counter .linesDroppedByOverrun) (s.tracker.slots[i]).unfinished ∧
      w.eventPending .frameDropped = true ∧
      w.link = { s.link with lastDropped := old, dropCount := s.link.dropCount + 1, dropRepeat := 4 } ∧
      w.rings = s.rings ∧ w.map = s.map ∧ w.mbox = s.mbox ∧
      SameReads { s with tracker := w.tracker } w := by
  have htracker : w.tracker = (s.tracker.dropped old i).marked frame i := by
    rw [← hw]
    simp [dropFrame_tracker]
  have hcounter (d : Counter) : w.counter d = (s.droppedFrame old i).counter d := by
    rw [← hw, ensureHead_counter, updTracker_counter, dropFrame_eq, ensureHead_counter]
  have hpending : (s.droppedFrame old i).eventPending .frameDropped = true := raise_eventPending .frameDropped _
  have hlink : w.link = (s.droppedFrame old i).link := by rw [← hw, dropFrame_eq]; simp
  refine ⟨by rw [← hw]; exact marked_dropped_entries old frame i s, htracker, ?_, ?_, ?_, ?_, hlink,
    by simp [← hw], by simp [← hw], by simp [← hw], ?_⟩
  · rw [← hw, dropFrame_eq]
    simp [State.droppedFrame]
    rfl
  · rw [hcounter]
    exact (countBy_counter_ne (c := .linesDroppedByOverrun) (d := .framesDropped) (by decide) _ _).trans
      (count_counter_same .framesDropped _)
  · rw [hcounter]
    exact (countBy_counter_same .linesDroppedByOverrun _ _).trans
      (congrArg (saturate · _) (count_counter_ne (c := .framesDropped) (d := .linesDroppedByOverrun) (by decide) _))
  · have hevents : w.status.events = (s.droppedFrame old i).status.events := by rw [← hw, dropFrame_eq]; simp
    rw [State.eventPending, hevents]
    exact hpending
  · exact ⟨by simp [← hw], by simp [← hw], by simp [← hw], rfl, rfl, fun _ => rfl, by simp [← hw], by rw [hlink]; rfl⟩

/-- Settles O20: the drop, the acceptance, and the cursor advance of a drop off the list. -/
theorem markOnPinnedSlotDropsFrame : Obligations.MarkOnPinnedSlotDropsFrame := by
  refine ⟨fun value i old frame s hopen hi hframe hslot hahead hne hold hlines => ?_, fun body frame slot => ?_⟩
  · obtain ⟨due, hexec⟩ := exec_frameMark_accepted hopen hi hframe hslot hahead
    have hmark := acceptMark_of_pinned (frame := frame) (endFinished_of_not (.inl hlines)) (pinned_eq_some hold hlines)
    generalize hw : ((s.dropFrame old i).updTracker (·.marked frame i)).ensureHead = w at hmark
    obtain ⟨hentries, htracker, hsched, hdropped, hlost, hpending, hlink, hrings, hmap, hmbox, hreads⟩ :=
      marked_dropped_facts hw
    have hafter : (s.acceptMark frame i).tracker = w.tracker ∧ (s.acceptMark frame i).stitch = w.stitch ∧
        (s.acceptMark frame i).sched = w.sched ∧ (s.acceptMark frame i).link = w.link ∧
        (s.acceptMark frame i).rings = w.rings ∧ (s.acceptMark frame i).map = w.map ∧
        (s.acceptMark frame i).mbox = w.mbox ∧ (s.acceptMark frame i).path.waiting = w.path.waiting := by
      rw [hmark]
      split <;> simp
    have hcounter (d : Counter) (hd : d.ofPath = false) : (s.acceptMark frame i).counter d = w.counter d := by
      rw [hmark]
      split
      · exact reclassify_counter hd w
      · rfl
    have hraised : (s.acceptMark frame i).eventPending .frameDropped = true := by
      rw [hmark]
      split
      · exact reclassify_eventPending hpending
      · exact hpending
    have hpath : (s.acceptMark frame i).path =
        if s.tracker.indexOf old i = none then s.path
        else ({ s with tracker := w.tracker } : State).reclassify.path := by
      rw [hmark]
      cases s.tracker.indexOf old i with
      | none => exact hreads.path
      | some n => exact hreads.reclassify.path
    generalize s.acceptMark frame i = v at hexec hafter hcounter hraised hpath
    obtain ⟨hvtracker, hvstitch, hvsched, hvlink, hvrings, hvmap, hvmbox, hvwaiting⟩ := hafter
    have htaken : (v.takeWaiting.withDue due).tracker = w.tracker ∧ (v.takeWaiting.withDue due).stitch = w.stitch ∧
        (v.takeWaiting.withDue due).sched = w.sched ∧ (v.takeWaiting.withDue due).link = w.link ∧
        (v.takeWaiting.withDue due).rings = w.rings ∧ (v.takeWaiting.withDue due).map = w.map ∧
        (v.takeWaiting.withDue due).mbox = w.mbox := by
      simp [State.withDue, hvtracker, hvstitch, hvsched, hvlink, hvrings, hvmap, hvmbox]
    obtain ⟨h1, h2, h3, h4, h5, h6, h7⟩ := htaken
    refine ⟨_, hexec, ?_, ?_, fun e he => ?_, ?_, ?_, ?_, ?_, ?_, takeWaiting_eventPending hraised, h4.trans hlink,
      h5.trans hrings, h6.trans hmap, h7.trans hmbox, fun hwait => ?_⟩
    · rw [h1, htracker]
      exact getElem_set_slot _ i i _ |>.trans (if_pos rfl)
    · rw [h1, htracker]
      rfl
    · rw [h2, hentries] at he
      obtain he | ⟨f, hf, hef⟩ := mem_headOpened he
      · rintro ⟨heold, hei⟩
        have hkept := (List.mem_filter.1 he).2
        simp [heold, hei] at hkept
      · rintro ⟨heold, hei⟩
        obtain hf | hf := List.mem_append.1 hf
        · have := (List.mem_filter.1 hf).2
          simp [← hef.1, ← hef.2, heold, hei] at this
        · obtain rfl := List.mem_singleton.1 hf
          exact hne (heold.symm.trans hef.1)
    · rw [h2, hentries, h1, htracker]
      rfl
    · rw [h3, hsched]
      rfl
    · rw [h3, hsched]
      rfl
    · exact (takeWaiting_counter rfl v).trans ((hcounter _ rfl).trans hdropped)
    · exact (takeWaiting_counter rfl v).trans ((hcounter _ rfl).trans hlost)
    · have hnil : v.path.waiting = [] := by rw [hvwaiting, hreads.path]; exact hwait
      rw [h1, takeWaiting_of_nil hnil]
      exact hpath
  · cases body <;> simp [ParcelBody.ofFrame, Bool.decide_and] <;> rfl

end Sys2Proof.Machine

/-!
The mailbox's parameter and acknowledge words (O36).
-/

namespace Sys2Proof.Machine

/-! ### Single bits of the event set -/

theorem and_mask_eq_zero_iff (x : BitVec 10) (e : Event) : x &&& e.mask = 0 ↔ x.getLsbD e.bit = false := by
  rw [← not_iff_not, ← ne_eq, and_mask_ne_zero_iff, Bool.not_eq_false]

/-- The events an acknowledge word names are its low ten bits. -/
theorem ofNat_bits_low (value : Word) : BitVec.ofNat 10 (bits value 9 0) = BitVec.ofNat 10 value.toNat := by
  apply BitVec.eq_of_toNat_eq
  simp [bits]

theorem getLsbD_named (value : Word) {i : Nat} (h : i < 10) :
    (BitVec.ofNat 10 value.toNat).getLsbD i = value.getLsbD i := by
  rw [BitVec.getLsbD_ofNat]
  simp [BitVec.getLsbD, h]

/-! ### The words -/

/-- An acknowledge word clears what it names and nothing else (R154, R164). -/
theorem acknowledge_eq (value : Word) (s : State) :
    s.acknowledge value =
      { s with
        status :=
          { s.status with
            events := s.status.events &&& ~~~BitVec.ofNat 10 value.toNat
            launchLost := s.status.launchLost && !value.getLsbD 16
            paramTorn := s.status.paramTorn && !value.getLsbD 17
            inboundFull := s.status.inboundFull && !value.getLsbD 18 }
        path := { s.path with guard := if value.getLsbD 8 then none else s.path.guard } } := by
  unfold State.acknowledge
  simp only [ofNat_bits_low, and_mask_ne_zero_iff, getLsbD_named value Event.guard.bit.isLt]
  cases h : value.getLsbD 8
  · rw [if_neg (by simpa [Event.bit] using h)]
    rfl
  · rw [if_pos (by simpa [Event.bit] using h)]
    rfl

theorem acknowledge_eventPending (value : Word) (s : State) (e : Event) :
    (s.acknowledge value).eventPending e =
      (s.eventPending e && decide (BitVec.ofNat 10 value.toNat &&& e.mask = 0)) := by
  rw [acknowledge_eq]
  unfold State.eventPending
  simp only [and_mask_ne_zero_iff, and_mask_eq_zero_iff, BitVec.getLsbD_and, BitVec.getLsbD_not, e.bit.isLt]
  cases s.status.events.getLsbD e.bit <;> cases (BitVec.ofNat 10 value.toNat).getLsbD e.bit <;> simp

/-- Settles O36: a parameter word by its value and by the mode, an acknowledge word by what it clears. -/
theorem parameterAndAcknowledgeWords : Obligations.ParameterAndAcknowledgeWords := by
  refine ⟨fun i value s => ?_, fun value s hready => ?_⟩
  · have hexec : exec (.parameterWordWrite i value) s = execParameterWordWrite i value s := rfl
    unfold execParameterWordWrite at hexec
    cases hmode : s.path.mode with
    | initializing =>
      rw [hmode] at hexec
      exact ⟨s, hexec, rfl, ⟨rfl, rfl, rfl⟩, ⟨rfl, rfl, rfl⟩, ⟨rfl, rfl, rfl, rfl⟩, by rw [if_pos rfl]; exact ⟨rfl, rfl⟩⟩
    | ready =>
      rw [hmode] at hexec
      obtain ⟨due, hdue⟩ := changeIn_eq_withDue ascending (State.paramWrite i value) s
      refine ⟨_, hexec.trans hdue, ?_⟩
      rw [if_neg (by simp)]
      cases value <;> exact ⟨rfl, ⟨rfl, rfl, rfl⟩, ⟨rfl, rfl, rfl⟩, ⟨rfl, rfl, rfl, rfl⟩, rfl, rfl⟩
  · have hexec : exec (.acknowledge value) s = changeIn acknowledgeOrder (State.acknowledge value) s := by
      show execAcknowledge value s = _
      unfold execAcknowledge
      rw [hready]
    obtain ⟨due, hdue⟩ := changeIn_eq_withDue acknowledgeOrder (State.acknowledge value) s
    refine ⟨_, hexec.trans hdue, acknowledge_eventPending value s, ?_⟩
    rw [acknowledge_eq]
    exact ⟨rfl, rfl, rfl, rfl, rfl, rfl, rfl, ⟨rfl, rfl, rfl⟩, ⟨rfl, rfl, rfl⟩, ⟨rfl, rfl, rfl, rfl⟩⟩

end Sys2Proof.Machine

/-!
The status block and its writes (O51).
-/

namespace Sys2Proof.Machine

/-! ### Fields of a list of bytes -/

theorem leBytes_length (n v : Nat) : (leBytes n v).length = n := by
  induction n generalizing v with
  | zero => rfl
  | succ n ih => simp [leBytes, ih]

/-- Within the list, the bytes from an offset are a slice of it. -/
theorem bytesAt_eq_slice {bs : List Byte} {i n : Nat} (h : i + n ≤ bs.length) :
    bytesAt bs i n = (bs.drop i).take n := by
  induction n generalizing i with
  | zero => simp [bytesAt]
  | succ n ih =>
    have hi : i < bs.length := by omega
    rw [bytesAt, ih (by omega), List.drop_eq_getElem_cons hi, List.take_succ_cons, byteAt,
      List.getD_eq_getElem _ _ hi]

/-- The slice at an item of a list laid out in pieces of one length is that item's piece. -/
theorem slice_flatMap {α : Type} {f : α → List Byte} {k : Nat} (hk : ∀ a, (f a).length = k) {l : List α} {n : Nat}
    (h : n < l.length) : ((l.flatMap f).drop (k * n)).take k = f l[n] := by
  induction l generalizing n with
  | nil => simp at h
  | cons a l ih =>
    cases n with
    | zero => simp [hk a]
    | succ n =>
      have hlen : k * (n + 1) = (f a).length + k * n := by rw [hk a]; ring
      rw [List.flatMap_cons, hlen, List.drop_length_add_append]
      simpa using ih (by simpa using h)

theorem flatMap_length_of_uniform {α : Type} {f : α → List Byte} {k : Nat} (hk : ∀ a, (f a).length = k)
    (l : List α) : (l.flatMap f).length = k * l.length := by
  simp [List.length_flatMap, hk, Nat.mul_comm]

/-! ### The block -/

theorem wordBytes_length (w : Word) : (wordBytes w).length = 8 := leBytes_length 8 _

theorem statusBlock_length (s : State) : s.statusBlock.length = 256 := by
  rw [State.statusBlock, flatMap_length_of_uniform (fun n => wordBytes_length (s.statusWord n))]
  simp

theorem bytesAt_statusBlock (s : State) (n : Fin 32) :
    bytesAt s.statusBlock (8 * n.val) 8 = leBytes 8 (s.statusWord n.val).toNat := by
  have hn : n.val < (List.range 32).length := by simp
  rw [bytesAt_eq_slice (by rw [statusBlock_length]; omega), State.statusBlock,
    slice_flatMap (fun m => wordBytes_length (s.statusWord m)) hn, List.getElem_range]
  rfl

/-! ### The words of the rings -/

theorem statusWord_inRing (r : Fin 2) (s : State) :
    s.statusWord (10 + r.val) =
      BitVec.ofNat 64
        (atBit 0 (s.rings.inbound[r]).state.code + atBit 8 (s.rings.inbound[r]).cause.code +
          atBit 16 (flag (s.rings.inbound[r]).holdRequested)) :=
  match r with
  | 0 => rfl
  | 1 => rfl

theorem statusWord_outRing (r : Fin 4) (s : State) :
    s.statusWord (6 + r.val) =
      BitVec.ofNat 64
        (atBit 0 (s.rings.outbound[r]).state.code + atBit 8 (s.rings.outbound[r]).cause.code +
          atBit 16 (s.rings.outbound[r]).kind.code) :=
  match r with
  | 0 => rfl
  | 1 => rfl
  | 2 => rfl
  | 3 => rfl

/-! ### A change that changes no word -/

/-- A change of what no word mirrors makes none due (R162). -/
theorem mirroredIn_of_statusWord {o : WordOrder} {f : State → State} {s : State}
    (h : ∀ n, (f s).statusWord n = s.statusWord n) : mirroredIn o f s = f s := by
  unfold mirroredIn
  cases hmode : (f s).path.mode with
  | initializing => exact noteChanges_initializing _ s (f s) hmode
  | ready =>
    have hnone : changedWords (o s (f s)) s (f s) = [] := by simp [changedWords, h]
    dsimp only
    rw [noteChanges_ready _ s (f s) hmode, hnone]
    rfl

/-! ### The words by their fields -/

theorem statusWord_change (s : State) :
    s.statusWord 2 =
      BitVec.ofNat 64
        (match s.link.change with
         | none => 0
         | some c =>
           atBit 8 (flag c.echoed) + atBit 48 (c.effective.toNat % 65536) +
             (match c.change with
              | .rate r => 1 + atBit 16 r.code
              | .split f rt => 2 + atBit 16 f + atBit 32 rt)) := rfl

theorem statusWord_stream (s : State) :
    s.statusWord 4 =
      BitVec.ofNat 64
        (atBit 0 s.tracker.stream.state.code +
          (match s.tracker.frames.head? with
           | none => 0
           | some f => atBit 8 1 + atBit 16 f.frame.toNat + atBit 32 f.cursor)) := rfl

theorem statusWord_cells (s : State) :
    s.statusWord 1 =
      BitVec.ofNat 64
        (atBit 0 (if s.link.state = .down then (0, 0) else s.link.cells).1 +
          atBit 16 (if s.link.state = .down then (0, 0) else s.link.cells).2 + atBit 32 s.link.splitF +
          atBit 48 s.link.splitRt) := rfl

theorem statusWord_guard_some {s : State} {g : GuardFault} (h : s.path.guard = some g) :
    s.statusWord 18 =
      BitVec.ofNat 64 (1 + atBit 8 g.initiator.toNat + atBit 16 (flag g.isWrite) + atBit 24 g.origin.code) := by
  simp [State.statusWord, h]

/-! ### The status write -/

/-- The write of a word and the due list without it (R162). -/
def State.statusIssued (w : Fin 32) (rest : List (Fin 32)) (s : State) : State :=
  (s.issueStatus w).updStatus fun u => { u with due := rest }

theorem exec_statusWriteIssue {w : Fin 32} {rest : List (Fin 32)} {s : State} (h : s.status.due = w :: rest) :
    exec .statusWriteIssue s =
      if s.path.other.any (fun q => decide (q.owner = .status)) then .next s
      else change (State.statusIssued w rest) s := by
  show execStatusWriteIssue s = _
  unfold execStatusWriteIssue
  rw [h]
  rfl

theorem statusIssued_statusWord (w : Fin 32) (rest : List (Fin 32)) (s : State) (n : Nat) :
    (s.statusIssued w rest).statusWord n = s.statusWord n :=
  statusWord_congr n rfl rfl rfl rfl rfl rfl rfl rfl rfl rfl rfl rfl

/-- Settles O51: the write of the word at the head of the due list, and every word's fields. -/
theorem statusWriteCarriesHeadOfDueList : Obligations.StatusWriteCarriesHeadOfDueList := by
  refine ⟨fun w rest s hdue => ?_, fun s => ?_, by decide, ?_⟩
  · refine ⟨fun hwaits => (exec_statusWriteIssue hdue).trans (if_pos hwaits), fun hfree => ?_⟩
    refine ⟨s.statusIssued w rest, (exec_statusWriteIssue hdue).trans ?_, rfl, rfl, ⟨rfl, rfl, rfl⟩, ⟨rfl, rfl, rfl⟩,
      ⟨rfl, rfl, rfl, rfl⟩, rfl⟩
    rw [if_neg (by simp [hfree]), change_eq, changeIn_eq, mirroredIn_of_statusWord (statusIssued_statusWord w rest s)]
  · dsimp only
    refine ⟨congrArg (BitVec.ofNat 64) ?_, ?_, ?_, congrArg (BitVec.ofNat 64) ?_, ?_, congrArg (BitVec.ofNat 64) ?_, fun r => ?_, fun r => ?_, rfl, congrArg (BitVec.ofNat 64) ?_,
      congrArg (BitVec.ofNat 64) ?_, ?_, ?_, ?_, congrArg (BitVec.ofNat 64) ?_, fun n hn => statusWord_above s hn, statusBlock_length s,
      bytesAt_statusBlock s⟩
    · simp only [atBit, flag, decide_eq_true_eq]
      omega
    · rw [statusWord_cells]
      unfold atBit
      split <;> congr 1 <;> omega
    · rw [statusWord_change]
      cases s.link.change with
      | none => rfl
      | some c =>
        unfold atBit flag
        dsimp only
        congr 1
        cases c.change <;> dsimp only <;> omega
    · simp only [atBit]
      omega
    · rw [statusWord_stream]
      unfold atBit
      cases s.tracker.frames with
      | nil => simp
      | cons f _ =>
        simp only [List.head?_cons]
        congr 1
        omega
    · simp only [atBit]
      omega
    · rw [statusWord_outRing]
      unfold atBit
      congr 1
      omega
    · rw [statusWord_inRing]
      unfold atBit flag
      congr 1
      omega
    · simp only [atBit]
      omega
    · simp only [atBit, flag]
      omega
    · exact BitVec.ofNat_toNat ..
    · exact BitVec.ofNat_toNat ..
    · cases hg : s.path.guard with
      | none => exact ⟨by simp [State.statusWord, hg], by simp [State.statusWord, hg]⟩
      | some g =>
        refine ⟨by simp [State.statusWord, hg], (statusWord_guard_some hg).trans (congrArg (BitVec.ofNat 64) ?_)⟩
        simp only [atBit, flag]
        omega
    · simp only [atBit]
      omega
  · exact ⟨fun _ => rfl, fun _ => rfl, fun _ _ => rfl, rfl, rfl⟩

end Sys2Proof.Machine

/-!
Launches that are accepted (R150, R151), and with them the commands of the status and link units whose effect
is one change: SNAPSHOT COUNTERS and its walk (O48), SET SPLIT (O46).
-/

namespace Sys2Proof.Machine

/-! ### What an accepted launch is -/

/-- A state at the end of a command that completes with data at once (R151, R152). -/
def State.ended (c : Command) (tag : BitVec 8) (data : List Word) (s u : State) : State :=
  { u with
    mbox := s.mbox.staled none
    path := { u.path with other := u.path.other ++ finalWrites s c.code tag .noError data } }

section launches

variable {c : Command} {count : BitVec 4} {s u : State}

/-- An accepted command that completes at once is its effect and its end (R151, R152). -/
theorem changeIn_launch_completes (tag : BitVec 8) (o : WordOrder) {data : List Word} (hacc : s.Accepts c count)
    (hc : c ≠ .restart) (heff : c.effect s.mbox.params (s.begun c tag) = (u, some data))
    (hm : u.mbox = s.mbox.staled (some { code := c.code, tag })) (hs : u.straps = s.straps) :
    ∃ due, changeIn o (State.launch c.code count tag) s = .next ((s.ended c tag data u).withDue due) := by
  obtain ⟨due, hnext⟩ := changeIn_eq_withDue o (State.launch c.code count tag) s
  exact ⟨due, by rw [hnext, launch_of_accepts tag hacc hc, accept_completes heff hm hs]; rfl⟩

/-- An accepted command that runs is its effect (R151). -/
theorem changeIn_launch_runs (tag : BitVec 8) (o : WordOrder) (hacc : s.Accepts c count) (hc : c ≠ .restart)
    (heff : c.effect s.mbox.params (s.begun c tag) = (u, none)) :
    ∃ due, changeIn o (State.launch c.code count tag) s = .next (u.withDue due) := by
  obtain ⟨due, hnext⟩ := changeIn_eq_withDue o (State.launch c.code count tag) s
  exact ⟨due, by rw [hnext, launch_of_accepts tag hacc hc, accept_eq, heff]⟩

/-- What such an end is in the words of `CompletesAtOnce`, from the own requests of the effect. -/
theorem completesAtOnce_ended {tag : BitVec 8} {own : List OwnRequest} {data data' : List Word} {due : List (Fin 32)}
    (hpath : u.path = { s.path with other := s.path.other ++ [runningWrite s c tag] ++ own }) (hdata : data' = data) :
    CompletesAtOnce c tag own data s ((s.ended c tag data' u).withDue due) := by
  subst hdata
  refine ⟨rfl, ?_⟩
  simp only [State.withDue, State.ended, hpath]

/-- The same of an effect that issues no own request. -/
theorem completesAtOnce_ended_of_path {tag : BitVec 8} {data data' : List Word} {due : List (Fin 32)}
    (hpath : u.path = (s.begun c tag).path) (hdata : data' = data) :
    CompletesAtOnce c tag [] data s ((s.ended c tag data' u).withDue due) :=
  completesAtOnce_ended (hpath.trans (by rw [List.append_nil]; rfl)) hdata

end launches

/-! ### SNAPSHOT COUNTERS (R159, R171, R172) -/

theorem snapshotOption_eq (p : Params) :
    snapshotOption p =
      if p[0].toNat = 0 then some .keep
      else if p[0].toNat = 1 then some .clear
      else if p[0].toNat = 2 then some .preset else none := by
  unfold snapshotOption
  rcases p[0].toNat with _ | _ | _ | n <;> simp

/-- A step of the walk captures the counter at its place (R171, R172). -/
def State.captured (n : Snapshot) (i : Fin 59) (s : State) : State :=
  (s.updStatus fun u =>
    { u with
      counters := u.counters.set i (n.option.after s.status.counters[i])
      snapshot := some { n with next := n.next + 1, left := n.left + 1 } }).issueWrite .snapshot
    (s.straps.mailboxPage + 0x200 + 4 * i.val) (leBytes 4 (s.status.counters[i]).toNat)

theorem snapshotStep_eq {n : Snapshot} {i : Fin 59} {s : State} (hn : s.status.snapshot = some n)
    (hi : n.next = i.val) : s.snapshotStep = s.captured n i := by
  obtain ⟨o, next, left⟩ := n
  obtain rfl : next = i.val := hi
  unfold State.snapshotStep
  rw [hn]
  exact dif_pos i.isLt

/-- Settles O48: the launch captures counter 0, a step of the walk the counter at its place. -/
theorem snapshotCapturesInOrder : Obligations.SnapshotCapturesInOrder := by
  refine ⟨fun count tag o s hacc ho => ?_, fun n i s hn hi hfree => ?_, fun c => ⟨rfl, rfl, rfl⟩, snapshotOption_eq,
    by decide, by decide, by decide, by decide⟩
  · have heff : Command.snapshotCounters.effect s.mbox.params (s.begun .snapshotCounters tag) =
        ((((s.begun .snapshotCounters tag).updStatus fun u =>
          { u with snapshot := some { option := o, next := 0, left := 0 } }).captured
            { option := o, next := 0, left := 0 } 0).updMbox
          fun m => { m with staging := m.staging.set 0 s.countWord }, none) := by
      show (doSnapshot _ _, none) = _
      unfold doSnapshot
      rw [ho, snapshotStep_eq (n := { option := o, next := 0, left := 0 }) (i := 0) rfl rfl]
      rfl
    obtain ⟨due, hnext⟩ := changeIn_launch_runs tag (launchOrder _) hacc (by decide) heff
    refine ⟨_, hnext, rfl, rfl, ?_, rfl, ?_, ⟨rfl, rfl, rfl⟩, ⟨rfl, rfl, rfl⟩, ⟨rfl, rfl, rfl, rfl⟩⟩
    · simp [State.withDue, State.captured, State.issueWrite, State.updPath, State.updStatus, State.updMbox, State.begun]
    · simp [State.withDue, State.updMbox, State.countWord]
  · obtain ⟨due, hnext⟩ := changeIn_eq_withDue ascending State.snapshotStep s
    have hexec : exec .snapshotStep s = change State.snapshotStep s := by
      show execSnapshotStep s = _
      exact if_neg (by simp [hfree])
    refine ⟨_, hexec.trans hnext, ?_⟩
    rw [snapshotStep_eq hn hi]
    exact ⟨rfl, rfl, rfl, rfl, rfl, ⟨rfl, rfl, rfl⟩, ⟨rfl, rfl, rfl⟩, ⟨rfl, rfl, rfl, rfl⟩, rfl⟩

/-! ### SET SPLIT (R140) -/

theorem checkSetSplit_range {p : Params} {s : State} (h : checkSetSplit p s = none) :
    splitInRange (bits p[0] 15 0) (bits p[0] 31 16) := by
  unfold checkSetSplit splitParams at h
  dsimp only at h
  split at h
  · simp at h
  · unfold splitInRange
    omega

/-- Settles O46: the split is stored, or a change of it is created. -/
theorem setSplitStoresOrCreatesChange : Obligations.SetSplitStoresOrCreatesChange := by
  intro count tag s hacc
  refine ⟨checkSetSplit_range hacc.2.2.2.2, ?_⟩
  by_cases hup : s.link.state = .up
  · have heff : Command.setSplit.effect s.mbox.params (s.begun .setSplit tag) =
        ((s.begun .setSplit tag).createChange
          (.split (bits s.mbox.params[0] 15 0) (bits s.mbox.params[0] 31 16)), none) := if_pos hup
    obtain ⟨due, hnext⟩ := changeIn_launch_runs tag (launchOrder _) hacc (by decide) heff
    refine ⟨_, hnext, ⟨rfl, rfl, rfl⟩, rfl, rfl, ⟨rfl, rfl, rfl, rfl⟩, rfl, ?_⟩
    rw [if_pos hup]
    exact ⟨rfl, rfl, rfl⟩
  · have heff : Command.setSplit.effect s.mbox.params (s.begun .setSplit tag) =
        ((s.begun .setSplit tag).updLink fun l =>
          { l with splitF := bits s.mbox.params[0] 15 0, splitRt := bits s.mbox.params[0] 31 16 },
         some
          [numberWord (bits s.mbox.params[0] 15 0 + atBit 16 (bits s.mbox.params[0] 31 16)), s.countWord]) :=
      if_neg hup
    obtain ⟨due, hnext⟩ := changeIn_launch_completes tag (launchOrder _) hacc (by decide) heff rfl rfl
    refine ⟨_, hnext, ⟨rfl, rfl, rfl⟩, rfl, rfl, ⟨rfl, rfl, rfl, rfl⟩, rfl, ?_⟩
    rw [if_neg hup]
    exact ⟨rfl, completesAtOnce_ended_of_path rfl (by rw [Nat.mul_comm 65536]; rfl)⟩

end Sys2Proof.Machine

/-!
LINK CONTROL on a link that is not UP (O47).
-/

namespace Sys2Proof.Machine

/-! ### Changes of the link state (R122) -/

/-- The status unit after a change of the link state (R122). -/
def State.linkStatus (st : LinkState) (s : State) : StatusUnit :=
  if s.link.state = st then s.status else (s.raise .linkChange).status

theorem setLink_eq (st : LinkState) (s : State) :
    s.setLink st = { s with link := { s.link with state := st }, status := s.linkStatus st } := by
  unfold State.setLink State.linkStatus
  by_cases h : s.link.state = st
  · subst h
    rw [if_pos rfl, if_pos rfl]
  · rw [if_neg h, if_neg h]
    rfl

theorem leaveUp_of_not_up {s : State} (h : s.link.state ≠ .up) : s.leaveUp = s := if_neg h

/-- Entering PROBING from a state that is not UP (R124). -/
theorem enterProbing_of_not_up {s : State} (h : s.link.state ≠ .up) :
    s.enterProbing =
      { s with
        link := { s.link.noTrial with state := .probing, probeFrames := 0, probeCycles := 0, lossRun := 0 }
        status := s.linkStatus .probing } := by
  unfold State.enterProbing
  rw [leaveUp_of_not_up h, setLink_eq]
  rfl

/-- Entering DOWN from a state that is not UP (R129). -/
theorem enterDown_of_not_up {s : State} (h : s.link.state ≠ .up) :
    s.enterDown =
      { s with link := { s.link.noTrial with state := .down }, status := s.linkStatus .down } := by
  unfold State.enterDown
  rw [leaveUp_of_not_up h, setLink_eq]
  rfl

theorem linkStatus_of_eq {st : LinkState} {s : State} (h : s.link.state = st) : s.linkStatus st = s.status := if_pos h

theorem linkStatus_of_ne {st : LinkState} {s : State} (h : s.link.state ≠ st) :
    s.linkStatus st = (s.raise .linkChange).status := if_neg h

/-! ### The parameter words -/

theorem linkOperation_eq (p : Params) :
    linkOperation p =
      if bits p[0] 7 0 = 1 then some .enable
      else if bits p[0] 7 0 = 2 then some .disable
      else if bits p[0] 7 0 = 3 then some .retrain else none := by
  unfold linkOperation
  rcases bits p[0] 7 0 with _ | _ | _ | _ | n <;> simp

theorem rate_ofCode_eq_some_iff (n : Nat) (r : Rate) : Rate.ofCode n = some r ↔ n = r.code := by
  rcases n with _ | _ | _ | _ | n <;> cases r <;> simp [Rate.ofCode, Rate.code]

/-! ### The launch -/

/-- A launch of LINK CONTROL that names the row's operation is the row's (log entry 24). -/
theorem launchLink_of_operation {op : LinkOperation} {s : State} (h : linkOperation s.mbox.params = some op)
    (count : BitVec 4) (tag : BitVec 8) :
    launchLink op count tag s = changeIn linkOrder (State.launch Command.linkControl.code count tag) s := by
  unfold launchLink
  rw [h]
  exact if_neg (by simp)

theorem checkLinkControl_retrain {p : Params} {s : State} (h : checkLinkControl p s = none)
    (hop : linkOperation p = some .retrain) : s.link.enabled = true := by
  unfold checkLinkControl at h
  rw [hop] at h
  simpa using h

/-- The state under a ceiling, enabled (R128). -/
def State.enabledAt (c : Rate) (s : State) : State := s.updLink fun l => { l with enabled := true, ceiling := c }

/-- The state with the link disabled (R129). -/
def State.disabled (s : State) : State := s.updLink fun l => { l with enabled := false }

section effects

variable {p : Params} {s : State}

theorem effect_enable_of_down {c : Rate} (hop : linkOperation p = some .enable) (hc : linkCeiling p = some c)
    (hdown : s.link.state = .down) :
    Command.linkControl.effect p s = ((s.enabledAt c).enterProbing, some (s.enabledAt c).enterProbing.linkData) := by
  show completes (doLinkControl p s) = _
  unfold doLinkControl
  rw [hop, hc]
  dsimp only
  rw [if_pos hdown]
  rfl

theorem effect_enable_of_not_down {c : Rate} (hop : linkOperation p = some .enable) (hc : linkCeiling p = some c)
    (hdown : s.link.state ≠ .down) :
    Command.linkControl.effect p s = (s.enabledAt c, some (s.enabledAt c).linkData) := by
  show completes (doLinkControl p s) = _
  unfold doLinkControl
  rw [hop, hc]
  dsimp only
  rw [if_neg hdown]
  rfl

theorem effect_disable (hop : linkOperation p = some .disable) :
    Command.linkControl.effect p s =
      (s.disabled.enterDown, some s.disabled.enterDown.linkData) := by
  show completes (doLinkControl p s) = _
  unfold doLinkControl
  rw [hop]
  rfl

theorem effect_retrain (hop : linkOperation p = some .retrain) :
    Command.linkControl.effect p s = (s.enterProbing, some s.enterProbing.linkData) := by
  show completes (doLinkControl p s) = _
  unfold doLinkControl
  rw [hop]
  rfl

end effects

/-- The result word's number of a link's state, flag and ceiling. -/
theorem linkData_eq (s : State) :
    s.linkData = [numberWord (s.link.state.code + 256 * flag s.link.enabled + 65536 * s.link.ceiling.code)] := by
  unfold State.linkData
  simp only [atBit, Nat.mul_comm, Nat.reducePow]

theorem linkStatus_linkChange {st : LinkState} {s : State} (h : s.link.state ≠ st) :
    decide ((s.linkStatus st).events &&& Event.linkChange.mask ≠ 0) = true := by
  rw [linkStatus_of_ne h]
  exact raise_eventPending .linkChange s

/-- Settles O47: each operation by its effect on a link that is not UP, and the parameter words it reads. -/
theorem linkControlMovesLink : Obligations.LinkControlMovesLink := by
  refine ⟨fun count tag s hacc => ⟨fun c hop hc => ?_, fun hop hup => ?_, fun hop hup => ?_⟩,
    fun p => ⟨linkOperation_eq p, rfl⟩, rate_ofCode_eq_some_iff⟩
  · have hexec : exec (.linkControlEnable count tag) s = _ := launchLink_of_operation hop count tag
    by_cases hdown : s.link.state = .down
    · have hup : ((s.begun .linkControl tag).enabledAt c).link.state ≠ .up := fun h => by
        cases hdown.symm.trans h
      have heff := effect_enable_of_down (s := s.begun .linkControl tag) hop hc hdown
      rw [linkData_eq, enterProbing_of_not_up hup] at heff
      obtain ⟨due, hnext⟩ := changeIn_launch_completes tag linkOrder hacc (by decide) heff rfl rfl
      refine ⟨_, hexec.trans hnext, rfl, rfl, rfl, (if_pos hdown).symm, fun _ => ⟨?_, rfl, rfl, rfl⟩,
        fun h => absurd hdown h, completesAtOnce_ended_of_path rfl rfl, ⟨rfl, rfl, rfl⟩, rfl, rfl, ⟨rfl, rfl, rfl, rfl⟩⟩
      exact linkStatus_linkChange (s := (s.begun .linkControl tag).enabledAt c) fun h => by cases hdown.symm.trans h
    · have heff := effect_enable_of_not_down (s := s.begun .linkControl tag) hop hc hdown
      rw [linkData_eq] at heff
      obtain ⟨due, hnext⟩ := changeIn_launch_completes tag linkOrder hacc (by decide) heff rfl rfl
      exact ⟨_, hexec.trans hnext, rfl, rfl, rfl, (if_neg hdown).symm, fun h => absurd h hdown,
        fun _ => ⟨rfl, rfl⟩, completesAtOnce_ended_of_path rfl rfl, ⟨rfl, rfl, rfl⟩, rfl, rfl, ⟨rfl, rfl, rfl, rfl⟩⟩
  · have hexec : exec (.linkControlDisable count tag) s = _ := launchLink_of_operation hop count tag
    have heff := effect_disable (s := s.begun .linkControl tag) hop
    rw [linkData_eq, enterDown_of_not_up (s := (s.begun .linkControl tag).disabled) hup] at heff
    obtain ⟨due, hnext⟩ := changeIn_launch_completes tag linkOrder hacc (by decide) heff rfl rfl
    refine ⟨_, hexec.trans hnext, rfl, rfl, fun hdown => ?_, fun hdown => ?_, completesAtOnce_ended_of_path rfl ?_,
      ⟨rfl, rfl, rfl⟩, rfl, rfl, ⟨rfl, rfl, rfl, rfl⟩⟩
    · exact linkStatus_linkChange (s := (s.begun .linkControl tag).disabled) hdown
    · exact congrArg (fun u : StatusUnit => { u with due := due })
        (linkStatus_of_eq (s := (s.begun .linkControl tag).disabled) hdown)
    · show [numberWord (0 + 256 * 0 + 65536 * s.link.ceiling.code)] = _
      simp
  · have hexec : exec (.linkControlRetrain count tag) s = _ := launchLink_of_operation hop count tag
    have heff := effect_retrain (s := s.begun .linkControl tag) hop
    rw [linkData_eq, enterProbing_of_not_up (s := s.begun .linkControl tag) hup] at heff
    obtain ⟨due, hnext⟩ := changeIn_launch_completes tag linkOrder hacc (by decide) heff rfl rfl
    have henabled := checkLinkControl_retrain hacc.2.2.2.2 hop
    refine ⟨henabled, _, hexec.trans hnext, rfl, rfl, rfl, rfl, fun hne => ?_, fun heq => ?_, completesAtOnce_ended_of_path rfl ?_,
      ⟨rfl, rfl, rfl⟩, rfl, rfl, ⟨rfl, rfl, rfl, rfl⟩⟩
    · exact linkStatus_linkChange (s := s.begun .linkControl tag) hne
    · exact congrArg (fun u : StatusUnit => { u with due := due })
        (linkStatus_of_eq (s := s.begun .linkControl tag) heq)
    · show [numberWord (1 + 256 * flag s.link.enabled + 65536 * s.link.ceiling.code)] = _
      rw [henabled]
      rfl

end Sys2Proof.Machine

/-!
The commands' own checks, told as lists of a condition and a code (R150 check 4).
-/

namespace Sys2Proof.Machine

/-! ### The first check that fails -/

/-- The code of the first check of a list that fails (R150). -/
def firstFault (l : List (Bool × ErrorCode)) : Option ErrorCode := (l.find? (fun x => x.1)).map Prod.snd

theorem firstFault_nil : firstFault [] = none := rfl

theorem firstFault_of_fails {b : Bool} (hb : b = true) (e : ErrorCode) (l : List (Bool × ErrorCode)) :
    firstFault ((b, e) :: l) = some e := by
  subst hb
  rfl

theorem firstFault_of_passes {b : Bool} (hb : b = false) (e : ErrorCode) (l : List (Bool × ErrorCode)) :
    firstFault ((b, e) :: l) = firstFault l := by
  subst hb
  rfl

/-- One check of a command and the first of a list are the same where their conditions are. -/
theorem refuse_eq_firstFault {P : Prop} [Decidable P] {b : Bool} {e : ErrorCode} {r : Option ErrorCode}
    {l : List (Bool × ErrorCode)} (hb : P ↔ b = true) (hrest : ¬P → r = firstFault l) :
    (if P then some e else r) = firstFault ((b, e) :: l) := by
  by_cases hP : P
  · rw [if_pos hP, firstFault_of_fails (hb.1 hP)]
  · rw [if_neg hP, firstFault_of_passes (Bool.eq_false_iff.2 fun h => hP (hb.2 h)), hrest hP]

/-- The last check of a command. -/
theorem refuse_last {P : Prop} [Decidable P] {b : Bool} {e : ErrorCode} (hb : P ↔ b = true) :
    (if P then some e else none) = firstFault [(b, e)] := refuse_eq_firstFault hb fun _ => rfl

/-- A list without a fault has no check that fails. -/
theorem firstFault_eq_none_iff (l : List (Bool × ErrorCode)) :
    firstFault l = none ↔ ∀ x ∈ l, x.1 = false := by
  simp [firstFault]

/-! ### Indices, bits and words -/

theorem exists_fin_val_eq_iff {n k : Nat} (h : k < n) (P : Fin n → Prop) :
    (∃ i : Fin n, i.val = k ∧ P i) ↔ P ⟨k, h⟩ := by
  constructor
  · rintro ⟨i, rfl, hP⟩
    exact hP
  · exact fun hP => ⟨⟨k, h⟩, rfl, hP⟩

theorem exists_fin_eq_val_iff {n k : Nat} (h : k < n) (P : Fin n → Prop) :
    (∃ i : Fin n, k = i.val ∧ P i) ↔ P ⟨k, h⟩ := by
  simpa only [eq_comm] using exists_fin_val_eq_iff h P

theorem bits_low_byte (w : Word) : bits w 7 0 = w.toNat % 256 := by simp [bits]

theorem bits_eq_extract (w : Word) {hi lo : Nat} (_ : lo ≤ hi) :
    bits w hi lo = (w.extractLsb' lo (hi + 1 - lo)).toNat := by
  simp [bits, BitVec.extractLsb'_toNat, Nat.shiftRight_eq_div_pow]

/-- The top bit of a set of initiators in a word (R24 check 5). -/
theorem getLsbD_set (w : Word) (lo : Nat) :
    (BitVec.ofNat 16 (bits w (lo + 15) lo)).getLsbD 15 = w.getLsbD (lo + 15) := by
  have hwidth : lo + 15 + 1 - lo = 16 := by omega
  rw [bits, hwidth, BitVec.getLsbD_ofNat, Nat.testBit_mod_two_pow, Nat.testBit_div_two_pow]
  simp [BitVec.getLsbD, Nat.add_comm]

theorem windowInUse_iff (s : State) (i : Fin 32) :
    s.windowInUse i = true ↔ s.tracker.stream.state ≠ .closed ∧ i ∈ s.tracker.stream.windows := by
  simp [State.windowInUse]

theorem geometryOk_eq_false_iff (w : WindowParams) :
    geometryOk w = false ↔ badGeometry w.segLen w.pitch w.stride w.size := by
  rw [← Bool.not_eq_true]
  simp only [geometryOk, Bool.and_eq_true, decide_eq_true_eq]
  unfold badGeometry
  omega

theorem badWord_iff (s : State) (a : Nat) : s.badWord a = true ↔ s.misplaced a := by
  simp [State.badWord, overlaps_iff, State.misplaced]

theorem exists_mem_vector_iff {α : Type} {n : Nat} (v : Vector α n) (P : α → Prop) :
    (∃ o ∈ v, P o) ↔ ∃ r : Fin n, P v[r] := by
  constructor
  · rintro ⟨o, ho, hP⟩
    obtain ⟨i, hi, rfl⟩ := Vector.mem_iff_getElem.1 ho
    exact ⟨⟨i, hi⟩, hP⟩
  · rintro ⟨r, hP⟩
    exact ⟨v[r], Vector.getElem_mem r.isLt, hP⟩

theorem mem_rings_wordsInUse_iff (u : RingUnit) (a : Nat) : u.wordsInUse.contains a = true ↔ u.usesWord a := by
  have hret : a ∈ (if u.ret.bound then u.ret.doneWord.toList else []) ↔
      u.ret.bound = true ∧ u.ret.doneWord = some a := by
    cases u.ret.bound <;> simp
  simp only [RingUnit.wordsInUse, RingUnit.usesWord, List.contains_iff_mem, List.mem_append, List.mem_flatMap,
    List.mem_filter, Vector.mem_toList_iff, Option.mem_toList, decide_eq_true_eq, and_assoc, hret,
    exists_mem_vector_iff u.outbound fun o => o.state ≠ .unbound ∧ (o.producerWord = some a ∨ o.consumerWord = some a),
    exists_mem_vector_iff u.inbound fun o => o.state ≠ .unbound ∧ (o.producerWord = some a ∨ o.consumerWord = some a),
    or_assoc]

theorem mem_wordsInUse_iff (s : State) (a : Nat) : s.wordsInUse.contains a = true ↔ s.usesWord a := by
  have hmark : a ∈ (if s.tracker.stream.isOpen then [s.tracker.stream.markWord] else []) ↔
      s.tracker.stream.state ≠ .closed ∧ a = s.tracker.stream.markWord := by
    rw [← isOpen_iff]
    cases s.tracker.stream.isOpen <;> simp
  rw [State.wordsInUse, State.usesWord, ← mem_rings_wordsInUse_iff, List.contains_iff_mem, List.contains_iff_mem,
    List.mem_append, hmark]

theorem stateOf_eq_iff (u : RingUnit) {id : Nat} (h : id ≤ 5) (st : RingState) : u.stateOf id = st ↔ u.isIn id st := by
  unfold RingUnit.stateOf RingUnit.isIn
  by_cases hout : id < 4
  · have hnone : ¬∃ r : Fin 2, id = r.val + 4 ∧ (u.inbound[r]).state = st := by
      rintro ⟨r, rfl, _⟩
      omega
    rw [dif_pos hout, exists_fin_eq_val_iff hout fun r => (u.outbound[r]).state = st, or_iff_left hnone]
    rfl
  · have hin : id - 4 < 2 := by omega
    have hid : ∀ r : Fin 2, id = r.val + 4 ↔ id - 4 = r.val := by omega
    have hnone : ¬∃ r : Fin 4, id = r.val ∧ (u.outbound[r]).state = st := by
      rintro ⟨r, rfl, _⟩
      omega
    simp only [hid]
    rw [dif_neg hout, dif_pos hin, or_iff_right hnone,
      exists_fin_eq_val_iff hin fun r => (u.inbound[r]).state = st]
    rfl

theorem ringCountOk_eq_false_iff (n : Nat) : ringCountOk n = false ↔ ∀ k : Fin 8, n ≠ 2 ^ (k.val + 1) := by
  simp [ringCountOk, Fin.forall_fin_succ]

end Sys2Proof.Machine

/-!
Each command's own checks are its list of conditions and codes (R150 check 4).
-/

namespace Sys2Proof.Machine

/-! ### The region map's commands -/

theorem index_isLocked_iff (s : State) {k : Nat} (h : k < 32) :
    (s.map.windows[k]).locked = true ↔
      decide (∃ i : Fin 32, i.val = k ∧ (s.map.windows[i]).locked = true) = true := by
  rw [decide_eq_true_eq, exists_fin_val_eq_iff h fun i => (s.map.windows[i]).locked = true]
  rfl

theorem index_isNamed_iff (s : State) {k : Nat} (h : k < 32) :
    s.windowInUse ⟨k, h⟩ = true ↔
      decide (∃ i : Fin 32, i.val = k ∧ s.tracker.stream.state ≠ .closed ∧ i ∈ s.tracker.stream.windows) = true := by
  rw [decide_eq_true_eq, windowInUse_iff, exists_fin_val_eq_iff h]

theorem check_makeWindow (s : State) :
    Command.makeWindow.check s.mbox.params s = firstFault (s.ownChecks .makeWindow) := by
  show checkMakeWindow s.mbox.params s = _
  unfold checkMakeWindow State.ownChecks
  dsimp only [windowParams]
  split
  · next h =>
    refine refuse_eq_firstFault ?_ fun _ => refuse_eq_firstFault (index_isLocked_iff s h) fun _ =>
      refuse_eq_firstFault (index_isNamed_iff s h) fun _ => refuse_eq_firstFault ?_ fun _ =>
      refuse_eq_firstFault ?_ fun _ => refuse_eq_firstFault ?_ fun _ => refuse_last ?_
    · rw [decide_eq_true_eq]
      omega
    · exact (decide_eq_true_iff).symm
    · rw [getLsbD_set _ 0, getLsbD_set _ 16]
    · rw [decide_eq_true_eq, geometryOk_eq_false_iff]
    · rw [overlaps_iff, decide_eq_true_eq]
  · next h => exact (firstFault_of_fails (by rw [decide_eq_true_eq]; omega) _ _).symm

theorem check_clearWindow (s : State) :
    Command.clearWindow.check s.mbox.params s = firstFault (s.ownChecks .clearWindow) := by
  show checkClearWindow s.mbox.params s = _
  unfold checkClearWindow State.ownChecks
  dsimp only [indexParam]
  split
  · next h =>
    rw [firstFault_of_passes (by simpa using h)]
    exact refuse_eq_firstFault (index_isLocked_iff s h) fun _ => refuse_last (index_isNamed_iff s h)
  · next h => exact (firstFault_of_fails (by rw [decide_eq_true_eq]; omega) _ _).symm

theorem check_lockWindow (s : State) :
    Command.lockWindow.check s.mbox.params s = firstFault (s.ownChecks .lockWindow) := by
  show checkLockWindow s.mbox.params s = _
  unfold checkLockWindow State.ownChecks
  dsimp only [indexParam]
  split
  · next h =>
    rw [firstFault_of_passes (by simpa using h), ← ite_not]
    refine refuse_last ?_
    rw [decide_eq_true_eq, exists_fin_val_eq_iff h fun i => (s.map.windows[i]).kind = .free]
    simp [Window.valid]
  · next h => exact (firstFault_of_fails (by rw [decide_eq_true_eq]; omega) _ _).symm

/-! ### The stream's commands -/

theorem check_closeStream (s : State) :
    Command.closeStream.check s.mbox.params s = firstFault (s.ownChecks .closeStream) := by
  show checkCloseStream s = _
  unfold checkCloseStream
  rw [← ite_not]
  exact refuse_last decide_eq_true_iff.symm

/-- The listed windows of OPEN STREAM are those its count names, six at most. -/
theorem streamParams_listed {p : Params} (h : bits p[0] 7 0 ≤ 6) :
    (streamParams p).listed = (List.range (bits p[0] 7 0)).map fun k => bits p[0] (8 * k + 15) (8 * k + 8) := by
  show List.take _ (List.map _ (List.range 6)) = _
  rw [← List.map_take, List.take_range, min_eq_left h]

theorem check_openStream (s : State) :
    Command.openStream.check s.mbox.params s = firstFault (s.ownChecks .openStream) := by
  show checkOpenStream s.mbox.params s = _
  unfold checkOpenStream State.ownChecks
  dsimp only
  refine refuse_eq_firstFault decide_eq_true_iff.symm fun _ => ?_
  by_cases hcount : bits s.mbox.params[0] 7 0 ≤ 6
  · rw [streamParams_listed hcount]
    refine refuse_eq_firstFault ?_ fun _ => refuse_eq_firstFault ?_ fun _ => refuse_eq_firstFault ?_ fun _ =>
      refuse_eq_firstFault ?_ fun _ => refuse_eq_firstFault ?_ fun _ => refuse_eq_firstFault ?_ fun _ =>
      refuse_eq_firstFault ?_ fun _ => refuse_last ?_
    · simp [streamParams]
    · simp [streamParams]
    · simp [RegionMap.named]
    · simp
    · rw [decide_eq_true_eq, List.any_eq_true]
      simp only [Bool.or_eq_true, decide_eq_true_eq]
      rfl
    · simp [RegionMap.named]
    · rw [decide_eq_true_eq]
      exact badWord_iff s _
    · rw [decide_eq_true_eq]
      exact mem_rings_wordsInUse_iff s.rings _
  · rw [firstFault_of_fails (by rw [decide_eq_true_eq]; omega)]
    exact if_pos (.inr (.inl (by show 6 < bits _ 7 0; omega)))

/-! ### The rings' commands -/

theorem check_bindRing (s : State) :
    Command.bindRing.check s.mbox.params s = firstFault (s.ownChecks .bindRing) := by
  show checkBindRing s.mbox.params s = _
  unfold checkBindRing State.ownChecks
  dsimp only [ringParams]
  refine refuse_eq_firstFault decide_eq_true_iff.symm fun hid => refuse_eq_firstFault ?_ fun _ =>
    refuse_eq_firstFault ?_ fun _ => refuse_eq_firstFault decide_eq_true_iff.symm fun _ =>
    refuse_eq_firstFault ?_ fun _ => refuse_last ?_
  · rw [decide_eq_true_eq, ne_eq, stateOf_eq_iff _ (by omega)]
  · rw [decide_eq_true_eq, ringCountOk_eq_false_iff]
  · rw [decide_eq_true_eq, badWord_iff, badWord_iff, BitVec.toNat_inj]
  · rw [decide_eq_true_eq, mem_wordsInUse_iff, mem_wordsInUse_iff]

theorem check_bindReturn (s : State) :
    Command.bindReturn.check s.mbox.params s = firstFault (s.ownChecks .bindReturn) := by
  show checkBindReturn s.mbox.params s = _
  unfold checkBindReturn State.ownChecks
  dsimp only [returnParams]
  refine refuse_eq_firstFault Iff.rfl fun _ => refuse_eq_firstFault decide_eq_true_iff.symm fun _ =>
    refuse_eq_firstFault decide_eq_true_iff.symm fun _ => refuse_eq_firstFault ?_ fun _ => refuse_last ?_
  · rw [decide_eq_true_eq, badWord_iff]
  · rw [decide_eq_true_eq, mem_wordsInUse_iff]

theorem not_isIn_six (u : RingUnit) (st : RingState) : ¬u.isIn 6 st := by
  rintro (⟨r, hr, _⟩ | ⟨r, hr, _⟩) <;> omega

theorem check_unbind (s : State) :
    Command.unbind.check s.mbox.params s = firstFault (s.ownChecks .unbind) := by
  show checkUnbind s.mbox.params s = _
  unfold checkUnbind State.ownChecks
  dsimp only [indexParam]
  refine refuse_eq_firstFault decide_eq_true_iff.symm fun hid => ?_
  by_cases hsix : bits s.mbox.params[0] 7 0 = 6
  · rw [if_pos hsix, ← ite_not]
    refine refuse_last ?_
    rw [decide_eq_true_eq, hsix]
    simp [not_isIn_six]
  · rw [if_neg hsix]
    refine refuse_last ?_
    rw [decide_eq_true_eq, stateOf_eq_iff _ (by omega)]
    simp [hsix]

theorem badWritten_iff_out (u : RingUnit) {id : Nat} (h : id < 4) :
    u.badWritten id ↔ (u.outbound[id]).indexOk (u.outbound[id]).producerWritten = false := by
  have hnone : ∀ P : Fin 2 → Prop, ¬∃ r : Fin 2, id = r.val + 4 ∧ P r := by
    rintro P ⟨r, rfl, _⟩
    omega
  rw [← Bool.not_eq_true, outIndexOk_iff, RingUnit.badWritten, or_iff_left (hnone _),
    exists_fin_eq_val_iff h fun r =>
      (u.outbound[r]).count < ((u.outbound[r]).producerWritten - (u.outbound[r]).consumer).toNat ∨
        ((u.outbound[r]).producerWritten - (u.outbound[r]).consumer).toNat < (u.outbound[r]).head.takenCount,
    not_and_or, not_le, not_le]
  rfl

theorem badWritten_iff_in (u : RingUnit) {id : Nat} (hout : ¬id < 4) (h : id - 4 < 2) :
    u.badWritten id ↔ (u.inbound[id - 4]).indexOk (u.inbound[id - 4]).consumerWritten = false := by
  have hnone : ∀ P : Fin 4 → Prop, ¬∃ r : Fin 4, id = r.val ∧ P r := by
    rintro P ⟨r, rfl, _⟩
    omega
  have hid : ∀ r : Fin 2, id = r.val + 4 ↔ id - 4 = r.val := by omega
  simp only [RingUnit.badWritten, hid]
  rw [or_iff_right (hnone _),
    exists_fin_eq_val_iff h fun r =>
      ((u.inbound[r]).producer - (u.inbound[r]).consumerSeen).toNat <
        ((u.inbound[r]).consumerWritten - (u.inbound[r]).consumerSeen).toNat]
  rw [InRing.indexOk, decide_eq_false_iff_not, not_le]
  rfl

theorem check_resumeRing (s : State) :
    Command.resumeRing.check s.mbox.params s = firstFault (s.ownChecks .resumeRing) := by
  show checkResumeRing s.mbox.params s = _
  unfold checkResumeRing State.ownChecks
  dsimp only [indexParam]
  refine refuse_eq_firstFault decide_eq_true_iff.symm fun hid => refuse_eq_firstFault ?_ fun _ => ?_
  · rw [decide_eq_true_eq, ne_eq, stateOf_eq_iff _ (by omega)]
  · split
    · next hout =>
      rw [← ite_not]
      refine refuse_last ?_
      rw [decide_eq_true_eq, badWritten_iff_out _ hout, Bool.not_eq_true]
    · next hout =>
      split
      · next hin =>
        rw [← ite_not]
        refine refuse_last ?_
        rw [decide_eq_true_eq, badWritten_iff_in _ hout hin, Bool.not_eq_true]
      · omega

/-! ### The link unit's and the status unit's commands -/

theorem check_setSplit (s : State) :
    Command.setSplit.check s.mbox.params s = firstFault (s.ownChecks .setSplit) := by
  show checkSetSplit s.mbox.params s = _
  unfold checkSetSplit State.ownChecks splitParams
  dsimp only
  refine refuse_eq_firstFault decide_eq_true_iff.symm fun _ => ?_
  split
  · next hup hrate =>
    refine (firstFault_of_fails ?_ _ _).symm
    simp [LinkUnit.ratePending, hup, hrate]
  · next hother =>
    refine ((firstFault_of_passes ?_ _ _).trans firstFault_nil).symm
    rw [decide_eq_false_iff_not]
    rintro ⟨hup, hpending⟩
    unfold LinkUnit.ratePending at hpending
    split at hpending
    · cases hpending
    · next c hc =>
      split at hpending
      · next r hr => exact hother r c.effective c.echoed hup (by rw [hc, ← hr])
      · cases hpending

theorem rate_ofCode_isNone_iff (n : Nat) : (Rate.ofCode n).isNone = true ↔ 3 < n := by
  rcases n with _ | _ | _ | _ | n <;> simp [Rate.ofCode]

theorem check_linkControl (s : State) :
    Command.linkControl.check s.mbox.params s = firstFault (s.ownChecks .linkControl) := by
  show checkLinkControl s.mbox.params s = _
  unfold checkLinkControl State.ownChecks
  rw [linkOperation_eq]
  dsimp only
  by_cases henable : bits s.mbox.params[0] 7 0 = 1
  · rw [if_pos henable]
    refine refuse_eq_firstFault ?_ fun _ => ((firstFault_of_passes (by simp [henable]) _ _).trans firstFault_nil).symm
    rw [decide_eq_true_eq, linkCeiling, rate_ofCode_isNone_iff, henable]
    simp
  by_cases hdisable : bits s.mbox.params[0] 7 0 = 2
  · rw [if_neg henable, if_pos hdisable, firstFault_of_passes (by simp [hdisable])]
    rw [firstFault_of_passes (by simp [hdisable])]
    rfl
  by_cases hretrain : bits s.mbox.params[0] 7 0 = 3
  · rw [if_neg henable, if_neg hdisable, if_pos hretrain, firstFault_of_passes (by simp [hretrain])]
    show (if s.link.enabled = true then none else some ErrorCode.stateError) = _
    rw [← ite_not]
    refine refuse_last ?_
    simp [hretrain]
  · rw [if_neg henable, if_neg hdisable, if_neg hretrain]
    exact (firstFault_of_fails (by rw [decide_eq_true_eq]; omega) _ _).symm

theorem check_snapshotCounters (s : State) :
    Command.snapshotCounters.check s.mbox.params s = firstFault (s.ownChecks .snapshotCounters) := by
  refine refuse_last ?_
  rw [snapshotOption_eq, decide_eq_true_eq]
  split_ifs <;> simp <;> omega

/-- A command's own checks are those of its list, in order (R150). -/
theorem check_eq_firstFault (c : Command) (s : State) : c.check s.mbox.params s = firstFault (s.ownChecks c) := by
  cases c with
  | makeWindow => exact check_makeWindow s
  | clearWindow => exact check_clearWindow s
  | lockWindow => exact check_lockWindow s
  | readWindowFirst => rfl
  | readWindowNext => rfl
  | openStream => exact check_openStream s
  | closeStream => exact check_closeStream s
  | bindRing => exact check_bindRing s
  | bindReturn => exact check_bindReturn s
  | unbind => exact check_unbind s
  | resumeRing => exact check_resumeRing s
  | loadSchedule => exact refuse_last decide_eq_true_iff.symm
  | setSplit => exact check_setSplit s
  | linkControl => exact check_linkControl s
  | snapshotCounters => exact check_snapshotCounters s
  | setEvents => exact refuse_last decide_eq_true_iff.symm
  | restart => rfl

end Sys2Proof.Machine

/-!
Launches that fail a check (O38).
-/

namespace Sys2Proof.Machine

/-! ### What a failing launch is -/

/-- What the checks leave before the failure's result word: nothing but for the cause of a HALTED ring whose RESUME
RING reaches its own checks (R106, R150; log entry 21). -/
def State.refusal (code : BitVec 8) (n : BitVec 4) (s : State) : State :=
  if code = Command.resumeRing.code ∧ n = 1 ∧ s.mbox.anyStale 1 = false then failResumeRing s.mbox.params s else s

section refusal

variable {code : BitVec 8} {n : BitVec 4} {s : State}

theorem refusal_of_not_resume (h : code ≠ Command.resumeRing.code ∨ n ≠ 1 ∨ s.mbox.anyStale 1 = true) :
    s.refusal code n = s := by
  refine if_neg ?_
  rintro ⟨hcode, hn, hfresh⟩
  simp [hcode, hn, hfresh] at h

theorem failResumeRing_rings (p : Params) (s : State) :
    failResumeRing p s = { s with rings := (failResumeRing p s).rings } := by
  unfold failResumeRing
  dsimp only
  split
  · split <;> rfl
  · rfl

theorem refusal_rings : s.refusal code n = { s with rings := (s.refusal code n).rings } := by
  unfold State.refusal
  split
  · exact failResumeRing_rings _ s
  · rfl

theorem failResumeRing_of_halted {p : Params} {r : Fin 4} (hid : bits p[0] 7 0 = r.val)
    (hhalted : (s.rings.outbound[r]).state = .halted) :
    failResumeRing p s =
      { s with
        rings :=
          { s.rings with
            outbound := s.rings.outbound.set r { s.rings.outbound[r] with cause := .index } } } := by
  unfold failResumeRing indexParam
  simp only [hid]
  rw [dif_pos r.isLt]
  exact if_pos hhalted

theorem failResumeRing_of_not_halted {p : Params}
    (h : ∀ r : Fin 4, bits p[0] 7 0 = r.val → (s.rings.outbound[r]).state ≠ .halted) : failResumeRing p s = s := by
  unfold failResumeRing indexParam
  dsimp only
  split
  · next hout => exact if_neg (h ⟨_, hout⟩ rfl)
  · rfl

end refusal

section launches

variable {code : BitVec 8} {n : BitVec 4} {s : State}

theorem launch_of_unknown (hmode : s.path.mode = .ready) (hidle : s.mbox.running = none) (hcode : code ≠ 0)
    (hof : Command.ofCode code = none) (tag : BitVec 8) :
    s.launch code n tag = s.failLaunch { code, tag } .unknownOp := by
  unfold State.launch
  rw [if_neg (launch_received hmode hcode), hidle]
  unfold State.judge
  rw [hof]

theorem launch_of_shape {c : Command} (hmode : s.path.mode = .ready) (hidle : s.mbox.running = none)
    (hcount : n.toNat ≠ c.paramCount) (tag : BitVec 8) :
    s.launch c.code n tag = s.failLaunch { code := c.code, tag } .shape := by
  unfold State.launch
  rw [if_neg (launch_received hmode (code_ne_zero c)), hidle]
  unfold State.judge
  rw [ofCode_code]
  exact if_pos hcount

theorem launch_of_stale {c : Command} (hmode : s.path.mode = .ready) (hidle : s.mbox.running = none)
    (hcount : n.toNat = c.paramCount) (hstale : s.mbox.anyStale c.paramCount = true) (tag : BitVec 8) :
    s.launch c.code n tag = s.failLaunch { code := c.code, tag } .stale := by
  unfold State.launch
  rw [if_neg (launch_received hmode (code_ne_zero c)), hidle]
  unfold State.judge
  rw [ofCode_code]
  exact (if_neg (not_not.2 hcount)).trans (if_pos hstale)

theorem code_injective {c d : Command} (h : c.code = d.code) : c = d :=
  Option.some.inj ((ofCode_code c).symm.trans ((congrArg Command.ofCode h).trans (ofCode_code d)))

theorem failed_of_ne {c : Command} (h : c ≠ .resumeRing) (p : Params) (s : State) : c.failed p s = s := by
  cases c with
  | resumeRing => exact absurd rfl h
  | _ => rfl

/-- What a command that reaches its own checks and fails leaves is its refusal. -/
theorem failed_eq_refusal {c : Command} (hcount : n.toNat = c.paramCount)
    (hfresh : s.mbox.anyStale c.paramCount = false) : c.failed s.mbox.params s = s.refusal c.code n := by
  by_cases hc : c = .resumeRing
  · subst hc
    have hn : n = 1 := BitVec.eq_of_toNat_eq hcount
    exact (if_pos ⟨rfl, hn, hfresh⟩).symm
  · rw [failed_of_ne hc, refusal_of_not_resume (.inl fun h => hc (code_injective h))]

/-- A launch that fails with a code is its refusal and the result word (R150). -/
theorem launch_eq_refusal {e : ErrorCode} (hmode : s.path.mode = .ready) (hidle : s.mbox.running = none)
    (hcode : code ≠ 0) (hunknown : Command.ofCode code = none → e = .unknownOp)
    (hknown : ∀ c, Command.ofCode code = some c →
      if n.toNat ≠ c.paramCount then e = .shape
      else if s.mbox.anyStale c.paramCount = true then e = .stale else c.check s.mbox.params s = some e)
    (tag : BitVec 8) : s.launch code n tag = (s.refusal code n).failLaunch { code, tag } e := by
  cases hof : Command.ofCode code with
  | none =>
    have hresume : code ≠ Command.resumeRing.code := by
      rintro rfl
      cases hof
    rw [launch_of_unknown hmode hidle hcode hof, refusal_of_not_resume (.inl hresume), hunknown hof]
  | some c =>
    obtain rfl := ofCode_eq_some_iff.1 hof
    have he := hknown c hof
    have hplain (h : n.toNat ≠ c.paramCount ∨ s.mbox.anyStale c.paramCount = true) : s.refusal c.code n = s := by
      by_cases hc : c = .resumeRing
      · subst hc
        exact refusal_of_not_resume (.inr (h.imp_left fun hne hn => hne (hn ▸ rfl)))
      · exact refusal_of_not_resume (.inl fun h => hc (code_injective h))
    by_cases hcount : n.toNat = c.paramCount
    · rw [if_neg (not_not.2 hcount)] at he
      by_cases hstale : s.mbox.anyStale c.paramCount = true
      · rw [if_pos hstale] at he
        rw [launch_of_stale hmode hidle hcount hstale, hplain (.inr hstale), he]
      · rw [if_neg hstale] at he
        have hfresh : s.mbox.anyStale c.paramCount = false := Bool.eq_false_iff.2 hstale
        rw [launch_of_refused hmode hidle hcount hfresh he, failed_eq_refusal hcount hfresh]
    · rw [if_pos hcount] at he
      rw [launch_of_shape hmode hidle hcount, hplain (.inl hcount), he]

/-- A refused launch's state: every slot STALE, the result word, and the rings of the refusal (R150). -/
theorem refusal_failLaunch (hidle : s.mbox.running = none) (n : BitVec 4) (tag : BitVec 8) (e : ErrorCode) :
    (s.refusal code n).failLaunch { code, tag } e =
      { s with
        rings := (s.refusal code n).rings
        mbox := s.mbox.staled none
        path := { s.path with other := s.path.other ++ [resultWordWrite s .failed code tag e true] } } := by
  have hmbox : (s.refusal code n).mbox.running = none := by
    rw [refusal_rings]
    exact hidle
  rw [failLaunch_eq hmbox]
  conv_lhs => rw [refusal_rings]
  rfl

end launches

/-! ### The statement -/

theorem anyStale_eq_true_iff (n : Nat) (m : Mailbox) :
    m.anyStale n = true ↔ ∃ i : Fin 8, i.val < n ∧ (m.slots[i]).fresh = false := by
  rw [← Bool.not_eq_false, anyStale_eq_false_iff]
  simp

/-- Settles O38: a launch that fails is its refusal and one result word, and each command's own checks are its list. -/
theorem failedLaunchWritesResult : Obligations.FailedLaunchWritesResult := by
  refine ⟨fun c code n tag e s hlaunch hwf hmode hidle hown he => ?_, fun c s => check_eq_firstFault c s,
    ⟨fun code c => ofCode_eq_some_iff, by decide, by decide, by decide⟩, anyStale_eq_true_iff, fun m i => ?_,
    fun w hi lo h => bits_eq_extract w h⟩
  · have hexec := exec_launch_of_own hlaunch hwf fun op other hop hother _ hn hstale => hown op other hop hother hn hstale
    obtain ⟨due, hnext⟩ := changeIn_eq_withDue (launchOrder code) (State.launch code n tag) s
    have hfails : s.launch code n tag = (s.refusal code n).failLaunch { code, tag } e := by
      refine launch_eq_refusal hmode hidle (launchOf_code_ne_zero hlaunch hwf) (fun hof => ?_) (fun cmd hof => ?_) tag
      · rw [hof] at he
        exact he
      · rw [hof] at he
        exact he
    rw [hfails, refusal_failLaunch hidle] at hnext
    refine ⟨_, hexec.trans hnext, rfl, rfl, ⟨rfl, rfl, rfl⟩, rfl, rfl, fun r hcode hn hfresh hr hhalted => ?_,
      fun hother => ?_, ⟨rfl, rfl, rfl, rfl⟩, rfl⟩
    · show (s.refusal code n).rings = _
      rw [State.refusal, if_pos ⟨hcode, hn, hfresh⟩,
        failResumeRing_of_halted ((bits_low_byte _).trans hr) hhalted]
    · show (s.refusal code n).rings = _
      by_cases hresume : code = Command.resumeRing.code ∧ n = 1 ∧ s.mbox.anyStale 1 = false
      · have hids : ∀ r : Fin 4, bits s.mbox.params[0] 7 0 = r.val → (s.rings.outbound[r]).state ≠ .halted := by
          simp only [hresume.1, hresume.2.1, hresume.2.2, ne_eq, not_true_eq_false, Bool.false_eq_true,
            false_or] at hother
          exact fun r hr => hother r ((bits_low_byte _).symm.trans hr)
        rw [State.refusal, if_pos hresume, failResumeRing_of_not_halted hids]
      · rw [State.refusal, if_neg hresume]
  · simp [Mailbox.params]

end Sys2Proof.Machine

/-!
MAKE, CLEAR and LOCK WINDOW (O39).
-/

namespace Sys2Proof.Machine

/-! ### What an accepted command's checks say -/

/-- An accepted command passes each of its own checks (R150 check 4). -/
theorem passes_of_accepts {c : Command} {count : BitVec 4} {s : State} (h : s.Accepts c count) :
    ∀ x ∈ s.ownChecks c, x.1 = false := by
  obtain ⟨_, _, _, _, hcheck⟩ := h
  rw [check_eq_firstFault, firstFault_eq_none_iff] at hcheck
  exact hcheck

theorem setWindow_eq (i : Fin 32) (w : Window) (s : State) :
    s.setWindow i.val w = s.updMap fun m => { m with windows := m.windows.set i w } := dif_pos i.isLt

/-! ### Refusal of an index above 31 -/

/-- A command that fails one of its own checks and is not RESUME RING leaves nothing but its failure (R150). -/
theorem changeIn_launch_refused {c : Command} {count : BitVec 4} {e : ErrorCode} {s : State} (tag : BitVec 8)
    (o : WordOrder) (hmode : s.path.mode = .ready) (hidle : s.mbox.running = none)
    (hcount : count.toNat = c.paramCount) (hfresh : s.mbox.anyStale c.paramCount = false)
    (hcheck : c.check s.mbox.params s = some e) (hc : c ≠ .resumeRing) :
    ∃ due, changeIn o (State.launch c.code count tag) s =
      .next
        ({ s with
            mbox := s.mbox.staled none
            path :=
              { s.path with
                other := s.path.other ++ [resultWordWrite s .failed c.code tag e true] } }.withDue due) := by
  obtain ⟨due, hnext⟩ := changeIn_eq_withDue o (State.launch c.code count tag) s
  refine ⟨due, ?_⟩
  rw [hnext, launch_of_refused hmode hidle hcount hfresh hcheck, failed_of_ne hc, failLaunch_eq hidle]

section refusals

variable {s : State}

theorem check_makeWindow_of_above (h : 32 ≤ bits s.mbox.params[0] 7 0) :
    Command.makeWindow.check s.mbox.params s = some .range :=
  (check_makeWindow s).trans (firstFault_of_fails (decide_eq_true (.inl h)) _ _)

theorem check_clearWindow_of_above (h : 32 ≤ bits s.mbox.params[0] 7 0) :
    Command.clearWindow.check s.mbox.params s = some .range :=
  (check_clearWindow s).trans (firstFault_of_fails (decide_eq_true h) _ _)

theorem check_lockWindow_of_above (h : 32 ≤ bits s.mbox.params[0] 7 0) :
    Command.lockWindow.check s.mbox.params s = some .range :=
  (check_lockWindow s).trans (firstFault_of_fails (decide_eq_true h) _ _)

end refusals

/-! ### The entries named -/

theorem unlocked_of_passes {s : State} {k : Nat} {i : Fin 32} (hk : k = i.val)
    (h : decide (∃ j : Fin 32, j.val = k ∧ (s.map.windows[j]).locked = true) = false) :
    (s.map.windows[i]).locked = false :=
  Bool.eq_false_iff.2 fun hlocked => (decide_eq_false_iff_not.1 h) ⟨i, hk.symm, hlocked⟩

theorem unnamed_of_passes {s : State} {k : Nat} {i : Fin 32} (hk : k = i.val)
    (h : decide (∃ j : Fin 32, j.val = k ∧ s.tracker.stream.state ≠ .closed ∧ j ∈ s.tracker.stream.windows) = false) :
    s.tracker.stream.state = .closed ∨ i ∉ s.tracker.stream.windows := by
  by_contra hno
  obtain ⟨hstate, hmem⟩ := not_or.1 hno
  exact (decide_eq_false_iff_not.1 h) ⟨i, hk.symm, hstate, not_not.1 hmem⟩

/-- The entry that MAKE WINDOW makes, by the bits of its parameter words (R25). -/
theorem madeWindow_eq (p : Params) :
    madeWindow (windowParams p) =
      { kind := if bits p[0] 9 8 = 1 then .capture else .guard, base := p[1].toNat, size := p[2].toNat
        writers := BitVec.ofNat 16 (bits p[3] 15 0), readers := BitVec.ofNat 16 (bits p[3] 31 16)
        locked := false, segLen := if bits p[0] 9 8 = 1 then bits p[4] 15 0 else 0
        pitch := if bits p[0] 9 8 = 1 then bits p[4] 48 32 else 0
        stride := if bits p[0] 9 8 = 1 then p[5].toNat else 0 } := by
  unfold madeWindow windowParams
  by_cases hcapture : bits p[0] 9 8 = 1 <;> simp [hcapture]

/-- Settles O39: an index above 31 is refused, and an accepted command changes the entry named. -/
theorem mapCommandsChangeOneEntry : Obligations.MapCommandsChangeOneEntry := by
  refine ⟨fun cmd c count tag s hmem hmode hidle hcount hfresh habove => ?_, fun count tag i s hi => ?_⟩
  · rw [← bits_low_byte] at habove
    have hrefused : ∃ due, exec c s = .next
        ({ s with
            mbox := s.mbox.staled none
            path :=
              { s.path with
                other := s.path.other ++ [resultWordWrite s .failed cmd.code tag .range true] } }.withDue due) := by
      simp only [List.mem_cons, Prod.mk.injEq, List.not_mem_nil, or_false] at hmem
      obtain ⟨rfl, rfl⟩ | ⟨rfl, rfl⟩ | ⟨rfl, rfl⟩ := hmem
      · exact changeIn_launch_refused tag _ hmode hidle hcount hfresh (check_makeWindow_of_above habove) (by decide)
      · exact changeIn_launch_refused tag _ hmode hidle hcount hfresh (check_clearWindow_of_above habove) (by decide)
      · exact changeIn_launch_refused tag _ hmode hidle hcount hfresh (check_lockWindow_of_above habove) (by decide)
    obtain ⟨due, hnext⟩ := hrefused
    exact ⟨_, hnext, rfl, rfl, ⟨rfl, rfl, rfl⟩, ⟨rfl, rfl, rfl⟩, ⟨rfl, rfl, rfl, rfl⟩, rfl⟩
  · have hindex : bits s.mbox.params[0] 7 0 = i.val := (bits_low_byte _).trans hi
    refine ⟨fun hacc => ?_, fun hacc => ?_, fun hacc => ?_⟩
    · have hpasses := passes_of_accepts hacc
      simp only [State.ownChecks, List.forall_mem_cons] at hpasses
      obtain ⟨hkind, hlocked, hnamed, hbase, hsets, hgeometry, hpage, -⟩ := hpasses
      have hnokind := decide_eq_false_iff_not.1 hkind
      have hnobase := decide_eq_false_iff_not.1 hbase
      have hnogeometry := decide_eq_false_iff_not.1 hgeometry
      have hnopage := decide_eq_false_iff_not.1 hpage
      obtain ⟨hwriters, hreaders⟩ := Bool.or_eq_false_iff.1 hsets
      have heff : Command.makeWindow.effect s.mbox.params (s.begun .makeWindow tag) =
          ((s.begun .makeWindow tag).updMap fun m =>
            { m with windows := m.windows.set i (madeWindow (windowParams s.mbox.params)) },
           some [numberWord i.val]) := by
        show completes (State.setWindow (bits s.mbox.params[0] 7 0) _ _, [numberWord (bits s.mbox.params[0] 7 0)]) = _
        rw [hindex, setWindow_eq]
        rfl
      obtain ⟨due, hnext⟩ := changeIn_launch_completes tag (launchOrder _) hacc (by decide) heff rfl rfl
      refine ⟨unlocked_of_passes hindex hlocked, unnamed_of_passes hindex hnamed, by omega, by omega, by omega,
        by omega, by omega, hwriters, hreaders, fun hcapture => ?_, by omega, _, hnext, ?_,
        completesAtOnce_ended_of_path rfl rfl, rfl, rfl, ⟨rfl, rfl, rfl⟩, ⟨rfl, rfl, rfl, rfl⟩, rfl⟩
      · have hok : ¬badGeometry (bits s.mbox.params[4] 15 0) (bits s.mbox.params[4] 48 32) s.mbox.params[5].toNat
            s.mbox.params[2].toNat := fun hbad => hnogeometry ⟨hcapture, hbad⟩
        unfold badGeometry at hok
        omega
      · rw [← madeWindow_eq]
        rfl
    · have hpasses := passes_of_accepts hacc
      simp only [State.ownChecks, List.forall_mem_cons] at hpasses
      obtain ⟨-, hlocked, hnamed, -⟩ := hpasses
      have heff : Command.clearWindow.effect s.mbox.params (s.begun .clearWindow tag) =
          ((s.begun .clearWindow tag).updMap fun m => { m with windows := m.windows.set i Window.free },
           some [numberWord i.val]) := by
        show completes (State.setWindow (bits s.mbox.params[0] 7 0) _ _, [numberWord (bits s.mbox.params[0] 7 0)]) = _
        rw [hindex, setWindow_eq]
        rfl
      obtain ⟨due, hnext⟩ := changeIn_launch_completes tag (launchOrder _) hacc (by decide) heff rfl rfl
      exact ⟨unlocked_of_passes hindex hlocked, unnamed_of_passes hindex hnamed, _, hnext, rfl,
        completesAtOnce_ended_of_path rfl rfl, rfl, rfl, ⟨rfl, rfl, rfl⟩, ⟨rfl, rfl, rfl, rfl⟩, rfl⟩
    · have hpasses := passes_of_accepts hacc
      simp only [State.ownChecks, List.forall_mem_cons] at hpasses
      obtain ⟨-, hfree, -⟩ := hpasses
      have heff : Command.lockWindow.effect s.mbox.params (s.begun .lockWindow tag) =
          ((s.begun .lockWindow tag).updMap fun m =>
            { m with windows := m.windows.set i { s.map.windows[i] with locked := true } },
           some [numberWord i.val]) := by
        show completes (doLockWindow _ _) = _
        unfold doLockWindow indexParam
        simp only [hindex]
        rw [dif_pos i.isLt, setWindow_eq]
        rfl
      obtain ⟨due, hnext⟩ := changeIn_launch_completes tag (launchOrder _) hacc (by decide) heff rfl rfl
      exact ⟨fun h => (decide_eq_false_iff_not.1 hfree) ⟨i, hindex.symm, h⟩, _, hnext, rfl,
        completesAtOnce_ended_of_path rfl rfl, rfl, rfl, ⟨rfl, rfl, rfl⟩, ⟨rfl, rfl, rfl, rfl⟩, rfl⟩

end Sys2Proof.Machine

/-!
BIND RING, BIND RETURN, UNBIND and RESUME RING (O43, O44).
-/

namespace Sys2Proof.Machine

/-! ### BIND RING and BIND RETURN (R97, R109, R116) -/

/-- An outbound ring as BIND RING leaves it (R97). -/
def boundOut (p : Params) : OutRing :=
  { OutRing.unbound with
    state := .active
    kind := if bits p[0] 15 8 = 1 then .reliable else .plain
    count := bits p[0] 31 16, base := p[1].toNat
    producerWord := some p[2].toNat
    consumerWord := some p[3].toNat
    syncNeeded := decide (bits p[0] 15 8 = 1) }

/-- An inbound ring as BIND RING leaves it (R109, R114). -/
def boundIn (p : Params) : InRing :=
  { InRing.unbound with
    state := .active, count := bits p[0] 31 16
    base := p[1].toNat, producerWord := some p[2].toNat
    consumerWord := some p[3].toNat
    holdRequested := decide (bits p[0] 31 16 ≤ 2) }

/-- A ring with no slot occupied and nothing requested yet asks to hold where its slots are two at most (R114). -/
theorem flow_of_empty {q : InRing} (hempty : q.producer = q.consumerSeen) (hhold : q.holdRequested = false) :
    q.flow = { q with holdRequested := decide (q.count ≤ 2) } := by
  have hocc : q.occupied = 0 := by simp [InRing.occupied, hempty]
  unfold InRing.flow
  rw [hocc, hhold]
  by_cases hfew : q.count ≤ 2
  · simp [hfew]
  · simp [hfew, ← hhold]

theorem doBindRing_out {p : Params} {r : Fin 4} (hid : bits p[0] 7 0 = r.val) (s : State) :
    doBindRing p s =
      ((s.updRings fun u => { u with outbound := u.outbound.set r (boundOut p) }).issueWrite .indexWord p[3].toNat
        (leBytes 8 0), [numberWord r.val]) := by
  unfold doBindRing ringParams
  simp only [hid]
  rw [dif_pos r.isLt]
  unfold boundOut State.updOut
  by_cases hreliable : bits p[0] 15 8 = 1 <;> simp [hreliable]

theorem doBindRing_in {p : Params} {r : Fin 2} (hid : bits p[0] 7 0 = r.val + 4) (s : State) :
    doBindRing p s =
      ((s.updRings fun u => { u with inbound := u.inbound.set r (boundIn p) }).issueWrite .indexWord p[2].toNat
        (leBytes 8 0), [numberWord (r.val + 4)]) := by
  have hout : ¬r.val + 4 < 4 := by omega
  unfold doBindRing ringParams
  simp only [hid, Nat.add_sub_cancel]
  rw [dif_neg hout, dif_pos r.isLt, flow_of_empty (by rfl) (by rfl)]
  rfl

/-- Settles O43: a ring bound is its parameters with every index at 0, a return picture bound is empty. -/
theorem bindingsStartFresh : Obligations.BindingsStartFresh := by
  refine fun count tag s => ⟨fun r hacc hr => ?_, fun r hacc hr => ?_, fun hacc => ?_⟩
  · have heff : Command.bindRing.effect s.mbox.params (s.begun .bindRing tag) = _ :=
      congrArg completes (doBindRing_out ((bits_low_byte _).trans hr) (s.begun .bindRing tag))
    obtain ⟨due, hnext⟩ := changeIn_launch_completes tag (launchOrder _) hacc (by decide) heff rfl rfl
    exact ⟨_, hnext, rfl, completesAtOnce_ended rfl rfl, ⟨rfl, rfl, rfl⟩, rfl, rfl, ⟨rfl, rfl, rfl, rfl⟩, rfl⟩
  · have heff : Command.bindRing.effect s.mbox.params (s.begun .bindRing tag) = _ :=
      congrArg completes (doBindRing_in ((bits_low_byte _).trans hr) (s.begun .bindRing tag))
    obtain ⟨due, hnext⟩ := changeIn_launch_completes tag (launchOrder _) hacc (by decide) heff rfl rfl
    exact ⟨_, hnext, rfl, completesAtOnce_ended rfl rfl, ⟨rfl, rfl, rfl⟩, rfl, rfl, ⟨rfl, rfl, rfl, rfl⟩, rfl⟩
  · obtain ⟨due, hnext⟩ := changeIn_launch_completes tag (launchOrder _) hacc (by decide) rfl rfl rfl
    exact ⟨_, hnext, rfl, completesAtOnce_ended_of_path rfl rfl, ⟨rfl, rfl, rfl⟩, rfl, rfl, ⟨rfl, rfl, rfl, rfl⟩, rfl⟩

end Sys2Proof.Machine

/-!
UNBIND and RESUME RING (O44).
-/

namespace Sys2Proof.Machine

/-! ### The fetch of a ring (R99) -/

section fetch

variable {r : Fin 4} {s : State}

/-- The state after the fetch of a ring's next record is issued (R99). -/
def State.fetched (r : Fin 4) (s : State) : State :=
  { s with
    rings :=
      { s.rings with
        outbound := s.rings.outbound.set r { s.rings.outbound[r] with head := .fetching s.rings.nextSerial }
        nextSerial := s.rings.nextSerial + 1 }
    path :=
      { s.path with
        egress :=
          s.path.egress ++
            [{ owner := .recordFetch r s.rings.nextSerial
               addr := (s.rings.outbound[r]).recordAddr, access := .read 64, live := true }] } }

theorem pendingCount_pos_iff (o : OutRing) : 0 < o.pendingCount ↔ o.producerSeen ≠ o.consumer := by
  unfold OutRing.pendingCount
  rw [ne_eq, ← sub_eq_zero, ← BitVec.toNat_inj, Nat.pos_iff_ne_zero]
  rfl

theorem tryFetch_of_pending (hstate : (s.rings.outbound[r]).state = .active)
    (hhead : (s.rings.outbound[r]).head = .empty)
    (hpending : (s.rings.outbound[r]).producerSeen ≠ (s.rings.outbound[r]).consumer) :
    s.tryFetch r = s.fetched r :=
  if_pos ⟨hstate, hhead, (pendingCount_pos_iff _).2 hpending⟩

theorem tryFetch_of_idle
    (h : (s.rings.outbound[r]).head ≠ .empty ∨
      (s.rings.outbound[r]).producerSeen = (s.rings.outbound[r]).consumer) : s.tryFetch r = s := by
  refine if_neg ?_
  rintro ⟨_, hhead, hpending⟩
  exact h.elim (fun hne => hne hhead) ((pendingCount_pos_iff _).1 hpending)

theorem fetched_slot (r : Fin 4) (s : State) :
    (s.fetched r).rings.outbound[r] = { s.rings.outbound[r] with head := .fetching s.rings.nextSerial } :=
  (getElem_set_slot s.rings.outbound r r _).trans (if_pos rfl)

theorem fetched_other {r q : Fin 4} (h : q ≠ r) (s : State) :
    (s.fetched r).rings.outbound[q] = s.rings.outbound[q] :=
  (getElem_set_slot s.rings.outbound r q _).trans (if_neg h.symm)

end fetch

/-! ### UNBIND (R107, R119, R158) -/

theorem doUnbind_eq (p : Params) (s : State) :
    doUnbind p s =
      ({ s with
          rings :=
            (if h : p[0].toNat % 256 < 4 then
              { s.rings with outbound := s.rings.outbound.set (p[0].toNat % 256) OutRing.unbound }
             else if h : p[0].toNat % 256 - 4 < 2 then
              { s.rings with inbound := s.rings.inbound.set (p[0].toNat % 256 - 4) InRing.unbound }
             else { s.rings with ret := ReturnBinding.unbound }) },
        [numberWord (p[0].toNat % 256)]) := by
  unfold doUnbind indexParam
  simp only [bits_low_byte]
  split
  · rfl
  · split <;> rfl

/-! ### RESUME RING (R106, R110) -/

/-- A HALTED outbound ring as RESUME RING leaves it, before its fetch (R106). -/
def OutRing.resumed (o : OutRing) : OutRing :=
  { o with
    producerSeen := o.producerWritten, state := .active, cause := .none
    syncNeeded := decide (o.kind = .reliable) || o.syncNeeded }

theorem resumed_recordAddr (o : OutRing) : o.resumed.recordAddr = o.base + (o.consumer.toNat % o.count) * 64 := rfl

theorem resumed_syncNeeded {o : OutRing} (h : o.kind = .reliable) : o.resumed.syncNeeded = true := by
  simp [OutRing.resumed, h]

/-- A HALTED inbound ring as RESUME RING leaves it, before its flow is followed (R110). -/
def InRing.resumed (q : InRing) : InRing :=
  { q with consumerSeen := q.consumerWritten, state := .active, cause := .none }

theorem doResumeRing_out {p : Params} {r : Fin 4} (hid : bits p[0] 7 0 = r.val) (s : State) :
    doResumeRing p s = ((s.updOut r OutRing.resumed).tryFetch r, [numberWord r.val]) := by
  unfold doResumeRing indexParam
  simp only [hid]
  rw [dif_pos r.isLt]
  rfl

theorem doResumeRing_in {p : Params} {r : Fin 2} (hid : bits p[0] 7 0 = r.val + 4) (s : State) :
    doResumeRing p s = (s.updIn r fun q => q.resumed.flow, [numberWord (r.val + 4)]) := by
  have hout : ¬r.val + 4 < 4 := by omega
  unfold doResumeRing indexParam
  simp only [hid, Nat.add_sub_cancel]
  rw [dif_neg hout, dif_pos r.isLt]
  rfl

theorem flow_facts (q : InRing) :
    q.flow.state = q.state ∧ q.flow.cause = q.cause ∧ q.flow.consumerSeen = q.consumerSeen ∧
      q.flow.lastAccepted = q.lastAccepted := by
  unfold InRing.flow
  dsimp only
  split
  · exact ⟨rfl, rfl, rfl, rfl⟩
  · split <;> exact ⟨rfl, rfl, rfl, rfl⟩

theorem isIn_out_iff {u : RingUnit} {id : Nat} {r : Fin 4} (hid : id = r.val) (st : RingState) :
    u.isIn id st ↔ (u.outbound[r]).state = st := by
  subst hid
  constructor
  · rintro (⟨q, hq, hst⟩ | ⟨q, hq, _⟩)
    · obtain rfl := Fin.ext hq
      exact hst
    · omega
  · exact fun hst => .inl ⟨r, rfl, hst⟩

theorem isIn_in_iff {u : RingUnit} {id : Nat} {r : Fin 2} (hid : id = r.val + 4) (st : RingState) :
    u.isIn id st ↔ (u.inbound[r]).state = st := by
  subst hid
  constructor
  · rintro (⟨q, hq, _⟩ | ⟨q, hq, hst⟩)
    · omega
    · obtain rfl : r = q := Fin.ext (Nat.add_right_cancel hq)
      exact hst
  · exact fun hst => .inr ⟨r, rfl, hst⟩

/-- An accepted RESUME RING names a HALTED ring (R106, R110). -/
theorem resumeRing_isIn_halted {count : BitVec 4} {s : State} (hacc : s.Accepts .resumeRing count) :
    s.rings.isIn (bits s.mbox.params[0] 7 0) .halted := by
  have hpasses := passes_of_accepts hacc
  simp only [State.ownChecks, List.forall_mem_cons] at hpasses
  obtain ⟨-, hstate, -⟩ := hpasses
  exact not_not.1 (decide_eq_false_iff_not.1 hstate)

theorem updOut_slot (r : Fin 4) (f : OutRing → OutRing) (s : State) :
    (s.updOut r f).rings.outbound[r] = f s.rings.outbound[r] := by
  show (s.rings.outbound.set r _)[r] = _
  rw [getElem_set_slot, if_pos rfl]

/-- Settles O44: UNBIND by what it names, RESUME RING by the ring and its fetch. -/
theorem unbindAndResume : Obligations.UnbindAndResume := by
  refine fun count tag s => ⟨fun hacc => ?_, fun r hacc hr => ?_, fun r hacc hr => ?_⟩
  · have heff : Command.unbind.effect s.mbox.params (s.begun .unbind tag) = _ :=
      congrArg completes (doUnbind_eq s.mbox.params (s.begun .unbind tag))
    obtain ⟨due, hnext⟩ := changeIn_launch_completes tag (launchOrder _) hacc (by decide) heff rfl rfl
    exact ⟨_, hnext, rfl, completesAtOnce_ended_of_path rfl rfl, ⟨rfl, rfl, rfl⟩, rfl, rfl, ⟨rfl, rfl, rfl, rfl⟩, rfl⟩
  · have hid : bits s.mbox.params[0] 7 0 = r.val := (bits_low_byte _).trans hr
    refine ⟨(isIn_out_iff hid _).1 (resumeRing_isIn_halted hacc), ?_⟩
    have heff : Command.resumeRing.effect s.mbox.params (s.begun .resumeRing tag) = _ :=
      congrArg completes (doResumeRing_out hid (s.begun .resumeRing tag))
    have hslot : ((s.begun .resumeRing tag).updOut r OutRing.resumed).rings.outbound[r] =
        (s.rings.outbound[r]).resumed := updOut_slot r OutRing.resumed (s.begun .resumeRing tag)
    have hothers (q : Fin 4) (hq : q ≠ r) :
        ((s.begun .resumeRing tag).updOut r OutRing.resumed).rings.outbound[q] = s.rings.outbound[q] :=
      (getElem_set_slot s.rings.outbound r q _).trans (if_neg hq.symm)
    by_cases hfetch : (s.rings.outbound[r]).head = .empty ∧
        (s.rings.outbound[r]).producerWritten ≠ (s.rings.outbound[r]).consumer
    · obtain ⟨hempty, hpending⟩ := hfetch
      rw [tryFetch_of_pending (by rw [hslot]; rfl) (by rw [hslot]; exact hempty) (by rw [hslot]; exact hpending)]
        at heff
      obtain ⟨due, hnext⟩ := changeIn_launch_completes tag (launchOrder _) hacc (by decide) heff rfl rfl
      have hring := (fetched_slot r ((s.begun .resumeRing tag).updOut r OutRing.resumed))
      have hrest (q : Fin 4) (hq : q ≠ r) := fetched_other hq ((s.begun .resumeRing tag).updOut r OutRing.resumed)
      rw [hslot] at hring
      refine ⟨_, hnext, congrArg OutRing.state hring, congrArg OutRing.cause hring, congrArg OutRing.producerSeen hring,
        (congrArg OutRing.consumer hring).trans rfl,
        fun hkind => (congrArg OutRing.syncNeeded hring).trans (resumed_syncNeeded hkind),
        fun hne => absurd hempty hne, ⟨?_, fun _ => ?_⟩, fun q hq => (hrest q hq).trans (hothers q hq), rfl, rfl, rfl,
        rfl, ⟨rfl, rfl, rfl⟩, rfl, rfl, ⟨rfl, rfl, rfl, rfl⟩, rfl⟩
      · rw [if_pos ⟨hempty, hpending⟩, ← resumed_recordAddr, ← hslot]
        rfl
      · rw [if_pos hpending]
        exact congrArg OutRing.head hring
    · have hidle : (s.rings.outbound[r]).head ≠ .empty ∨
          (s.rings.outbound[r]).producerWritten = (s.rings.outbound[r]).consumer := by
        by_contra hno
        obtain ⟨hhead, hpending⟩ := not_or.1 hno
        exact hfetch ⟨not_not.1 hhead, hpending⟩
      rw [tryFetch_of_idle (by rw [hslot]; exact hidle)] at heff
      obtain ⟨due, hnext⟩ := changeIn_launch_completes tag (launchOrder _) hacc (by decide) heff rfl rfl
      refine ⟨_, hnext, congrArg OutRing.state hslot, congrArg OutRing.cause hslot, congrArg OutRing.producerSeen hslot,
        (congrArg OutRing.consumer hslot).trans rfl,
        fun hkind => (congrArg OutRing.syncNeeded hslot).trans (resumed_syncNeeded hkind),
        fun _ => (congrArg OutRing.head hslot).trans rfl, ⟨?_, fun hempty => ?_⟩, hothers, rfl, rfl, rfl, rfl, ⟨rfl, rfl, rfl⟩, rfl, rfl,
        ⟨rfl, rfl, rfl, rfl⟩, rfl⟩
      · rw [if_neg hfetch, List.append_nil]
        rfl
      · rw [if_neg fun hpending => hfetch ⟨hempty, hpending⟩]
        exact (congrArg OutRing.head hslot).trans hempty
  · have hid : bits s.mbox.params[0] 7 0 = r.val + 4 := (bits_low_byte _).trans hr
    have hhalted := (isIn_in_iff hid _).1 (resumeRing_isIn_halted hacc)
    have heff : Command.resumeRing.effect s.mbox.params (s.begun .resumeRing tag) = _ :=
      congrArg completes (doResumeRing_in hid (s.begun .resumeRing tag))
    obtain ⟨due, hnext⟩ := changeIn_launch_completes tag (launchOrder _) hacc (by decide) heff rfl rfl
    refine ⟨hhalted, _, hnext, ?_⟩
    have hslot : (s.rings.inbound.set r (s.rings.inbound[r]).resumed.flow)[r] = (s.rings.inbound[r]).resumed.flow := by
      rw [getElem_set_slot, if_pos rfl]
    obtain ⟨hst, hca, hco, hla⟩ := flow_facts (s.rings.inbound[r]).resumed
    exact ⟨(congrArg InRing.state hslot).trans hst, (congrArg InRing.cause hslot).trans hca,
      (congrArg InRing.consumerSeen hslot).trans hco, (congrArg InRing.lastAccepted hslot).trans hla,
      completesAtOnce_ended_of_path rfl rfl⟩

end Sys2Proof.Machine

/-!
OPEN STREAM and CLOSE STREAM (O42).
-/

namespace Sys2Proof.Machine

/-! ### The windows of a list of indices -/

/-- The indices of a list that are those of entries (R36). -/
def listedWindows (listed : List Nat) : List (Fin 32) :=
  listed.filterMap fun i => if h : i < 32 then some ⟨i, h⟩ else none

section listed

variable {listed : List Nat}

theorem listedWindows_cons {i : Nat} (h : i < 32) : listedWindows (i :: listed) = ⟨i, h⟩ :: listedWindows listed := by
  unfold listedWindows
  rw [List.filterMap_cons, dif_pos h]

theorem listedWindows_val (h : ∀ i ∈ listed, i < 32) : (listedWindows listed).map Fin.val = listed := by
  induction listed with
  | nil => rfl
  | cons i l ih =>
    obtain ⟨hi, hl⟩ := List.forall_mem_cons.1 h
    rw [listedWindows_cons hi, List.map_cons, ih hl]

theorem listedWindows_segLen (h : ∀ i ∈ listed, i < 32) (m : RegionMap) :
    (listedWindows listed).map (fun w => (m.windows[w]).segLen) = (m.named listed).map Window.segLen := by
  induction listed with
  | nil => rfl
  | cons i l ih =>
    obtain ⟨hi, hl⟩ := List.forall_mem_cons.1 h
    rw [listedWindows_cons hi, List.map_cons, ih hl]
    simp [RegionMap.named, hi]

end listed

/-! ### OPEN STREAM (R36, R37) -/

/-- An accepted OPEN STREAM lists six windows at most, each of them an entry's index (R36 check 2). -/
theorem openStream_listed {count : BitVec 4} {s : State} (hacc : s.Accepts .openStream count) :
    (streamParams s.mbox.params).listed =
        (List.range (bits s.mbox.params[0] 7 0)).map (fun k => bits s.mbox.params[0] (8 * k + 15) (8 * k + 8)) ∧
      ∀ i ∈ (streamParams s.mbox.params).listed, i < 32 := by
  have hpasses := passes_of_accepts hacc
  simp only [State.ownChecks, List.forall_mem_cons] at hpasses
  obtain ⟨-, hlist, -⟩ := hpasses
  obtain ⟨-, hlist⟩ := not_or.1 (decide_eq_false_iff_not.1 hlist)
  obtain ⟨hsix, hbelow⟩ := not_or.1 hlist
  have hlisted := streamParams_listed (p := s.mbox.params) (not_lt.1 hsix)
  refine ⟨hlisted, fun i hi => not_le.1 fun habove => hbelow ⟨i, hlisted ▸ hi, habove⟩⟩

/-! ### CLOSE STREAM (R38, R73) -/

/-- The end of the RUNNING command, where it is the one that is to end (R152). -/
theorem finishIf_of_running {s : State} {r : CommandTag} {c : Command} (hrun : s.mbox.running = some r)
    (hcode : r.code = c.code) (e : ErrorCode) (d : List Word) :
    s.finishIf c e d =
      { s with
        path := { s.path with other := s.path.other ++ finalWrites s r.code r.tag e d }
        mbox := { s.mbox with running := none } } := by
  unfold State.finishIf
  rw [if_pos ((isRunning_iff s c).2 ⟨r, hrun, hcode⟩), finish_of_running hrun]

/-- The drain of a stream whose CLOSE STREAM is RUNNING ends (R73). -/
theorem drainTest_closes {s : State} {tag : BitVec 8}
    (hdrained : s.tracker.stream.state = .draining ∧ s.tracker.frames = [] ∧ s.sched.queue = [])
    (hrun : s.mbox.running = some { code := Command.closeStream.code, tag }) :
    s.drainTest =
      { s with
        tracker :=
          { s.tracker with stream := Stream.closed, slots := s.tracker.slots.map (fun r => { r with unfinished := 0 }) }
        status := (s.raise .streamClosed).status
        path :=
          { s.path with
            other := s.path.other ++ finalWrites s Command.closeStream.code tag .noError [s.countWord] }
        mbox := { s.mbox with running := none } } := by
  unfold State.drainTest
  rw [if_pos hdrained]
  refine finishIf_of_running (r := { code := Command.closeStream.code, tag }) (c := .closeStream) ?_ rfl _ _
  exact hrun

/-- Settles O42: OPEN STREAM by its parameter words, CLOSE STREAM by whether anything is left to drain. -/
theorem streamOpensAndCloses : Obligations.StreamOpensAndCloses := by
  refine fun count tag s => ⟨fun hacc => ?_, fun hacc => ?_⟩
  · obtain ⟨hlisted, hbelow⟩ := openStream_listed hacc
    obtain ⟨due, hnext⟩ := changeIn_launch_completes tag (launchOrder _) hacc (by decide) rfl rfl rfl
    refine ⟨_, ((s.map.named (streamParams s.mbox.params).listed).map Window.segLen).sum, hnext, ?_, rfl, ?_, rfl, rfl,
      completesAtOnce_ended_of_path rfl rfl, ⟨rfl, rfl, rfl⟩, ⟨rfl, rfl, rfl, rfl⟩, rfl⟩
    · exact congrArg List.sum (listedWindows_segLen hbelow s.map)
    · exact (listedWindows_val hbelow).trans hlisted
  · by_cases hempty : s.tracker.frames = [] ∧ s.sched.queue = []
    · have heff : Command.closeStream.effect s.mbox.params (s.begun .closeStream tag) = _ :=
        congrArg (·, none) (drainTest_closes (tag := tag)
          (s := (s.begun .closeStream tag).updTracker fun t => { t with stream := { t.stream with state := .draining } })
          ⟨rfl, hempty⟩ rfl)
      obtain ⟨due, hnext⟩ := changeIn_launch_runs tag (launchOrder _) hacc (by decide) heff
      refine ⟨_, hnext, rfl, rfl, ⟨rfl, rfl, rfl⟩, ⟨rfl, rfl, rfl, rfl⟩, ?_⟩
      rw [if_pos hempty]
      exact ⟨rfl, rfl, raise_eventPending .streamClosed s, rfl⟩
    · have heff : Command.closeStream.effect s.mbox.params (s.begun .closeStream tag) = _ :=
        congrArg (·, none) (drainTest_of_not_drained
          (s := (s.begun .closeStream tag).updTracker fun t => { t with stream := { t.stream with state := .draining } })
          fun hdrained => hempty hdrained.2)
      obtain ⟨due, hnext⟩ := changeIn_launch_runs tag (launchOrder _) hacc (by decide) heff
      refine ⟨_, hnext, rfl, rfl, ⟨rfl, rfl, rfl⟩, ⟨rfl, rfl, rfl, rfl⟩, ?_⟩
      rw [if_neg hempty]
      exact ⟨rfl, rfl, rfl, rfl⟩

end Sys2Proof.Machine

/-!
LOAD SCHEDULE: the validation of an image, and the command (O45).
-/

namespace Sys2Proof.Machine

/-! ### One entry of a slot (R81, R83) -/

/-- What a service entry holds of its image entry. -/
def EntryOf (image : List Byte) (slot e : Nat) (x : ServiceEntry) : Prop :=
  x.quota = (byteAt image (16 * slot + 2 * e + 1)).toNat ∧
    ((byteAt image (16 * slot + 2 * e) = 1 ∧ x.source = .video) ∨
      ∃ r : Fin 4, (byteAt image (16 * slot + 2 * e)).toNat = r.val + 2 ∧ x.source = .ring r)

section slot

variable {u : RingUnit} {image : List Byte} {slot fuel e : Nat}

/-- The source that the code of an entry names, which is neither an end entry's nor none of the six (section 11.2). -/
def sourceNamed (image : List Byte) (slot e : Nat) (src : Source) : Prop :=
  sourceOfCode (byteAt image (16 * slot + 2 * e)).toNat = some (some src)

theorem entryOf_of_sourceNamed {src : Source} (h : sourceNamed image slot e src) :
    EntryOf image slot e { source := src, quota := (byteAt image (16 * slot + 2 * e + 1)).toNat } := by
  refine ⟨rfl, ?_⟩
  unfold sourceNamed at h
  rcases hcode : (byteAt image (16 * slot + 2 * e)).toNat with _ | _ | _ | _ | _ | _ | n <;> rw [hcode] at h <;> cases h
  · exact .inl ⟨BitVec.eq_of_toNat_eq hcode, rfl⟩
  · exact .inr ⟨0, rfl, rfl⟩
  · exact .inr ⟨1, rfl, rfl⟩
  · exact .inr ⟨2, rfl, rfl⟩
  · exact .inr ⟨3, rfl, rfl⟩

/-- A RANGE fault is a code above 5 or a quota above 63; an UNBOUND fault is an UNBOUND ring's (R83). -/
theorem validateSlot_of_fault {c : ErrorCode} (h : imageFault u image slot e = some c) :
    validateSlot u image slot (fuel + 1) e = .error (c, e) := by
  unfold imageFault at h
  unfold validateSlot imageEntry
  by_cases hquota : 63 < (byteAt image (16 * slot + 2 * e + 1)).toNat
  · rcases hcode : (byteAt image (16 * slot + 2 * e)).toNat with _ | _ | _ | _ | _ | _ | n <;>
      simp_all [sourceOfCode]
  · rcases hcode : (byteAt image (16 * slot + 2 * e)).toNat with _ | _ | _ | _ | _ | _ | n <;>
      simp_all [sourceOfCode]

theorem validateSlot_of_end (h : imageFault u image slot e = none) (hend : byteAt image (16 * slot + 2 * e) = 0) :
    validateSlot u image slot (fuel + 1) e = .ok [] := by
  unfold imageFault at h
  unfold validateSlot imageEntry
  simp_all [sourceOfCode]

/-- Whether a source is an UNBOUND ring (R83). -/
def Source.isUnbound (u : RingUnit) : Source → Bool
  | .video => false
  | .ring r => decide ((u.outbound[r]).state = .unbound)

/-- The fault of an entry that names a source (R83). -/
theorem imageFault_of_named {src : Source} (h : sourceNamed image slot e src) :
    imageFault u image slot e =
      if 63 < (byteAt image (16 * slot + 2 * e + 1)).toNat then some .range
      else if src.isUnbound u then some .unboundError else none := by
  unfold sourceNamed at h
  unfold imageFault
  rcases hcode : (byteAt image (16 * slot + 2 * e)).toNat with _ | _ | _ | _ | _ | _ | n <;> rw [hcode] at h <;>
    cases h <;> simp [Source.isUnbound]

theorem bound_of_named {src : Source} (h : sourceNamed image slot e src) (hnone : imageFault u image slot e = none) :
    ¬63 < (byteAt image (16 * slot + 2 * e + 1)).toNat ∧ src.isUnbound u = false := by
  rw [imageFault_of_named h] at hnone
  split_ifs at hnone with hquota hunbound
  exact ⟨hquota, Bool.eq_false_iff.2 hunbound⟩

/-- An entry without a fault that is no end entry names a source (R81, R83). -/
theorem exists_sourceNamed (hnone : imageFault u image slot e = none)
    (hentry : byteAt image (16 * slot + 2 * e) ≠ 0) : ∃ src, sourceNamed image slot e src := by
  have hnonzero : (byteAt image (16 * slot + 2 * e)).toNat ≠ 0 := fun h0 => hentry (BitVec.eq_of_toNat_eq h0)
  unfold imageFault at hnone
  unfold sourceNamed
  rcases hcode : (byteAt image (16 * slot + 2 * e)).toNat with _ | _ | _ | _ | _ | _ | n
  · exact absurd hcode hnonzero
  · exact ⟨.video, rfl⟩
  · exact ⟨.ring 0, rfl⟩
  · exact ⟨.ring 1, rfl⟩
  · exact ⟨.ring 2, rfl⟩
  · exact ⟨.ring 3, rfl⟩
  · simp [hcode] at hnone

/-- An entry without a fault that is no end entry becomes a service entry, before those of the entries after it
(R81, R83). -/
theorem validateSlot_of_entry (h : imageFault u image slot e = none) (hentry : byteAt image (16 * slot + 2 * e) ≠ 0) :
    ∃ x, EntryOf image slot e x ∧
      (∀ rest, validateSlot u image slot fuel (e + 1) = .ok rest →
        validateSlot u image slot (fuel + 1) e = .ok (x :: rest)) ∧
      (∀ y, validateSlot u image slot fuel (e + 1) = .error y →
        validateSlot u image slot (fuel + 1) e = .error y) := by
  obtain ⟨src, hsrc⟩ := exists_sourceNamed h hentry
  obtain ⟨hquota, hbound⟩ := bound_of_named hsrc h
  refine ⟨_, entryOf_of_sourceNamed hsrc, fun rest hrest => ?_, fun y hy => ?_⟩
  · unfold validateSlot imageEntry
    dsimp only
    rw [hsrc]
    cases src <;> simp_all [Source.isUnbound]
  · unfold validateSlot imageEntry
    dsimp only
    rw [hsrc]
    cases src <;> simp_all [Source.isUnbound]

/-! ### A slot (R83) -/

theorem imageListed_succ (h : imageListed image slot e) (hentry : byteAt image (16 * slot + 2 * e) ≠ 0) :
    imageListed image slot (e + 1) := by
  intro d hd
  rcases Nat.lt_succ_iff_lt_or_eq.1 hd with hlt | rfl
  · exact h d hlt
  · exact hentry

/-- The entry that a slot's validation fails with is its first listed one with a fault (R83). -/
theorem validateSlot_error {c : ErrorCode} {e' : Nat} (hlisted : imageListed image slot e)
    (hbefore : ∀ d, d < e → imageFault u image slot d = none)
    (h : validateSlot u image slot fuel e = .error (c, e')) :
    e' < e + fuel ∧ imageListed image slot e' ∧ imageFault u image slot e' = some c ∧
      ∀ d, d < e' → imageFault u image slot d = none := by
  induction fuel generalizing e with
  | zero => simp [validateSlot] at h
  | succ fuel ih =>
    cases hfault : imageFault u image slot e with
    | some c' =>
      rw [validateSlot_of_fault hfault] at h
      cases h
      exact ⟨by omega, hlisted, hfault, hbefore⟩
    | none =>
      by_cases hend : byteAt image (16 * slot + 2 * e) = 0
      · rw [validateSlot_of_end hfault hend] at h
        cases h
      · obtain ⟨x, -, hok, herror⟩ := validateSlot_of_entry (fuel := fuel) hfault hend
        have hnext : ∀ d, d < e + 1 → imageFault u image slot d = none := fun d hd =>
          (Nat.lt_succ_iff_lt_or_eq.1 hd).elim (hbefore d) fun hde => hde ▸ hfault
        cases hrec : validateSlot u image slot fuel (e + 1) with
        | ok rest =>
          rw [hok rest hrec] at h
          cases h
        | error y =>
          rw [herror y hrec] at h
          cases h
          obtain ⟨hlt, hrest⟩ := ih (imageListed_succ hlisted hend) hnext hrec
          exact ⟨by omega, hrest⟩

/-- A slot that is validated holds its listed entries up to the end entry, and none of them has a fault (R81, R83). -/
theorem validateSlot_ok {xs : List ServiceEntry} (hlisted : imageListed image slot e)
    (hbefore : ∀ d, d < e → imageFault u image slot d = none)
    (h : validateSlot u image slot fuel e = .ok xs) :
    e + xs.length ≤ e + fuel ∧ imageListed image slot (e + xs.length) ∧
      (e + xs.length = e + fuel ∨ byteAt image (16 * slot + 2 * (e + xs.length)) = 0) ∧
      (∀ d, d < e + fuel → imageListed image slot d → imageFault u image slot d = none) ∧
      ∀ (j : Nat) (x : ServiceEntry), xs[j]? = some x → EntryOf image slot (e + j) x := by
  induction fuel generalizing e xs with
  | zero =>
    cases h
    exact ⟨le_refl _, hlisted, .inl rfl, fun d hd _ => hbefore d hd, by simp⟩
  | succ fuel ih =>
    cases hfault : imageFault u image slot e with
    | some c' =>
      rw [validateSlot_of_fault hfault] at h
      cases h
    | none =>
      have hnext : ∀ d, d < e + 1 → imageFault u image slot d = none := fun d hd =>
        (Nat.lt_succ_iff_lt_or_eq.1 hd).elim (hbefore d) fun hde => hde ▸ hfault
      by_cases hend : byteAt image (16 * slot + 2 * e) = 0
      · rw [validateSlot_of_end hfault hend] at h
        cases h
        refine ⟨by simp, hlisted, .inr hend, fun d _ hd => ?_, by simp⟩
        by_cases hle : d < e + 1
        · exact hnext d hle
        · exact absurd hend (hd e (by omega))
      · obtain ⟨x, hx, hok, herror⟩ := validateSlot_of_entry (fuel := fuel) hfault hend
        cases hrec : validateSlot u image slot fuel (e + 1) with
        | error y =>
          rw [herror y hrec] at h
          cases h
        | ok rest =>
          rw [hok rest hrec] at h
          cases h
          obtain ⟨hlen, hlist, hstop, hnone, hentries⟩ := ih (imageListed_succ hlisted hend) hnext hrec
          have hshift : e + 1 + rest.length = e + (x :: rest).length := by simp; omega
          have hfuel : e + 1 + fuel = e + (fuel + 1) := by omega
          rw [hshift, hfuel] at hstop
          rw [hshift, hfuel] at hlen
          rw [hshift] at hlist
          rw [hfuel] at hnone
          refine ⟨hlen, hlist, hstop, hnone, fun j y hy => ?_⟩
          cases j with
          | zero =>
            cases hy
            exact hx
          | succ j =>
            have hj : e + 1 + j = e + (j + 1) := by omega
            exact hj ▸ hentries j y hy

end slot

end Sys2Proof.Machine

/-!
LOAD SCHEDULE: the image as a whole, and the command (O45).
-/

namespace Sys2Proof.Machine

/-! ### The image (R83) -/

/-- An entry of the image lies before another: in an earlier slot, or in the same one at an earlier place. -/
def EntryBefore (slot' e' slot e : Nat) : Prop := slot' < slot ∨ (slot' = slot ∧ e' < e)

section image

variable {u : RingUnit} {image : List Byte} {slot fuel : Nat}

theorem imageListed_zero (image : List Byte) (slot : Nat) : imageListed image slot 0 := fun d hd => absurd hd d.not_lt_zero

/-- No listed entry of a validated slot has a fault (R83). -/
theorem noFault_of_validateSlot {xs : List ServiceEntry} (h : validateSlot u image slot 8 0 = .ok xs) :
    ∀ e', e' < 8 → imageListed image slot e' → imageFault u image slot e' = none := by
  obtain ⟨-, -, -, hnone, -⟩ := validateSlot_ok (imageListed_zero image slot) (fun d hd => absurd hd d.not_lt_zero) h
  exact fun e' he => hnone e' (by omega)

/-- The slots before a place stay without a fault over the next one. -/
theorem noFault_succ {xs : List ServiceEntry}
    (hbefore : ∀ slot' e', slot' < slot → e' < 8 → imageListed image slot' e' → imageFault u image slot' e' = none)
    (h : validateSlot u image slot 8 0 = .ok xs) :
    ∀ slot' e', slot' < slot + 1 → e' < 8 → imageListed image slot' e' → imageFault u image slot' e' = none := by
  intro slot' e' hslot
  obtain hlt | rfl := Nat.lt_succ_iff_lt_or_eq.1 hslot
  · exact hbefore slot' e' hlt
  · exact noFault_of_validateSlot h e'

theorem validateImage_succ_error {c : ErrorCode} {e : Nat} (h : validateSlot u image slot 8 0 = .error (c, e)) :
    validateImage u image (fuel + 1) slot = .error (c, slot, e) := by
  unfold validateImage
  rw [h]

theorem validateImage_succ_ok {xs : List ServiceEntry} {rest : List (List ServiceEntry)}
    (h : validateSlot u image slot 8 0 = .ok xs) (hrest : validateImage u image fuel (slot + 1) = .ok rest) :
    validateImage u image (fuel + 1) slot = .ok (xs :: rest) := by
  unfold validateImage
  rw [h, hrest]

theorem validateImage_succ_later {xs : List ServiceEntry} {y : ErrorCode × Nat × Nat}
    (h : validateSlot u image slot 8 0 = .ok xs) (hrest : validateImage u image fuel (slot + 1) = .error y) :
    validateImage u image (fuel + 1) slot = .error y := by
  unfold validateImage
  rw [h, hrest]

/-- The entry that the validation of an image fails with is its first listed one with a fault (R83). -/
theorem validateImage_error {c : ErrorCode} {slot₁ e₁ : Nat}
    (hbefore : ∀ slot' e', slot' < slot → e' < 8 → imageListed image slot' e' → imageFault u image slot' e' = none)
    (h : validateImage u image fuel slot = .error (c, slot₁, e₁)) :
    slot₁ < slot + fuel ∧ e₁ < 8 ∧ imageListed image slot₁ e₁ ∧ imageFault u image slot₁ e₁ = some c ∧
      ∀ slot' e', e' < 8 → imageListed image slot' e' → EntryBefore slot' e' slot₁ e₁ →
        imageFault u image slot' e' = none := by
  induction fuel generalizing slot with
  | zero => simp [validateImage] at h
  | succ fuel ih =>
    cases hslot : validateSlot u image slot 8 0 with
    | error y =>
      obtain ⟨c', e'⟩ := y
      rw [validateImage_succ_error hslot] at h
      cases h
      obtain ⟨hlt, hlisted, hfault, hnone⟩ :=
        validateSlot_error (imageListed_zero image _) (fun d hd => absurd hd d.not_lt_zero) hslot
      refine ⟨by omega, by omega, hlisted, hfault, fun slot' e' he' hl hb => ?_⟩
      obtain hb | ⟨rfl, hb⟩ := hb
      · exact hbefore slot' e' hb he' hl
      · exact hnone e' hb
    | ok xs =>
      cases hrec : validateImage u image fuel (slot + 1) with
      | ok rest =>
        rw [validateImage_succ_ok hslot hrec] at h
        cases h
      | error y =>
        rw [validateImage_succ_later hslot hrec] at h
        cases h
        obtain ⟨hlt, hrest⟩ := ih (noFault_succ hbefore hslot) hrec
        exact ⟨by omega, hrest⟩

/-- An image that is validated has no listed entry with a fault, and each of its slots is validated (R83). -/
theorem validateImage_ok {slots : List (List ServiceEntry)}
    (hbefore : ∀ slot' e', slot' < slot → e' < 8 → imageListed image slot' e' → imageFault u image slot' e' = none)
    (h : validateImage u image fuel slot = .ok slots) :
    (∀ slot' e', slot' < slot + fuel → e' < 8 → imageListed image slot' e' → imageFault u image slot' e' = none) ∧
      ∀ j, j < fuel → validateSlot u image (slot + j) 8 0 = .ok (slots.getD j []) := by
  induction fuel generalizing slot slots with
  | zero => exact ⟨hbefore, fun j hj => absurd hj j.not_lt_zero⟩
  | succ fuel ih =>
    cases hslot : validateSlot u image slot 8 0 with
    | error y =>
      rw [validateImage_succ_error hslot] at h
      cases h
    | ok xs =>
      cases hrec : validateImage u image fuel (slot + 1) with
      | error y =>
        rw [validateImage_succ_later hslot hrec] at h
        cases h
      | ok rest =>
        rw [validateImage_succ_ok hslot hrec] at h
        cases h
        obtain ⟨hnone, hslots⟩ := ih (noFault_succ hbefore hslot) hrec
        refine ⟨fun slot' e' hlt => hnone slot' e' (by omega), fun j hj => ?_⟩
        cases j with
        | zero => exact hslot
        | succ j =>
          have hplace : slot + 1 + j = slot + (j + 1) := by omega
          exact hplace ▸ hslots j (by omega)

theorem noFault_zero :
    ∀ slot' e', slot' < 0 → e' < 8 → imageListed image slot' e' → imageFault u image slot' e' = none :=
  fun slot' _ h => absurd h slot'.not_lt_zero

theorem entryBefore_trichotomy (a b c d : Nat) :
    EntryBefore a b c d ∨ (a = c ∧ b = d) ∨ EntryBefore c d a b := by
  unfold EntryBefore
  omega

/-- The validation of an image fails with its first listed entry that has a fault, and with no other (R83). -/
theorem validateImage_error_iff (u : RingUnit) (image : List Byte) (c : ErrorCode) (slot e : Nat) :
    validateImage u image 16 0 = .error (c, slot, e) ↔
      slot < 16 ∧ e < 8 ∧ imageListed image slot e ∧ imageFault u image slot e = some c ∧
        ∀ slot' e', slot' < 16 → e' < 8 → imageListed image slot' e' →
          (slot' < slot ∨ (slot' = slot ∧ e' < e)) → imageFault u image slot' e' = none := by
  constructor
  · intro h
    obtain ⟨hslot, he, hlisted, hfault, hfirst⟩ := validateImage_error noFault_zero h
    exact ⟨by omega, he, hlisted, hfault, fun slot' e' _ => hfirst slot' e'⟩
  · rintro ⟨hslot, he, hlisted, hfault, hfirst⟩
    cases h : validateImage u image 16 0 with
    | ok slots =>
      obtain ⟨hnone, -⟩ := validateImage_ok noFault_zero h
      rw [hnone slot e (by omega) he hlisted] at hfault
      cases hfault
    | error y =>
      obtain ⟨c₁, slot₁, e₁⟩ := y
      obtain ⟨hslot₁, he₁, hlisted₁, hfault₁, hfirst₁⟩ := validateImage_error noFault_zero h
      obtain hbefore | ⟨rfl, rfl⟩ | hafter := entryBefore_trichotomy slot₁ e₁ slot e
      · rw [hfirst slot₁ e₁ (by omega) he₁ hlisted₁ hbefore] at hfault₁
        cases hfault₁
      · rw [hfault] at hfault₁
        cases hfault₁
        rfl
      · rw [hfirst₁ slot e he hlisted hafter] at hfault
        cases hfault

/-- A slot of the schedule that an image gives (R81, R83). -/
theorem scheduleOf_slot {slots : List (List ServiceEntry)} (i : Fin 16)
    (h : validateImage u image 16 0 = .ok slots) :
    validateSlot u image i.val 8 0 = .ok (scheduleOf slots)[i] := by
  obtain ⟨-, hslots⟩ := validateImage_ok noFault_zero h
  have hslot := hslots i.val i.isLt
  rw [Nat.zero_add] at hslot
  rw [hslot]
  simp [scheduleOf]

end image

/-! ### The due count (R83) -/

theorem dueCount_nextCycle (count : FrameCount) :
    (dueCount count .nextCycle).toNat % 16 = 0 ∧ 1 ≤ (dueCount count .nextCycle - count).toNat ∧
      (dueCount count .nextCycle - count).toNat ≤ 16 := by
  have hlt := count.isLt
  unfold dueCount
  dsimp only
  rw [BitVec.toNat_sub, BitVec.toNat_ofNat]
  omega

/-! ### The command (R83) -/

section response

variable {k : Nat} {data : List Byte} {q : OwnRequest} {rest : List OwnRequest} {tag : BitVec 8} {s : State}

/-- The response to a live image read is what its arrival does (R15, R83). -/
theorem exec_scheduleImageResponse (error : Bool)
    (htake : takeNth OwnRequest.isImageRead k s.path.ownOut = some (q, rest)) (hlive : q.live = true) :
    ∃ due, exec (.scheduleImageResponse k error data) s =
      .next (((s.updPath fun p => { p with ownOut := rest }).imageArrived error data).withDue due) := by
  have hexec : exec (.scheduleImageResponse k error data) s = execScheduleImageResponse k error data s := rfl
  unfold execScheduleImageResponse at hexec
  rw [htake] at hexec
  dsimp only at hexec
  rw [hlive] at hexec
  obtain ⟨due, hnext⟩ := changeIn_eq_withDue ascending
    (fun t => (t.updPath fun p => { p with ownOut := rest }).imageArrived error data) s
  exact ⟨due, hexec.trans hnext⟩

theorem imageArrived_of_error (data : List Byte) (s : State) :
    s.imageArrived true data = s.finishIf .loadSchedule .memory [] := rfl

theorem imageArrived_of_fault {e : ErrorCode} {slot entry : Nat}
    (h : validateImage s.rings data 16 0 = .error (e, slot, entry)) :
    s.imageArrived false data = s.finishIf .loadSchedule e [numberWord (slot + 256 * entry)] := by
  unfold State.imageArrived
  rw [h, Nat.mul_comm]
  rfl

theorem imageArrived_of_valid {slots : List (List ServiceEntry)} (h : validateImage s.rings data 16 0 = .ok slots) :
    s.imageArrived false data =
      (s.updSched fun c =>
        { c with
          staged := some (scheduleOf slots, if s.sched.state = .active then .nextCycle else .nextFrame) }).finishIf
        .loadSchedule .noError
        [numberWord (dueCount s.link.count (if s.sched.state = .active then .nextCycle else .nextFrame)).toNat] := by
  unfold State.imageArrived
  rw [h]
  rfl

end response

/-- Settles O45: the launch, the response by the validation of its image, and the validation by its first fault. -/
theorem scheduleLoadsAndStages : Obligations.ScheduleLoadsAndStages := by
  refine ⟨fun count tag s hacc => ?_, fun k error data q rest tag s htake hlive hrun => ?_, fun count => ⟨rfl, dueCount_nextCycle count⟩,
    validateImage_error_iff, fun u image slots i h => ?_, fun q => decide_eq_true_iff⟩
  · obtain ⟨due, hnext⟩ := changeIn_launch_runs tag (launchOrder _) hacc (by decide) rfl
    refine ⟨_, hnext, rfl, ?_, ⟨rfl, rfl, rfl⟩, ⟨rfl, rfl, rfl⟩, ⟨rfl, rfl, rfl, rfl⟩, rfl⟩
    simp [State.withDue, doLoadSchedule, State.issueRead, State.updPath, State.begun]
  · obtain ⟨due, hnext⟩ := exec_scheduleImageResponse (data := data) error htake hlive
    cases error with
    | true =>
      rw [imageArrived_of_error, finishIf_of_running (s := s.updPath fun p => { p with ownOut := rest }) hrun rfl] at hnext
      refine ⟨_, hnext, rfl, rfl, ⟨rfl, rfl, rfl⟩, rfl, rfl, ⟨rfl, rfl, rfl, rfl⟩, rfl, ?_⟩
      rw [if_pos rfl]
      exact ⟨rfl, rfl⟩
    | false =>
      cases hvalid : validateImage s.rings data 16 0 with
      | error y =>
        obtain ⟨e, slot, entry⟩ := y
        rw [imageArrived_of_fault (s := s.updPath fun p => { p with ownOut := rest }) hvalid,
          finishIf_of_running (s := s.updPath fun p => { p with ownOut := rest }) hrun rfl] at hnext
        refine ⟨_, hnext, rfl, rfl, ⟨rfl, rfl, rfl⟩, rfl, rfl, ⟨rfl, rfl, rfl, rfl⟩, rfl, ?_⟩
        rw [if_neg (by simp)]
        exact ⟨rfl, rfl⟩
      | ok slots =>
        rw [imageArrived_of_valid (s := s.updPath fun p => { p with ownOut := rest }) hvalid,
          finishIf_of_running (r := { code := Command.loadSchedule.code, tag }) (by exact hrun) rfl] at hnext
        refine ⟨_, hnext, rfl, rfl, ⟨rfl, rfl, rfl⟩, rfl, rfl, ⟨rfl, rfl, rfl, rfl⟩, rfl, ?_⟩
        rw [if_neg (by simp)]
        exact ⟨rfl, rfl⟩
  · have hslot := scheduleOf_slot i h
    obtain ⟨hlen, hlisted, hstop, -, hentries⟩ :=
      validateSlot_ok (imageListed_zero image i.val) (fun d hd => absurd hd d.not_lt_zero) hslot
    simp only [Nat.zero_add] at hlen hlisted hstop hentries
    exact ⟨_, hlen, hlisted, hstop, rfl, hentries⟩

end Sys2Proof.Machine

/-!
The index words of the rings (O33).
-/

namespace Sys2Proof.Machine

/-! ### One ring's change -/

theorem updOut_other {r q : Fin 4} (h : q ≠ r) (f : OutRing → OutRing) (s : State) :
    (s.updOut r f).rings.outbound[q] = s.rings.outbound[q] :=
  (getElem_set_slot s.rings.outbound r q _).trans (if_neg h.symm)

theorem updIn_slot (r : Fin 2) (f : InRing → InRing) (s : State) :
    (s.updIn r f).rings.inbound[r] = f s.rings.inbound[r] :=
  (getElem_set_slot s.rings.inbound r r _).trans (if_pos rfl)

theorem updIn_other {r q : Fin 2} (h : q ≠ r) (f : InRing → InRing) (s : State) :
    (s.updIn r f).rings.inbound[q] = s.rings.inbound[q] :=
  (getElem_set_slot s.rings.inbound r q _).trans (if_neg h.symm)

theorem withDue_rings (s : State) (due : List (Fin 32)) : (s.withDue due).rings = s.rings := rfl

theorem withDue_path (s : State) (due : List (Fin 32)) : (s.withDue due).path = s.path := rfl

theorem fetched_path (r : Fin 4) (s : State) :
    (s.fetched r).path =
      { s.path with
        egress :=
          s.path.egress ++
            [{ owner := .recordFetch r s.rings.nextSerial
               addr := (s.rings.outbound[r]).recordAddr, access := .read 64, live := true }] } := rfl

theorem haltOut_rings (r : Fin 4) (c : HaltCause) (written : RingIndex) (s : State) :
    (s.haltOut r c written).rings =
      (s.updOut r fun o =>
        { o with
          state := .halted, cause := c
          producerWritten := if o.state = .active then written else o.producerWritten }).rings := rfl

/-! ### A producer word (R98) -/

section producer

variable {r : Fin 4} {value : Word} {s : State}

theorem producerWrite_of_unbound (h : (s.rings.outbound[r]).state = .unbound) : s.producerWrite r value = s := by
  unfold State.producerWrite
  dsimp only
  rw [h]

theorem producerWrite_of_halted (h : (s.rings.outbound[r]).state = .halted) :
    s.producerWrite r value = s.updOut r fun o => { o with producerWritten := BitVec.ofNat 16 value.toNat } := by
  unfold State.producerWrite
  dsimp only
  rw [h, indexBits]

theorem producerWrite_of_ok (h : (s.rings.outbound[r]).state = .active)
    (hok : (s.rings.outbound[r]).indexOk (BitVec.ofNat 16 value.toNat) = true) :
    s.producerWrite r value =
      (s.updOut r fun o => { o with producerSeen := BitVec.ofNat 16 value.toNat }).tryFetch r := by
  unfold State.producerWrite
  dsimp only
  rw [h, indexBits]
  exact if_pos hok

theorem producerWrite_of_refused (h : (s.rings.outbound[r]).state = .active)
    (hbad : (s.rings.outbound[r]).indexOk (BitVec.ofNat 16 value.toNat) = false) :
    s.producerWrite r value = s.haltOut r .index (BitVec.ofNat 16 value.toNat) := by
  rw [producerWrite_of_bad h (indexBits value ▸ hbad), indexBits]

end producer

/-! ### A consumer word (R110) -/

section consumer

variable {r : Fin 2} {value : Word} {s : State}

theorem consumerWrite_of_unbound (h : (s.rings.inbound[r]).state = .unbound) : s.consumerWrite r value = s := by
  unfold State.consumerWrite
  dsimp only
  rw [h]

theorem consumerWrite_of_halted (h : (s.rings.inbound[r]).state = .halted) :
    s.consumerWrite r value = s.updIn r fun q => { q with consumerWritten := BitVec.ofNat 16 value.toNat } := by
  unfold State.consumerWrite
  dsimp only
  rw [h, indexBits]

theorem consumerWrite_of_ok (h : (s.rings.inbound[r]).state = .active)
    (hok : (s.rings.inbound[r]).indexOk (BitVec.ofNat 16 value.toNat) = true) :
    s.consumerWrite r value =
      s.updIn r fun q => ({ q with consumerSeen := BitVec.ofNat 16 value.toNat } : InRing).flow := by
  unfold State.consumerWrite
  dsimp only
  rw [h, indexBits]
  exact if_pos hok

theorem consumerWrite_of_refused (h : (s.rings.inbound[r]).state = .active)
    (hbad : (s.rings.inbound[r]).indexOk (BitVec.ofNat 16 value.toNat) = false) :
    s.consumerWrite r value =
      (s.updIn r fun q =>
        { q with state := .halted, cause := .index, consumerWritten := BitVec.ofNat 16 value.toNat }).raise .ringHalt := by
  unfold State.consumerWrite
  dsimp only
  rw [h, indexBits]
  exact if_neg (by simpa using hbad)

end consumer

/-- What a change of an inbound ring's indices does to its flow (R114). -/
theorem flow_of_free (q : InRing) :
    (q.count - q.occupied ≤ 2 → q.flow.holdRequested = true) ∧
      (4 ≤ q.count - q.occupied →
        q.flow.holdRequested = false ∧ (q.holdRequested = true → q.flow.releaseDue = true)) := by
  unfold InRing.flow
  dsimp only
  split
  · next hfew => exact ⟨fun _ => rfl, fun hmany => absurd hfew (by omega)⟩
  · next hfew =>
    split
    · exact ⟨fun h => absurd h hfew, fun _ => ⟨rfl, fun _ => rfl⟩⟩
    · next hmany =>
      refine ⟨fun h => absurd h hfew, fun h => ?_⟩
      have hnot : ¬q.holdRequested = true := fun hhold => hmany ⟨h, hhold⟩
      exact ⟨Bool.eq_false_iff.2 hnot, fun hhold => absurd hhold hnot⟩

/-! ### The statement -/

theorem takenCount_eq (h : HeadRecord) :
    h.takenCount =
      match h with
      | .empty | .fetching _ => 0
      | .ready _ | .placed _ | .inFlight _ => 1 := by
  cases h <;> rfl

theorem taken_eq_some_iff (h : HeadRecord) (sr : SendRecord) :
    h.taken = some sr ↔ h = .ready sr ∨ h = .placed sr ∨ h = .inFlight sr := by
  cases h <;> simp [HeadRecord.taken]

/-- Settles O33: an index word by the state of its ring and by the test it is put to. -/
theorem indexWritesJudged : Obligations.IndexWritesJudged := by
  refine ⟨fun r value o s ho => ?_, fun r value q s hq => ?_, takenCount_eq, taken_eq_some_iff, fun _ => rfl,
    fun _ => rfl⟩
  · subst ho
    obtain ⟨due, hnext⟩ := changeIn_eq_withDue ascending (State.producerWrite r value) s
    cases hstate : (s.rings.outbound[r]).state with
    | unbound =>
      rw [producerWrite_of_unbound hstate] at hnext
      exact ⟨_, hnext, ⟨rfl, rfl, rfl⟩, rfl, rfl, rfl, ⟨rfl, rfl, rfl, rfl⟩, fun _ _ => rfl, rfl, rfl⟩
    | halted =>
      rw [producerWrite_of_halted hstate] at hnext
      refine ⟨_, hnext, ⟨rfl, rfl, rfl⟩, rfl, rfl, rfl, ⟨rfl, rfl, rfl, rfl⟩, fun q hq => ?_, ?_, rfl⟩
      · rw [withDue_rings, updOut_other hq]
      · rw [withDue_rings, updOut_slot, ← hstate]
    | active =>
      by_cases hok : (BitVec.ofNat 16 value.toNat - (s.rings.outbound[r]).consumer).toNat ≤ (s.rings.outbound[r]).count ∧
          (s.rings.outbound[r]).head.takenCount ≤
            (BitVec.ofNat 16 value.toNat - (s.rings.outbound[r]).consumer).toNat
      · rw [producerWrite_of_ok hstate ((outIndexOk_iff _ _).2 hok)] at hnext
        have hslot := updOut_slot r (fun o => { o with producerSeen := BitVec.ofNat 16 value.toNat }) s
        by_cases hfetch : (s.rings.outbound[r]).head = .empty ∧
            BitVec.ofNat 16 value.toNat ≠ (s.rings.outbound[r]).consumer
        · obtain ⟨hempty, hpending⟩ := hfetch
          rw [tryFetch_of_pending (by rw [hslot]; exact hstate) (by rw [hslot]; exact hempty)
            (by rw [hslot]; exact hpending)] at hnext
          refine ⟨_, hnext, ⟨rfl, rfl, rfl⟩, rfl, rfl, rfl, ⟨rfl, rfl, rfl, rfl⟩, fun q hq => ?_, ?_⟩
          · rw [withDue_rings, fetched_other hq, updOut_other hq]
          · dsimp only
            rw [if_pos hok, if_pos ⟨hempty, hpending⟩, withDue_rings, fetched_slot, hslot, ← hstate]
            refine ⟨rfl, ?_⟩
            rw [withDue_path, fetched_path, hslot]
            rfl
        · have hidle : (s.rings.outbound[r]).head ≠ .empty ∨
              BitVec.ofNat 16 value.toNat = (s.rings.outbound[r]).consumer :=
            (not_and_or.1 hfetch).imp_right not_not.1
          rw [tryFetch_of_idle (by rw [hslot]; exact hidle)] at hnext
          refine ⟨_, hnext, ⟨rfl, rfl, rfl⟩, rfl, rfl, rfl, ⟨rfl, rfl, rfl, rfl⟩, fun q hq => ?_, ?_⟩
          · rw [withDue_rings, updOut_other hq]
          · dsimp only
            rw [if_pos hok, if_neg hfetch, withDue_rings, hslot, ← hstate]
            exact ⟨rfl, rfl⟩
      · rw [producerWrite_of_refused hstate (Bool.eq_false_iff.2 fun h => hok ((outIndexOk_iff _ _).1 h))] at hnext
        refine ⟨_, hnext, ⟨rfl, rfl, rfl⟩, rfl, rfl, rfl, ⟨rfl, rfl, rfl, rfl⟩, fun q hq => ?_, ?_⟩
        · rw [withDue_rings, haltOut_rings, updOut_other hq]
        · dsimp only
          rw [if_neg hok, withDue_rings, haltOut_rings, updOut_slot]
          refine ⟨?_, rfl, raise_eventPending .ringHalt _⟩
          rw [if_pos hstate]
  · subst hq
    obtain ⟨due, hnext⟩ := changeIn_eq_withDue ascending (State.consumerWrite r value) s
    cases hstate : (s.rings.inbound[r]).state with
    | unbound =>
      rw [consumerWrite_of_unbound hstate] at hnext
      exact ⟨_, hnext, ⟨rfl, rfl, rfl⟩, rfl, rfl, rfl, ⟨rfl, rfl, rfl, rfl⟩, rfl, rfl, rfl⟩
    | halted =>
      rw [consumerWrite_of_halted hstate] at hnext
      refine ⟨_, hnext, ⟨rfl, rfl, rfl⟩, rfl, rfl, rfl, ⟨rfl, rfl, rfl, rfl⟩, rfl, rfl, ?_⟩
      dsimp only
      rw [withDue_rings, updIn_slot, ← hstate]
    | active =>
      by_cases hok : (BitVec.ofNat 16 value.toNat - (s.rings.inbound[r]).consumerSeen).toNat ≤
          ((s.rings.inbound[r]).producer - (s.rings.inbound[r]).consumerSeen).toNat
      · rw [consumerWrite_of_ok hstate (decide_eq_true hok)] at hnext
        refine ⟨_, hnext, ⟨rfl, rfl, rfl⟩, rfl, rfl, rfl, ⟨rfl, rfl, rfl, rfl⟩, rfl, rfl, ?_⟩
        dsimp only
        rw [if_pos hok, withDue_rings, updIn_slot]
        obtain ⟨hst, -, hseen, -⟩ := flow_facts { s.rings.inbound[r] with consumerSeen := BitVec.ofNat 16 value.toNat }
        exact ⟨hseen, hst.trans hstate,
          flow_of_free { s.rings.inbound[r] with consumerSeen := BitVec.ofNat 16 value.toNat }⟩
      · rw [consumerWrite_of_refused hstate (decide_eq_false hok)] at hnext
        refine ⟨_, hnext, ⟨rfl, rfl, rfl⟩, rfl, rfl, rfl, ⟨rfl, rfl, rfl, rfl⟩, rfl, rfl, ?_⟩
        dsimp only
        rw [if_neg hok, withDue_rings, raise_rings, updIn_slot]
        exact ⟨rfl, raise_eventPending .ringHalt _⟩

end Sys2Proof.Machine

/-!
The retire of a record and the fetch that follows it (R99, R104).
-/

namespace Sys2Proof.Machine

/-! ### The writes of a retire (R104) -/

theorem issueIndex_eq (owner : Owner) (word : Option Nat) (index : RingIndex) (s : State) :
    s.issueIndex owner word index =
      { s with path := { s.path with other := s.path.other ++ indexWrites owner word index } } := by
  cases word with
  | none =>
    show s = { s with path := { s.path with other := s.path.other ++ [] } }
    rw [List.append_nil]
  | some a => rfl

theorem takeAttempts_eq (n : Nat) (s : State) :
    s.takeAttempts n = { s with free := if n < 256 then s.free else s.free + 1 } := by
  unfold State.takeAttempts
  split <;> rfl

/-- The count of a retire, by its status (R104). -/
def RecordStatus.counted (st : RecordStatus) (s : State) : State :=
  match st with
  | .tooLarge => s.count .recordsTooLarge
  | .failed => s.count .recordsFailed
  | .sent | .delivered | .memoryError | .badRecord => s

/-- A retire is its writes, its ring, its event and its count (R104). -/
theorem retire_eq (r : Fin 4) (sr : SendRecord) (st : RecordStatus) (s : State) :
    s.retire r sr st =
      { s with
        rings := { s.rings with outbound := s.rings.outbound.set r ((s.rings.outbound[r]).retired st) }
        path :=
          { s.path with
            other :=
              s.path.other ++
                retireWrites s.rings.outbound[r] st.code
                  (s.attemptsByte (st.attempts (s.rings.outbound[r]).kind (s.rings.outbound[r]).sendCount))
                  (st.bytesSent sr.length) }
        status := (st.counted (if sr.attention then s.raise .ringAttn else s)).status
        free :=
          if st.attempts (s.rings.outbound[r]).kind (s.rings.outbound[r]).sendCount < 256 then s.free
          else s.free + 1 } := by
  unfold State.retire State.issueRecordStatus
  dsimp only
  rw [takeAttempts_eq, issueIndex_eq]
  have hwrites (st' : OwnRequest) (l : List OwnRequest) :
      s.path.other ++ [st'] ++ l = s.path.other ++ st' :: l := by simp
  cases st <;> cases sr.attention <;>
    simp only [State.issueWrite, State.updPath, hwrites, RecordStatus.counted, Bool.false_eq_true, if_false, if_true] <;> rfl

/-! ### The fetch that follows -/

section fetch

variable {r : Fin 4} {s : State}

theorem tryFetch_of_inactive (h : (s.rings.outbound[r]).state ≠ .active) : s.tryFetch r = s :=
  if_neg fun ⟨hactive, _⟩ => h hactive

/-- The fetch of a ring touches its head record, the serial number and the EGRESS class alone (R99). -/
theorem tryFetch_same (r : Fin 4) (s : State) :
    s.tryFetch r =
      { s with
        rings :=
          { s.rings with
            outbound :=
              s.rings.outbound.set r
                { s.rings.outbound[r] with head := ((s.tryFetch r).rings.outbound[r]).head }
            nextSerial := (s.tryFetch r).rings.nextSerial }
        path := { s.path with egress := (s.tryFetch r).path.egress } } := by
  by_cases hfetch : (s.rings.outbound[r]).state = .active ∧ (s.rings.outbound[r]).head = .empty ∧
      (s.rings.outbound[r]).producerSeen ≠ (s.rings.outbound[r]).consumer
  · obtain ⟨hstate, hhead, hpending⟩ := hfetch
    rw [tryFetch_of_pending hstate hhead hpending, fetched_slot]
    rfl
  · have hidle : s.tryFetch r = s := by
      by_cases hstate : (s.rings.outbound[r]).state = .active
      · refine tryFetch_of_idle ?_
        by_contra hno
        obtain ⟨hhead, hpending⟩ := not_or.1 hno
        exact hfetch ⟨hstate, not_not.1 hhead, hpending⟩
      · exact tryFetch_of_inactive hstate
    rw [hidle]
    have hself : s.rings.outbound.set r s.rings.outbound[r] = s.rings.outbound := Vector.set_getElem_self _
    conv_rhs => rw [hself]

end fetch

theorem retired_fields (o : OutRing) (st : RecordStatus) :
    (o.retired st).state = o.state ∧ (o.retired st).producerSeen = o.producerSeen ∧
      (o.retired st).recordAddr = o.base + ((o.consumer + 1).toNat % o.count) * 64 := by
  unfold OutRing.retired OutRing.recordAddr OutRing.settleToggle
  dsimp only
  (repeat' split) <;> exact ⟨rfl, rfl, rfl⟩

/-- The fetch of the next record follows a retire where the ring is ACTIVE and records are pending (R99, R104). -/
theorem retireNext_fetchFollows (r : Fin 4) (sr : SendRecord) (st : RecordStatus) (s : State) :
    FetchFollows r s (s.retireNext r sr st) := by
  obtain ⟨hstate, hseen, haddr⟩ := retired_fields s.rings.outbound[r] st
  have hslot : (s.retire r sr st).rings.outbound[r] = (s.rings.outbound[r]).retired st := by
    rw [retire_outbound, getElem_set_slot, if_pos rfl]
  unfold FetchFollows State.retireNext
  dsimp only
  by_cases hfetch : (s.rings.outbound[r]).state = .active ∧
      (s.rings.outbound[r]).producerSeen ≠ (s.rings.outbound[r]).consumer + 1
  · rw [if_pos hfetch, tryFetch_of_pending (by rw [hslot, hstate]; exact hfetch.1) (by rw [hslot]; rfl)
      (by rw [hslot, hseen]; exact hfetch.2), fetched_slot, fetched_path, hslot, haddr, retire_eq]
    exact ⟨rfl, rfl, rfl⟩
  · have hidle : (s.retire r sr st).tryFetch r = s.retire r sr st := by
      by_cases hactive : (s.rings.outbound[r]).state = .active
      · refine tryFetch_of_idle (.inr ?_)
        rw [hslot, hseen]
        by_contra hpending
        exact hfetch ⟨hactive, hpending⟩
      · exact tryFetch_of_inactive (by rw [hslot, hstate]; exact hactive)
    rw [if_neg hfetch, hidle, hslot, retire_eq]
    exact ⟨rfl, rfl, rfl⟩

/-- A retire and its fetch: the ring but for its head record, the writes, the event and the count (R104). -/
theorem retireNext_eq (r : Fin 4) (sr : SendRecord) (st : RecordStatus) (s : State) :
    s.retireNext r sr st =
      { s with
        rings :=
          { s.rings with
            outbound :=
              s.rings.outbound.set r
                { (s.rings.outbound[r]).retired st with
                  head := ((s.retireNext r sr st).rings.outbound[r]).head }
            nextSerial := (s.retireNext r sr st).rings.nextSerial }
        path :=
          { s.path with
            egress := (s.retireNext r sr st).path.egress
            other :=
              s.path.other ++
                retireWrites s.rings.outbound[r] st.code
                  (s.attemptsByte (st.attempts (s.rings.outbound[r]).kind (s.rings.outbound[r]).sendCount))
                  (st.bytesSent sr.length) }
        status := (st.counted (if sr.attention then s.raise .ringAttn else s)).status
        free :=
          if st.attempts (s.rings.outbound[r]).kind (s.rings.outbound[r]).sendCount < 256 then s.free
          else s.free + 1 } := by
  have hslot : (s.retire r sr st).rings.outbound[r] = (s.rings.outbound[r]).retired st := by
    rw [retire_outbound, getElem_set_slot, if_pos rfl]
  have hsame := tryFetch_same r (s.retire r sr st)
  unfold State.retireNext
  generalize (s.retire r sr st).tryFetch r = t at hsame ⊢
  rw [hslot, retire_outbound, Vector.set_set] at hsame
  refine hsame.trans ?_
  rw [retire_eq]

end Sys2Proof.Machine

/-!
The response to a record fetch (O32).
-/

namespace Sys2Proof.Machine

section fetched

variable {r : Fin 4} {n : Nat} {data : List Byte} {s : State}

theorem recordFetched_of_error (hhead : (s.rings.outbound[r]).head = .fetching n) (data : List Byte) :
    s.recordFetched r n true data =
      ((s.updOut r fun o => { o with head := .empty }).raise .memErr).haltOut r .memory
        (s.rings.outbound[r]).producerSeen := by
  unfold State.recordFetched
  dsimp only
  rw [if_neg (not_not.2 hhead), if_pos rfl]

theorem recordFetched_of_withdrawn (hhead : (s.rings.outbound[r]).head = .fetching n)
    (hnone : (s.rings.outbound[r]).producerSeen = (s.rings.outbound[r]).consumer) :
    s.recordFetched r n false data = s.updOut r fun o => { o with head := .empty } := by
  have hpending : (s.rings.outbound[r]).pendingCount = 0 := by
    by_contra hne
    exact (pendingCount_pos_iff _).1 (Nat.pos_of_ne_zero hne) hnone
  unfold State.recordFetched
  dsimp only
  rw [if_neg (not_not.2 hhead), if_neg Bool.false_ne_true, if_pos hpending]

/-- A record that cannot be sent: no byte, too many, or a buffer beyond the addresses (R99). -/
def SendRecord.unusable (sr : SendRecord) : Prop := sr.length = 0 ∨ 992 < sr.length ∨ 2 ^ 40 < sr.buffer + sr.length

theorem recordFetched_of_unusable (hhead : (s.rings.outbound[r]).head = .fetching n)
    (hsome : (s.rings.outbound[r]).producerSeen ≠ (s.rings.outbound[r]).consumer)
    (hbad : (sendRecord n data).unusable) :
    s.recordFetched r n false data = s.retireNext r (sendRecord n data) .badRecord := by
  have hpending : (s.rings.outbound[r]).pendingCount ≠ 0 := ((pendingCount_pos_iff _).2 hsome).ne'
  unfold State.recordFetched
  dsimp only
  rw [if_neg (not_not.2 hhead), if_neg Bool.false_ne_true, if_neg hpending]
  exact if_pos hbad

theorem recordFetched_of_usable (hhead : (s.rings.outbound[r]).head = .fetching n)
    (hsome : (s.rings.outbound[r]).producerSeen ≠ (s.rings.outbound[r]).consumer)
    (hok : ¬(sendRecord n data).unusable) :
    s.recordFetched r n false data =
      s.updOut r fun o => { o with head := .ready (sendRecord n data), sendCount := 0 } := by
  have hpending : (s.rings.outbound[r]).pendingCount ≠ 0 := ((pendingCount_pos_iff _).2 hsome).ne'
  unfold State.recordFetched
  dsimp only
  rw [if_neg (not_not.2 hhead), if_neg Bool.false_ne_true, if_neg hpending]
  exact if_neg hok

end fetched

theorem retired_badRecord (o : OutRing) :
    (o.retired .badRecord).toggle = o.toggle ∧ (o.retired .badRecord).syncNeeded = o.syncNeeded := by
  unfold OutRing.retired OutRing.settleToggle
  cases o.kind <;> exact ⟨rfl, rfl⟩

theorem sendRecord_eq (n : Nat) (data : List Byte) :
    sendRecord n data =
      { serial := n, length := fieldAt data 0 2, tag := byteAt data 2
        retry := (byteAt data 3).toNat % 4, attention := (byteAt data 3).getLsbD 7
        buffer := fieldAt data 8 8 } := by
  have hbit : decide (128 ≤ (byteAt data 3).toNat) = (byteAt data 3).getLsbD 7 := by
    rw [← BitVec.msb_eq_getLsbD_last, BitVec.msb_eq_decide]
  unfold sendRecord
  rw [hbit]

theorem isRecordFetch_iff (q : OwnRequest) : q.isRecordFetch = true ↔ ∃ r n, q.owner = .recordFetch r n := by
  unfold OwnRequest.isRecordFetch
  split
  · next r n h => exact ⟨fun _ => ⟨r, n, h⟩, fun _ => rfl⟩
  · next hother => exact ⟨nofun, fun ⟨r, n, h⟩ => absurd h (hother r n)⟩

/-- The response to a live record fetch is what the record's ring does with it (R15, R99). -/
theorem exec_recordFetchResponse {k n : Nat} (error : Bool) (data : List Byte) {q : OwnRequest}
    {rest : List OwnRequest} {r : Fin 4} {s : State}
    (htake : takeNth OwnRequest.isRecordFetch k s.path.ownOut = some (q, rest)) (howner : q.owner = .recordFetch r n)
    (hlive : q.live = true) :
    ∃ due, exec (.recordFetchResponse k error data) s =
      .next (((s.updPath fun p => { p with ownOut := rest }).recordFetched r n error data).withDue due) := by
  have hexec : exec (.recordFetchResponse k error data) s = execRecordFetchResponse k error data s := rfl
  unfold execRecordFetchResponse at hexec
  rw [htake] at hexec
  dsimp only at hexec
  rw [howner, hlive] at hexec
  obtain ⟨due, hnext⟩ := changeIn_eq_withDue ascending
    (fun t => (t.updPath fun p => { p with ownOut := rest }).recordFetched r n error data) s
  exact ⟨due, hexec.trans hnext⟩

/-- Settles O32: the response by its error flag, by what is pending and by the record's fields. -/
theorem recordFetchResponseTaken : Obligations.RecordFetchResponseTaken := by
  refine ⟨fun k n error data q rest r o s htake howner hlive ho hhead => ?_, sendRecord_eq, fun _ => rfl,
    isRecordFetch_iff⟩
  subst ho
  obtain ⟨due, hnext⟩ := exec_recordFetchResponse error data htake howner hlive
  cases error with
  | true =>
    rw [recordFetched_of_error (s := s.updPath fun p => { p with ownOut := rest }) hhead] at hnext
    refine ⟨_, hnext, rfl, ⟨rfl, rfl, rfl⟩, rfl, rfl, rfl, ⟨rfl, rfl, rfl, rfl⟩, fun _ => ⟨?_, ?_, ?_⟩, nofun, nofun,
      nofun⟩
    · rw [withDue_rings, haltOut_rings, updOut_slot, raise_rings, updOut_slot]
      rfl
    · exact eventPending_raise (raise_eventPending .memErr _)
    · exact raise_eventPending .ringHalt _
  | false =>
    by_cases hnone : (s.rings.outbound[r]).producerSeen = (s.rings.outbound[r]).consumer
    · rw [recordFetched_of_withdrawn (s := s.updPath fun p => { p with ownOut := rest }) hhead hnone] at hnext
      refine ⟨_, hnext, rfl, ⟨rfl, rfl, rfl⟩, rfl, rfl, rfl, ⟨rfl, rfl, rfl, rfl⟩, nofun,
        fun _ _ => ⟨?_, rfl, rfl⟩, fun _ h => absurd hnone h, fun _ h => absurd hnone h⟩
      rw [withDue_rings, updOut_slot]
      rfl
    · by_cases hbad : (sendRecord n data).unusable
      · rw [recordFetched_of_unusable (s := s.updPath fun p => { p with ownOut := rest }) hhead hnone hbad] at hnext
        have hfetch := retireNext_fetchFollows r (sendRecord n data) .badRecord
          (s.updPath fun p => { p with ownOut := rest })
        have hsame := retireNext_eq r (sendRecord n data) .badRecord (s.updPath fun p => { p with ownOut := rest })
        have hslot : ((s.updPath fun p => { p with ownOut := rest }).retireNext r (sendRecord n data)
            .badRecord).rings.outbound[r] = _ :=
          (congrArg (fun t : State => t.rings.outbound[r]) hsame).trans
            ((getElem_set_slot s.rings.outbound r r _).trans (if_pos rfl))
        obtain ⟨htoggle, hsync⟩ := retired_badRecord s.rings.outbound[r]
        refine ⟨_, hnext, ?_, ?_, ?_, ?_, ?_, ?_, nofun, fun _ h => absurd h hnone,
          fun _ _ ⟨hone, hmax, hfit⟩ => absurd hbad ?_, fun _ _ _ => ⟨?_, ?_, ?_, ?_, hfetch⟩⟩
        · rw [withDue_path, hsame]
          rfl
        · rw [hsame]
          exact ⟨rfl, rfl, rfl⟩
        · rw [hsame]
          rfl
        · rw [hsame]
          rfl
        · rw [hsame]
          rfl
        · rw [hsame]
          exact ⟨rfl, rfl, rfl, rfl⟩
        · rintro (hzero | hlong | hout)
          · exact absurd hzero (by show fieldAt data 0 2 ≠ 0; omega)
          · exact absurd hlong (not_lt.2 hmax)
          · exact absurd hout (not_lt.2 hfit)
        · rw [withDue_rings, hslot]
          rfl
        · rw [withDue_rings, hslot]
          exact htoggle
        · rw [withDue_rings, hslot]
          exact hsync
        · rw [withDue_path, hsame]
          rfl
      · rw [recordFetched_of_usable (s := s.updPath fun p => { p with ownOut := rest }) hhead hnone hbad] at hnext
        refine ⟨_, hnext, rfl, ⟨rfl, rfl, rfl⟩, rfl, rfl, rfl, ⟨rfl, rfl, rfl, rfl⟩, nofun,
          fun _ h => absurd h hnone, fun _ _ _ => ⟨?_, rfl⟩, fun _ _ h => absurd ?_ hbad⟩
        · rw [withDue_rings, updOut_slot]
          rfl
        · exact h

end Sys2Proof.Machine

/-!
The end of a RELIABLE send: an acknowledgement, its refusal, and the timeout (O35).
-/

namespace Sys2Proof.Machine

/-! ### An ACK (R101, R104) -/

theorem retired_delivered {o : OutRing} (h : o.kind = .reliable) :
    o.retired .delivered =
      { o with consumer := o.consumer + 1, toggle := !o.toggle, syncNeeded := false, sendCount := 0, head := .empty } := by
  unfold OutRing.retired OutRing.settleToggle
  rw [h]

theorem retired_failed {o : OutRing} (h : o.kind = .reliable) :
    o.retired .failed =
      { o with consumer := o.consumer + 1, toggle := !o.toggle, syncNeeded := true, sendCount := 0, head := .empty } := by
  unfold OutRing.retired OutRing.settleToggle
  rw [h]

section answers

variable {r : Fin 4} {sr : SendRecord} {s : State}

theorem acknowledgeable_of_sent {o : OutRing} (h : o.head = .inFlight sr ∨ (o.head = .ready sr ∧ 0 < o.sendCount)) :
    o.acknowledgeable = some sr := by
  unfold OutRing.acknowledgeable
  obtain h | ⟨h, hsent⟩ := h
  · rw [h]
  · rw [h]
    exact if_pos hsent

theorem acknowledgeable_of_unsent {o : OutRing}
    (h : o.head = .empty ∨ (∃ n, o.head = .fetching n) ∨ (∃ sr, o.head = .placed sr) ∨
      ((∃ sr, o.head = .ready sr) ∧ o.sendCount = 0)) : o.acknowledgeable = none := by
  unfold OutRing.acknowledgeable
  obtain h | ⟨n, h⟩ | ⟨sr, h⟩ | ⟨⟨sr, h⟩, hzero⟩ := h
  · rw [h]
  · rw [h]
  · rw [h]
  · rw [h]
    exact if_neg (by simp [hzero])

theorem takeAnswer_ack (h : (s.rings.outbound[r]).acknowledgeable = some sr) :
    s.takeAnswer r (.ack (s.rings.outbound[r]).toggle) = s.retireNext r sr .delivered := by
  unfold State.takeAnswer
  dsimp only
  rw [h]
  exact if_pos rfl

theorem takeAnswer_ack_unsent (h : (s.rings.outbound[r]).acknowledgeable = none) (toggle : Bool) :
    s.takeAnswer r (.ack toggle) = s := by
  unfold State.takeAnswer
  dsimp only
  rw [h]

theorem takeAnswer_ack_other {toggle : Bool} (h : toggle ≠ (s.rings.outbound[r]).toggle) :
    s.takeAnswer r (.ack toggle) = s := by
  unfold State.takeAnswer
  dsimp only
  split
  · rfl
  · exact if_neg h

/-! ### A NAK and the timeout (R102, R103) -/

theorem takeAnswer_nak (h : (s.rings.outbound[r]).head = .inFlight sr) :
    s.takeAnswer r (.nak (s.rings.outbound[r]).toggle) = s.endSend r sr := by
  unfold State.takeAnswer
  dsimp only
  rw [h]
  exact if_pos rfl

theorem takeAnswer_nak_other {toggle : Bool}
    (h : toggle ≠ (s.rings.outbound[r]).toggle ∨ ∀ sr, (s.rings.outbound[r]).head ≠ .inFlight sr) :
    s.takeAnswer r (.nak toggle) = s := by
  unfold State.takeAnswer
  dsimp only
  split
  · next sr hhead => exact if_neg (h.elim id fun hno => absurd hhead (hno sr))
  all_goals rfl

theorem ackTimeout_of_reached (hhead : (s.rings.outbound[r]).head = .inFlight sr) (hup : s.link.state = .up)
    (hreached : reached s.link.count ((s.rings.outbound[r]).sentFrame + 4) = true) :
    s.ackTimeout r = s.endSend r sr := by
  unfold State.ackTimeout
  dsimp only
  rw [hhead]
  exact if_pos ⟨hup, hreached⟩

theorem endSend_of_budget (h : (s.rings.outbound[r]).sendCount < sr.retry + 1) :
    s.endSend r sr = (s.updOut r fun o => { o with head := .ready sr }).count .reliableRetries := if_pos h

theorem endSend_of_spent (h : ¬(s.rings.outbound[r]).sendCount < sr.retry + 1) :
    s.endSend r sr =
      (s.retire r sr .failed).haltOut r .failed (s.rings.outbound[r]).producerSeen := if_neg h

theorem haltOut_slot (r : Fin 4) (c : HaltCause) (written : RingIndex) (s : State) :
    (s.haltOut r c written).rings.outbound[r] =
      { s.rings.outbound[r] with
        state := .halted, cause := c
        producerWritten :=
          if (s.rings.outbound[r]).state = .active then written else (s.rings.outbound[r]).producerWritten } := by
  rw [haltOut_rings, updOut_slot]

theorem counted_counter_failed (sr : SendRecord) (s : State) :
    (RecordStatus.failed.counted (if sr.attention then s.raise .ringAttn else s)).counter .recordsFailed =
      saturate (s.counter .recordsFailed) 1 := by
  show (State.count _ _).counter _ = _
  rw [count_counter_same]
  split
  · rw [raise_counter]
  · rfl

theorem counted_eventPending_failed {sr : SendRecord} (h : sr.attention = true) (s : State) :
    (RecordStatus.failed.counted (if sr.attention then s.raise .ringAttn else s)).eventPending .ringAttn = true := by
  rw [if_pos h]
  exact raise_eventPending .ringAttn s

/-- The end of a send: a resend within the budget, a failed record and a halted ring past it (R102, R104, R105). -/
theorem endSend_sendEnded (sr : SendRecord)
    (hkind : (s.rings.outbound[r]).kind = .reliable) : SendEnded r sr s (s.endSend r sr) := by
  by_cases hbudget : (s.rings.outbound[r]).sendCount < sr.retry + 1
  · rw [endSend_of_budget hbudget]
    have hnot : ¬sr.retry + 1 ≤ (s.rings.outbound[r]).sendCount := not_le.2 hbudget
    refine ⟨⟨rfl, rfl, rfl⟩, rfl, rfl, rfl, rfl, rfl, rfl, ?_, fun q hq => ?_, rfl, rfl, fun _ => ⟨?_, rfl, rfl⟩,
      fun h => absurd h hnot⟩
    · exact (if_neg fun h => hnot h.1).symm
    · rw [count_rings, updOut_other hq]
    · rw [count_rings, updOut_slot]
  · rw [endSend_of_spent hbudget]
    have hspent : sr.retry + 1 ≤ (s.rings.outbound[r]).sendCount := not_lt.1 hbudget
    have hring := haltOut_slot r .failed (s.rings.outbound[r]).producerSeen (s.retire r sr .failed)
    have hslot : (s.retire r sr .failed).rings.outbound[r] = (s.rings.outbound[r]).retired .failed := by
      rw [retire_outbound, getElem_set_slot, if_pos rfl]
    rw [hslot, retired_failed hkind, retire_eq] at hring
    rw [retire_eq]
    refine ⟨⟨rfl, rfl, rfl⟩, rfl, rfl, rfl, rfl, rfl, rfl, ?_, fun q hq => ?_, rfl, rfl, fun h => absurd h hbudget,
      fun _ => ⟨congrArg OutRing.state hring, congrArg OutRing.cause hring, congrArg OutRing.head hring,
        congrArg OutRing.consumer hring, congrArg OutRing.toggle hring, congrArg OutRing.syncNeeded hring,
        congrArg OutRing.sendCount hring, rfl, counted_counter_failed sr s, raise_eventPending .ringHalt _,
        fun hattention => eventPending_raise (counted_eventPending_failed hattention s)⟩⟩
    · show (if (s.rings.outbound[r]).sendCount < 256 then s.free else s.free + 1) = _
      by_cases hbyte : (s.rings.outbound[r]).sendCount < 256
      · rw [if_pos hbyte, if_neg fun h => absurd hbyte (not_lt.2 h.2)]
      · rw [if_neg hbyte, if_pos ⟨hspent, not_lt.1 hbyte⟩]
    · rw [haltOut_rings, updOut_other hq, getElem_set_slot, if_neg hq.symm]

end answers

/-- The due list is no part of how a send ends. -/
theorem SendEnded.withDue {r : Fin 4} {sr : SendRecord} {s t : State} (h : SendEnded r sr s t)
    (due : List (Fin 32)) : SendEnded r sr s (t.withDue due) := by
  obtain ⟨hcapture, hsched, hlink, hmbox, hstraps, hout, hpending, hfree, hother, hin, hret, hresend, hfail⟩ := h
  refine ⟨hcapture, hsched, hlink, hmbox, hstraps, hout, hpending, hfree, hother, hin, hret, fun hbudget => ?_, hfail⟩
  obtain ⟨hring, hpath, hstatus⟩ := hresend hbudget
  refine ⟨hring, hpath, ?_⟩
  show ({ t.status with due := due } : StatusUnit) = _
  rw [hstatus]
  rfl

/-- Settles O35: an ACK as the retire and its fetch, a NAK and the timeout as the end of the send. -/
theorem reliableSendEnds : Obligations.ReliableSendEnds := by
  refine ⟨⟨fun r sr o s ho hsent hkind => ?_, fun r toggle o s ho hunsent => ?_, fun _ _ => rfl⟩,
    fun r sr s hhead hkind hup hreached => ?_, fun r sr s hhead hkind => ?_, fun r toggle s h => takeAnswer_nak_other h,
    fun r s => rfl⟩
  · subst ho
    have hack := takeAnswer_ack (acknowledgeable_of_sent hsent)
    have hfetch := retireNext_fetchFollows r sr .delivered s
    have hsame := retireNext_eq r sr .delivered s
    rw [retired_delivered hkind] at hsame
    dsimp only
    rw [hack]
    refine ⟨congrArg State.rings hsame, hfetch, congrArg State.path hsame, ?_, ?_⟩
    · rw [hsame]
      show (if sr.attention = true then s.raise .ringAttn else s).status = _
      cases sr.attention <;> rfl
    · rw [hsame]
      exact ⟨⟨rfl, rfl, rfl⟩, rfl, rfl, rfl, rfl, rfl, rfl, rfl⟩
  · subst ho
    obtain hother | hunsent := hunsent
    · exact takeAnswer_ack_other hother
    · exact takeAnswer_ack_unsent (acknowledgeable_of_unsent hunsent) toggle
  · obtain ⟨due, hnext⟩ := changeIn_eq_withDue (failOrder r) (State.ackTimeout r) s
    rw [ackTimeout_of_reached hhead hup hreached] at hnext
    exact ⟨_, hnext, (endSend_sendEnded sr hkind).withDue due⟩
  · rw [takeAnswer_nak hhead]
    exact endSend_sendEnded sr hkind

end Sys2Proof.Machine

/-!
CMSG parcels, return pieces and return ends (O34).
-/

namespace Sys2Proof.Machine

/-! ### Accesses split at 256-byte boundaries (R89, R112, R117) -/

/-- The pieces of an access, with fuel enough for each of its bytes. -/
theorem chunks_facts {fuel n : Nat} (addr : Nat) (h : n ≤ fuel) :
    ((chunks fuel addr n).map Prod.snd).sum = n ∧
      (chunks fuel addr n).Pairwise (fun a b => a.1 + a.2 ≤ b.1) ∧
      ∀ c ∈ chunks fuel addr n,
        1 ≤ c.2 ∧ c.1 % 256 + c.2 ≤ 256 ∧ addr ≤ c.1 ∧ c.1 + c.2 ≤ addr + n ∧ (c.1 = addr ∨ c.1 % 256 = 0) := by
  induction fuel generalizing addr n with
  | zero =>
    obtain rfl : n = 0 := by omega
    simp [chunks]
  | succ fuel ih =>
    unfold chunks
    by_cases hzero : n = 0
    · simp [hzero]
    · dsimp only
      rw [if_neg hzero]
      generalize hk : (if n < 256 - addr % 256 then n else 256 - addr % 256) = k
      have hsome : 1 ≤ k ∧ k ≤ n ∧ addr % 256 + k ≤ 256 ∧ (k = n ∨ (addr + k) % 256 = 0) := by
        split at hk <;> omega
      obtain ⟨hone, hle, hfits, hends⟩ := hsome
      obtain ⟨hsum, hpairs, hall⟩ := ih (addr := addr + k) (n := n - k) (by omega)
      refine ⟨?_, ?_, ?_⟩
      · rw [List.map_cons, List.sum_cons, hsum]
        omega
      · refine List.pairwise_cons.2 ⟨fun c hc => ?_, hpairs⟩
        obtain ⟨-, -, hstart, -⟩ := hall c hc
        exact hstart
      · refine List.forall_mem_cons.2 ⟨⟨hone, hfits, le_refl _, by dsimp only; omega, .inl rfl⟩, fun c hc => ?_⟩
        obtain ⟨hc1, hc2, hstart, hstop, hplace⟩ := hall c hc
        exact ⟨hc1, hc2, by omega, by omega, by omega⟩

theorem issueSplit_eq (owner : Owner) (addr : Nat) (data : List Byte) (s : State) :
    s.issueSplit owner addr data =
      { s with path := { s.path with other := s.path.other ++ splitWrites owner addr data } } := by
  unfold State.issueSplit splitWrites
  generalize chunks data.length addr data.length = l
  induction l generalizing s with
  | nil =>
    rw [List.map_nil, List.append_nil]
    rfl
  | cons c l ih =>
    rw [List.foldl_cons, ih, List.map_cons]
    simp only [State.issueWrite, State.updPath, List.append_assoc, List.singleton_append]

/-! ### A CMSG parcel (R111, R112, R113) -/

theorem answer_eq (q : InRing) (a : Answer) :
    q.answer a = if q.landing = .idle then { q with toSend := a } else q := by
  unfold InRing.answer
  cases q.landing <;> simp

/-- The flow touches the hold flag and the release alone (R114). -/
theorem flow_same (q : InRing) :
    q.flow = { q with holdRequested := q.flow.holdRequested, releaseDue := q.flow.releaseDue } := by
  unfold InRing.flow
  dsimp only
  split
  · rfl
  · split <;> rfl

/-- The answer of a message that is not landed, and its count (R111). -/
def State.answeredCmsg (r : Fin 2) (a : Answer) (c : Counter) (s : State) : State :=
  (s.updIn r fun q => q.answer a).count c

section cmsg

variable {r : Fin 2} {m : Cmsg} {s : State}

theorem takeCmsg_of_unfit
    (h : (s.rings.inbound[r]).state ≠ .active ∨ m.poison = true ∨ m.payload.length = 0 ∨ 992 < m.payload.length) :
    s.takeCmsg r m = s.answeredCmsg r (.nak m.toggle) .cmsgNaks := by
  unfold State.takeCmsg
  dsimp only
  by_cases hstate : (s.rings.inbound[r]).state ≠ .active
  · exact if_pos hstate
  · by_cases hpoison : m.poison = true
    · exact (if_neg hstate).trans (if_pos hpoison)
    · exact (if_neg hstate).trans ((if_neg hpoison).trans
        (if_pos (h.resolve_left hstate |>.resolve_left hpoison)))

/-- A message that its ring can take (R111 row 1). -/
structure Cmsg.Fits (m : Cmsg) (q : InRing) : Prop where
  active : q.state = .active
  whole : m.poison = false
  some : m.payload.length ≠ 0
  short : m.payload.length ≤ 992

theorem fits_of_not {q : InRing}
    (h : ¬(q.state ≠ .active ∨ m.poison = true ∨ m.payload.length = 0 ∨ 992 < m.payload.length)) : m.Fits q := by
  obtain ⟨hstate, h⟩ := not_or.1 h
  obtain ⟨hpoison, h⟩ := not_or.1 h
  obtain ⟨hzero, hlong⟩ := not_or.1 h
  exact ⟨not_not.1 hstate, Bool.eq_false_iff.2 hpoison, hzero, not_lt.1 hlong⟩

theorem takeCmsg_of_fits (h : m.Fits s.rings.inbound[r]) :
    s.takeCmsg r m =
      if m.sync = false ∧ (s.rings.inbound[r]).lastAccepted = some m.toggle then
        s.answeredCmsg r (.ack m.toggle) .cmsgDuplicates
      else if (s.rings.inbound[r]).landing ≠ .idle then s.answeredCmsg r (.nak m.toggle) .cmsgNaks
      else if (s.rings.inbound[r]).occupied = (s.rings.inbound[r]).count then
        (s.answeredCmsg r (.nak m.toggle) .cmsgNaks).updStatus fun u => { u with inboundFull := true }
      else (s.land r m).count .cmsgLanded := by
  obtain ⟨hstate, hpoison, hzero, hlong⟩ := h
  unfold State.takeCmsg
  exact (if_neg (not_not.2 hstate)).trans ((if_neg (Bool.eq_false_iff.1 hpoison)).trans
    (if_neg (not_or.2 ⟨hzero, not_lt.2 hlong⟩)))

/-- The slot header of a message (R112, section 11.2). -/
theorem cmsgHeader_eq (m : Cmsg) :
    padTo 32 (leBytes 2 m.payload.length ++ [m.tag, BitVec.ofNat 8 (flag m.toggle + 2 * flag m.sync)]) =
      leBytes 2 m.payload.length ++
        [m.tag, BitVec.ofNat 8 ((if m.toggle then 1 else 0) + 2 * (if m.sync then 1 else 0))] ++
        List.replicate 28 0 := rfl

/-- The writes of a message's landing, in order (R112). -/
def landingWrites (q : InRing) (serial : Nat) (r : Fin 2) (m : Cmsg) : List OwnRequest :=
  let owner := Owner.landing r serial
  let slot := q.base + (q.producer.toNat % q.count) * 1024
  [{ owner, addr := slot
     access := .write
       (leBytes 2 m.payload.length ++
         [m.tag, BitVec.ofNat 8 ((if m.toggle then 1 else 0) + 2 * (if m.sync then 1 else 0))] ++
         List.replicate 28 0)
     live := true }] ++
  splitWrites owner (slot + 0x20) m.payload ++ indexWrites owner q.producerWord (q.producer + 1)

/-- A ring with a message's landing in progress, before its flow is followed (R112). -/
def InRing.taken (q : InRing) (serial : Nat) (m : Cmsg) : InRing :=
  { q with
    producer := q.producer + 1, lastAccepted := some m.toggle
    landing :=
      .inProgress serial
        (1 + splitCount (q.base + (q.producer.toNat % q.count) * 1024 + 0x20) m.payload.length + 1) (some m.toggle) }

theorem land_eq (r : Fin 2) (m : Cmsg) (s : State) :
    s.land r m =
      { s with
        rings :=
          { s.rings with
            inbound := s.rings.inbound.set r ((s.rings.inbound[r]).taken s.rings.nextSerial m).flow
            nextSerial := s.rings.nextSerial + 1 }
        path :=
          { s.path with
            other := s.path.other ++ landingWrites s.rings.inbound[r] s.rings.nextSerial r m } } := by
  unfold State.land landingWrites
  dsimp only
  rw [issueSplit_eq, issueIndex_eq, cmsgHeader_eq]
  simp only [State.issueWrite, State.updPath, List.append_assoc]
  rfl

/-- What a message does that is answered without a landing (R111, R113). -/
theorem answeredCmsg_facts (r : Fin 2) (a : Answer) (c : Counter) (s : State) :
    (s.answeredCmsg r a c).rings.inbound[r] =
        (if (s.rings.inbound[r]).landing = .idle then { s.rings.inbound[r] with toSend := a }
         else s.rings.inbound[r]) ∧
      ∀ q : Fin 2, q ≠ r → (s.answeredCmsg r a c).rings.inbound[q] = s.rings.inbound[q] := by
  unfold State.answeredCmsg
  rw [count_rings]
  exact ⟨(updIn_slot r _ s).trans (answer_eq _ _), fun q hq => updIn_other hq _ s⟩

end cmsg

/-! ### The return picture (R117, R118) -/

section returns

variable {s : State}

theorem lands_iff (b : ReturnBinding) (p : Piece) :
    b.lands p = true ↔
      b.bound = true ∧ p.poison = false ∧ 1 ≤ p.payload.length ∧ p.line < b.lines ∧
        p.offset + p.payload.length ≤ b.pitch ∧ (b.buffer p.buffer).left < 32 := by
  unfold ReturnBinding.lands
  simp only [Bool.and_eq_true, decide_eq_true_eq, Bool.not_eq_true', and_assoc]
  rfl

/-- The address at which a piece is landed (R117). -/
def ReturnBinding.pieceAddr (b : ReturnBinding) (p : Piece) : Nat :=
  b.base + (if p.buffer then b.stride else 0) + p.line * b.pitch + p.offset

theorem flag_mul (c : Bool) (n : Nat) : flag c * n = if c then n else 0 := by
  cases c <;> simp [flag]

theorem takePiece_of_lands {p : Piece} (h : s.rings.ret.lands p = true) :
    s.takePiece p =
      State.count .returnPiecesLanded
        { s with
          rings :=
            { s.rings with
              ret :=
                s.rings.ret.updBuffer p.buffer fun q =>
                  { q with
                    left := q.left + (chunks p.payload.length (s.rings.ret.pieceAddr p) p.payload.length).length
                    completed := q.completed + (if p.last then 1 else 0) } }
          path :=
            { s.path with
              other :=
                s.path.other ++
                  splitWrites (.returnLanding p.buffer s.rings.ret.serial) (s.rings.ret.pieceAddr p) p.payload } } := by
  unfold State.takePiece
  dsimp only
  rw [if_pos h, issueSplit_eq, flag_mul]
  rfl

theorem takePiece_of_not_lands {p : Piece} (h : s.rings.ret.lands p = false) :
    s.takePiece p = s.count .returnPiecesDiscarded := by
  unfold State.takePiece
  dsimp only
  exact if_neg (Bool.eq_false_iff.1 h)

/-- A buffer with a return end's done word due (R118). -/
def ReturnBuffer.ended (frame : BitVec 16) (b : ReturnBuffer) : ReturnBuffer :=
  match b.due with
  | none => { b with due := some (frame, b.completed), completed := 0 }
  | some (_, n) => { b with due := some (frame, n) }

theorem ended_of_none {b : ReturnBuffer} (h : b.due = none) (frame : BitVec 16) :
    b.ended frame = { b with due := some (frame, b.completed), completed := 0 } := by
  unfold ReturnBuffer.ended
  rw [h]

theorem ended_of_some {b : ReturnBuffer} {d : BitVec 16 × Nat} (h : b.due = some d) (frame : BitVec 16) :
    b.ended frame = { b with due := some (frame, d.2), completed := b.completed } := by
  unfold ReturnBuffer.ended
  rw [h]

/-- The state with a return end's done word due (R118). -/
def State.returnEnded (sel : Bool) (frame : BitVec 16) (s : State) : State :=
  s.updRet (·.updBuffer sel (ReturnBuffer.ended frame))

theorem takeReturnEnd_of_bound {sel poison : Bool} (frame : BitVec 16)
    (h : s.rings.ret.bound = true ∧ poison = false) :
    s.takeReturnEnd sel frame poison = (s.returnEnded sel frame).doneTest sel := by
  unfold State.takeReturnEnd
  exact if_pos h

theorem takeReturnEnd_of_unbound {sel poison : Bool} (frame : BitVec 16)
    (h : ¬(s.rings.ret.bound = true ∧ poison = false)) : s.takeReturnEnd sel frame poison = s := if_neg h

/-- A due done word is written, and its buffer waits for none (R118; log entry 14). -/
theorem doneTest_writes {sel : Bool} {frame : BitVec 16} {lines a : Nat}
    (hdue : (s.rings.ret.buffer sel).due = some (frame, lines)) (ha : s.rings.ret.doneWord = some a)
    (hleft : (s.rings.ret.buffer sel).left = 0) :
    s.doneTest sel =
      { s with
        rings := { s.rings with ret := s.rings.ret.updBuffer sel fun b => { b with due := none } }
        path := { s.path with other := s.path.other ++ [s.doneWrite sel frame lines a] }
        free := if lines < 65536 then s.free else s.free + 1 } := by
  have hvalue : flag sel + atBit 16 frame.toNat + atBit 32 (s.linesField lines) =
      flag sel + 65536 * frame.toNat + 4294967296 * s.linesField lines := by
    simp only [atBit]
    omega
  unfold State.doneTest
  dsimp only
  rw [hdue, ha]
  dsimp only
  rw [if_pos hleft, hvalue]
  split <;> rfl

/-- A return end of a bound picture: its buffer's done word is due, and is written where nothing is outstanding
(R118). -/
theorem takeReturnEnd_facts {sel poison : Bool} {frame : BitVec 16} {lines completed : Nat} {b : ReturnBuffer}
    (h : s.rings.ret.bound = true ∧ poison = false) (hb : s.rings.ret.buffer sel = b)
    (hended : b.ended frame = { b with due := some (frame, lines), completed }) :
    let t := s.takeReturnEnd sel frame poison
    SameCapture s t ∧ t.sched = s.sched ∧ t.link = s.link ∧ t.mbox = s.mbox ∧ t.straps = s.straps ∧
      t.out = s.out ∧ t.pending = s.pending ∧ t.status = s.status ∧
      t.rings.ret.buffer (!sel) = s.rings.ret.buffer (!sel) ∧
      (∀ a, s.rings.ret.doneWord = some a → b.left = 0 →
        t.rings.ret.buffer sel = { b with due := none, completed } ∧
          t.path = { s.path with other := s.path.other ++ [s.doneWrite sel frame lines a] }) ∧
      (s.rings.ret.doneWord = none ∨ b.left ≠ 0 →
        t.rings.ret.buffer sel = { b with due := some (frame, lines), completed } ∧ t.path = s.path) := by
  dsimp only
  rw [takeReturnEnd_of_bound frame h]
  obtain ⟨hself, hother⟩ := updBuffer_buffer sel (ReturnBuffer.ended frame) s.rings.ret
  have hword := updBuffer_doneWord sel (ReturnBuffer.ended frame) s.rings.ret
  rw [hb, hended] at hself
  have hret : (s.returnEnded sel frame).rings.ret = s.rings.ret.updBuffer sel (ReturnBuffer.ended frame) := rfl
  rw [← hret] at hself hother hword
  by_cases hwrites : ∃ a, s.rings.ret.doneWord = some a ∧ b.left = 0
  · obtain ⟨a, ha, hleft⟩ := hwrites
    obtain ⟨hself', hother'⟩ :=
      updBuffer_buffer sel (fun b => { b with due := none }) (s.returnEnded sel frame).rings.ret
    rw [doneTest_writes (by rw [hself]) (hword.trans ha) (by rw [hself]; exact hleft)]
    refine ⟨⟨rfl, rfl, rfl⟩, rfl, rfl, rfl, rfl, rfl, rfl, rfl, hother'.trans hother, fun a' ha' _ => ⟨?_, ?_⟩,
      fun hno => ?_⟩
    · rw [hself', hself]
    · obtain rfl := Option.some.inj (ha.symm.trans ha')
      rfl
    · exact absurd hno (by simp [ha, hleft])
  · have hstays : s.rings.ret.doneWord = none ∨ b.left ≠ 0 := by
      by_contra hno
      obtain ⟨hsome, hleft⟩ := not_or.1 hno
      obtain ⟨a, ha⟩ := Option.ne_none_iff_exists'.1 hsome
      exact hwrites ⟨a, ha, not_not.1 hleft⟩
    rw [doneTest_of_not (.inr (hstays.imp hword.trans fun hleft => by rw [hself]; exact hleft))]
    exact ⟨⟨rfl, rfl, rfl⟩, rfl, rfl, rfl, rfl, rfl, rfl, rfl, hother, fun a ha hleft => absurd ⟨a, ha, hleft⟩ hwrites,
      fun _ => ⟨hself, rfl⟩⟩

/-- The same by the done word and by what is outstanding. -/
theorem takeReturnEnd_written {sel poison : Bool} {frame : BitVec 16} {lines completed : Nat} {b : ReturnBuffer}
    (h : s.rings.ret.bound = true ∧ poison = false) (hb : s.rings.ret.buffer sel = b)
    (hended : b.ended frame = { b with due := some (frame, lines), completed }) :
    let t := s.takeReturnEnd sel frame poison
    match s.rings.ret.doneWord with
    | some a =>
      if b.left = 0 then
        t.rings.ret.buffer sel = { b with due := none, completed } ∧
          t.path = { s.path with other := s.path.other ++ [s.doneWrite sel frame lines a] }
      else t.rings.ret.buffer sel = { b with due := some (frame, lines), completed } ∧ t.path = s.path
    | none => t.rings.ret.buffer sel = { b with due := some (frame, lines), completed } ∧ t.path = s.path := by
  obtain ⟨-, -, -, -, -, -, -, -, -, hwrites, hstays⟩ := takeReturnEnd_facts h hb hended
  cases hword : s.rings.ret.doneWord with
  | none => exact hstays (.inl hword)
  | some a =>
    dsimp only
    by_cases hleft : b.left = 0
    · rw [if_pos hleft]
      exact hwrites a hword hleft
    · rw [if_neg hleft]
      exact hstays (.inr hleft)

end returns

/-! ### The statement -/

/-- Settles O34: a message by the first row of its table, a piece by whether it is landed, a return end by what is
outstanding. -/
theorem cmsgAnsweredByTable : Obligations.CmsgAnsweredByTable := by
  refine ⟨fun r m q s hq => ?_, fun addr n => chunks_facts addr (le_refl n), fun p b s hb => ?_,
    fun sel poison frame b s hb => ?_, fun _ _ => rfl⟩
  · subst hq
    dsimp only
    by_cases hunfit : (s.rings.inbound[r]).state ≠ .active ∨ m.poison = true ∨ m.payload.length = 0 ∨
        992 < m.payload.length
    · obtain ⟨hring, hothers⟩ := answeredCmsg_facts r (.nak m.toggle) .cmsgNaks s
      rw [takeCmsg_of_unfit hunfit, if_pos hunfit]
      exact ⟨⟨rfl, rfl, rfl⟩, rfl, rfl, rfl, ⟨rfl, rfl, rfl, rfl⟩, rfl, rfl, hothers, rfl, hring, rfl⟩
    rw [takeCmsg_of_fits (fits_of_not hunfit), if_neg hunfit]
    by_cases hduplicate : m.sync = false ∧ (s.rings.inbound[r]).lastAccepted = some m.toggle
    · obtain ⟨hring, hothers⟩ := answeredCmsg_facts r (.ack m.toggle) .cmsgDuplicates s
      rw [if_pos hduplicate, if_pos hduplicate]
      exact ⟨⟨rfl, rfl, rfl⟩, rfl, rfl, rfl, ⟨rfl, rfl, rfl, rfl⟩, rfl, rfl, hothers, rfl, hring, rfl⟩
    rw [if_neg hduplicate, if_neg hduplicate]
    by_cases hlanding : (s.rings.inbound[r]).landing ≠ .idle
    · obtain ⟨hring, hothers⟩ := answeredCmsg_facts r (.nak m.toggle) .cmsgNaks s
      rw [if_neg hlanding] at hring
      rw [if_pos hlanding, if_pos hlanding]
      exact ⟨⟨rfl, rfl, rfl⟩, rfl, rfl, rfl, ⟨rfl, rfl, rfl, rfl⟩, rfl, rfl, hothers, rfl, hring, rfl⟩
    rw [if_neg hlanding, if_neg hlanding]
    by_cases hfull : (s.rings.inbound[r]).occupied = (s.rings.inbound[r]).count
    · obtain ⟨hring, hothers⟩ := answeredCmsg_facts r (.nak m.toggle) .cmsgNaks s
      rw [if_pos (not_not.1 hlanding)] at hring
      rw [if_pos hfull, if_pos hfull]
      exact ⟨⟨rfl, rfl, rfl⟩, rfl, rfl, rfl, ⟨rfl, rfl, rfl, rfl⟩, rfl, rfl, hothers, rfl, hring, rfl,
        count_counter_same _ _⟩
    rw [if_neg hfull, if_neg hfull, land_eq]
    have hring : (s.rings.inbound.set r ((s.rings.inbound[r]).taken s.rings.nextSerial m).flow)[r] =
        ((s.rings.inbound[r]).taken s.rings.nextSerial m).flow := by
      rw [getElem_set_slot, if_pos rfl]
    have hsame := hring.trans (flow_same _)
    obtain ⟨hhold, -⟩ := flow_of_free ((s.rings.inbound[r]).taken s.rings.nextSerial m)
    refine ⟨⟨rfl, rfl, rfl⟩, rfl, rfl, rfl, ⟨rfl, rfl, rfl, rfl⟩, rfl, rfl, fun q hq => ?_, ?_, rfl,
      (congrArg InRing.producer hsame).trans rfl, (congrArg InRing.lastAccepted hsame).trans rfl,
      (congrArg InRing.toSend hsame).trans rfl, (congrArg InRing.landing hsame).trans ?_,
      fun hfew => (congrArg InRing.holdRequested hring).trans (hhold hfew), rfl⟩
    · rw [count_rings, getElem_set_slot, if_neg hq.symm]
    · rw [count_path, landingWrites]
      simp only [List.append_assoc]
    · show Landing.inProgress _ (1 + splitCount _ _ + 1) _ = _
      rw [Nat.add_comm 1, splitCount]
  · subst hb
    dsimp only
    by_cases hlands : s.rings.ret.lands p = true
    · obtain ⟨hself, hother⟩ := updBuffer_buffer p.buffer
        (fun q => { q with
          left := q.left + (chunks p.payload.length (s.rings.ret.pieceAddr p) p.payload.length).length
          completed := q.completed + (if p.last then 1 else 0) }) s.rings.ret
      rw [if_pos ((lands_iff _ _).1 hlands), takePiece_of_lands hlands]
      exact ⟨⟨rfl, rfl, rfl⟩, rfl, rfl, rfl, ⟨rfl, rfl, rfl, rfl⟩, rfl, rfl, rfl, hself, hother, rfl⟩
    · rw [if_neg fun h => hlands ((lands_iff _ _).2 h), takePiece_of_not_lands (Bool.eq_false_iff.2 hlands)]
      exact ⟨⟨rfl, rfl, rfl⟩, rfl, rfl, rfl, ⟨rfl, rfl, rfl, rfl⟩, rfl, rfl, rfl, rfl, rfl⟩
  · dsimp only
    by_cases hbound : s.rings.ret.bound = true ∧ poison = false
    · rw [if_pos hbound]
      cases hdue : b.due with
      | none =>
        obtain ⟨hcapture, hsched, hlink, hmbox, hstraps, hout, hpending, hstatus, hother, -⟩ :=
          takeReturnEnd_facts hbound hb (ended_of_none hdue frame)
        exact ⟨hcapture, hsched, hlink, hmbox, hstraps, hout, hpending, hstatus, hother,
          takeReturnEnd_written hbound hb (ended_of_none hdue frame)⟩
      | some d =>
        obtain ⟨hcapture, hsched, hlink, hmbox, hstraps, hout, hpending, hstatus, hother, -⟩ :=
          takeReturnEnd_facts hbound hb (ended_of_some hdue frame)
        exact ⟨hcapture, hsched, hlink, hmbox, hstraps, hout, hpending, hstatus, hother,
          takeReturnEnd_written hbound hb (ended_of_some hdue frame)⟩
    · rw [if_neg hbound, takeReturnEnd_of_unbound frame hbound]
      exact ⟨⟨rfl, rfl, rfl⟩, rfl, rfl, rfl, rfl, rfl, rfl, rfl, rfl, rfl⟩

end Sys2Proof.Machine

/-!
The effect of a pending change, the end of a probe cycle and of a trial (O24, O29).
-/

namespace Sys2Proof.Machine

/-! ### The pending change takes effect (R139, R140) -/

section effect

variable {s : State} {echoed : Bool}

theorem rateEffect_eq {r : Rate} (hup : s.link.state = .up)
    (hchange : s.link.change = some { change := .rate r, effective := s.link.count, echoed }) :
    s.rateEffect =
      { s with
        link :=
          { s.link with
            rate := r, change := none
            cells := (effective s.link.splitF r, effective s.link.splitRt r) }
        status :=
          { s.status with
            events := s.status.events ||| Event.linkChange.mask
            counters := (s.count .rateStepDowns).status.counters } } := by
  unfold State.rateEffect
  simp only [hchange, hup, and_self, if_true]
  simp only [State.updLink, LinkUnit.enforce, LinkUnit.effectiveCells, hup]
  rfl

theorem endSetSplit_eq {tag : BitVec 8} (hrun : s.mbox.running = some { code := Command.setSplit.code, tag })
    (e : ErrorCode) :
    s.endSetSplit e =
      { s with
        path :=
          { s.path with other := s.path.other ++ finalWrites s Command.setSplit.code tag e s.splitData }
        mbox := { s.mbox with running := none } } :=
  finishIf_of_running hrun rfl e _

theorem splitEffect_of_echoed {f rt : Nat} {tag : BitVec 8} (hup : s.link.state = .up)
    (hchange : s.link.change = some { change := .split f rt, effective := s.link.count, echoed := true })
    (hrun : s.mbox.running = some { code := Command.setSplit.code, tag }) :
    s.splitEffect =
      { s with
        link :=
          { s.link with
            splitF := f, splitRt := rt, change := none
            cells := (effective f s.link.rate, effective rt s.link.rate) }
        status := (s.raise .linkChange).status
        path :=
          { s.path with
            other := s.path.other ++
              finalWrites s Command.setSplit.code tag .noError [numberWord (f + atBit 16 rt), s.countWord] }
        mbox := { s.mbox with running := none } } := by
  unfold State.splitEffect
  simp only [hchange, hup, and_self, if_true]
  refine (endSetSplit_eq (tag := tag) (by exact hrun) _).trans ?_
  simp only [State.updLink, LinkUnit.enforce, LinkUnit.effectiveCells, hup]
  rfl

theorem splitEffect_of_not_echoed {f rt : Nat} {tag : BitVec 8} (hup : s.link.state = .up)
    (hchange : s.link.change = some { change := .split f rt, effective := s.link.count, echoed := false })
    (hrun : s.mbox.running = some { code := Command.setSplit.code, tag }) :
    s.splitEffect =
      { s with
        link := { s.link with change := none }
        path :=
          { s.path with
            other := s.path.other ++ finalWrites s Command.setSplit.code tag .noAgreement s.splitData }
        mbox := { s.mbox with running := none } } := by
  unfold State.splitEffect
  simp only [hchange, hup, and_self, if_true, Bool.false_eq_true, if_false]
  refine (endSetSplit_eq (tag := tag) (by exact hrun) _).trans ?_
  simp only [State.updLink, hup]
  rfl

end effect

/-- Settles O24: a pending change takes effect at its effective count, by the closed forms of the two effects. -/
theorem pendingChangeTakesEffect : Obligations.PendingChangeTakesEffect := by
  unfold Obligations.PendingChangeTakesEffect
  refine ⟨fun r echoed s hup hchange => ?_, fun f rt echoed tag s hup hchange hrun => ?_, fun cells r => ?_⟩
  · obtain ⟨due, hnext⟩ := changeIn_eq_withDue ascending State.rateEffect s
    rw [rateEffect_eq hup hchange] at hnext
    exact ⟨_, hnext, rfl, rfl, rfl, ⟨rfl, rfl, rfl⟩, rfl, rfl, rfl, ⟨rfl, rfl, rfl, rfl⟩⟩
  · obtain ⟨due, hnext⟩ := changeIn_eq_withDue ascending State.splitEffect s
    cases echoed with
    | true =>
      rw [splitEffect_of_echoed hup hchange hrun] at hnext
      exact ⟨_, hnext, rfl, rfl, rfl, rfl, ⟨rfl, rfl, rfl⟩, rfl, rfl, ⟨rfl, rfl, rfl, rfl⟩⟩
    | false =>
      rw [splitEffect_of_not_echoed hup hchange hrun] at hnext
      exact ⟨_, hnext, rfl, rfl, rfl, rfl, ⟨rfl, rfl, rfl⟩, rfl, rfl, ⟨rfl, rfl, rfl, rfl⟩⟩
  · cases r with
    | full => exact Nat.mul_div_cancel cells (by decide)
    | threeQuarter => rfl
    | half => rfl
    | quarter => exact congrArg (· / 4) (Nat.mul_one cells)

/-! ### The ends of probe cycles and trials (R124, R126) -/

theorem endProbeCycle_of_full {s : State} (hstate : s.link.state = .probing) (hfull : 64 ≤ s.link.probeFrames) :
    s.endProbeCycle =
      s.updLink fun l => { l with probeFrames := 0, probeCycles := saturate16 (l.probeCycles + 1) } :=
  if_pos ⟨hstate, hfull⟩

theorem countBy_none (c : Counter) (s : State) : s.countBy c 0 = s :=
  congrArg (fun v => { s with status := { s.status with counters := v } }) (counted_zero _ c)

theorem trialVerdict_probing_iff (base own : Nat) (rate : Option Rate) :
    trialVerdict base own rate = .probing ↔ (1 < base ∨ 1 < own) ∧ (rate.getD .quarter).lower = none := by
  unfold trialVerdict
  split_ifs with hpass
  · simp only [false_iff]
    omega
  · cases hlower : (rate.getD .quarter).lower with
    | none => simp only [and_true, true_iff]; omega
    | some r => simp

theorem judgeTrial_eq (s : State) :
    s.judgeTrial =
      (s.countBy .trainingFailures
        (if trialVerdict s.link.trialBaseErrors s.link.trialOwnErrors s.link.trialRate = .probing then 1
         else 0)).updLink fun l =>
        { l with
          move := some (trialVerdict s.link.trialBaseErrors s.link.trialOwnErrors s.link.trialRate) } := by
  have hpasses : s.link.trialPasses = true ↔ s.link.trialBaseErrors ≤ 1 ∧ s.link.trialOwnErrors ≤ 1 := by
    unfold LinkUnit.trialPasses
    rw [Bool.and_eq_true]
    exact and_congr decide_eq_true_iff decide_eq_true_iff
  unfold State.judgeTrial trialVerdict
  by_cases hpass : s.link.trialBaseErrors ≤ 1 ∧ s.link.trialOwnErrors ≤ 1
  · simp only [hpasses.2 hpass, if_pos hpass, if_true, reduceCtorEq, if_false, countBy_none]
  · simp only [mt hpasses.1 hpass, if_neg hpass]
    cases hlower : (s.link.trialRate.getD .quarter).lower with
    | none => rfl
    | some r => simp only [reduceCtorEq, if_false, countBy_none]

theorem testTrial_of_ended {s : State} (hstate : s.link.state = .training) (hlast : s.link.trialFrame = 15)
    (htaken : s.link.returnTaken = true) (hmove : s.link.move = none) : s.testTrial = s.judgeTrial :=
  if_pos ⟨hstate, hlast, htaken, hmove⟩

/-- Settles O29: the end of a probe cycle, and the judgement of a trial. -/
theorem probeCycleAndTrialEnd : Obligations.ProbeCycleAndTrialEnd := by
  unfold Obligations.ProbeCycleAndTrialEnd
  refine ⟨fun s hstate hfull => ?_, fun s hstate hlast htaken hmove => ?_, fun n => ?_, rfl⟩
  · obtain ⟨due, hnext⟩ := changeIn_eq_withDue ascending State.endProbeCycle s
    rw [endProbeCycle_of_full hstate hfull] at hnext
    exact ⟨_, hnext, rfl, rfl, rfl, ⟨rfl, rfl, rfl⟩, rfl, rfl, rfl, ⟨rfl, rfl, rfl, rfl⟩⟩
  · obtain ⟨due, hnext⟩ := changeIn_eq_withDue ascending State.testTrial s
    rw [testTrial_of_ended hstate hlast htaken hmove, judgeTrial_eq] at hnext
    refine ⟨_, hnext, rfl, ?_, rfl, ⟨rfl, rfl, rfl⟩, rfl, rfl, rfl, ⟨rfl, rfl, rfl, rfl⟩⟩
    split
    · next hfails =>
      rw [if_pos ((trialVerdict_probing_iff _ _ _).2 hfails)]
      rfl
    · next hmoves =>
      rw [if_neg (mt (trialVerdict_probing_iff _ _ _).1 hmoves), countBy_none]
      rfl
  · unfold saturate16
    split <;> omega

end Sys2Proof.Machine

/-!
The link leaving UP: the sunk video queue, the end of a drain, the cancelled change (O30, O31).
-/

namespace Sys2Proof.Machine

/-! ### The video queue is sunk (R79) -/

/-- A slot after the sinking of a job (R44, R79). -/
theorem sink_slot (j : Job) (s : State) (i : Fin 4) :
    ((s.sink j).tracker.slots[i]).frame = (s.tracker.slots[i]).frame ∧
      ((s.sink j).tracker.slots[i]).unfinished =
        (s.tracker.slots[i]).unfinished -
          (if j.slot = i ∧ (s.tracker.slots[i]).frame = some j.frame then j.body.lines else 0) := by
  have hsink : (s.sink j).tracker = (s.finishLines j.frame j.slot j.body.lines).tracker := by
    unfold State.sink State.finishLines
    rfl
  rw [hsink]
  unfold State.finishLines
  rw [updTracker_tracker]
  by_cases hframe : (s.tracker.slots[j.slot]).frame = some j.frame
  · rw [if_pos hframe]
    by_cases hslot : j.slot = i
    · subst hslot
      rw [if_pos ⟨rfl, hframe⟩]
      dsimp only
      rw [getElem_set_slot, if_pos rfl]
      exact ⟨rfl, rfl⟩
    · rw [if_neg fun h => hslot h.1]
      dsimp only
      rw [getElem_set_slot, if_neg hslot]
      exact ⟨rfl, rfl⟩
  · have hne : ¬ (j.slot = i ∧ (s.tracker.slots[i]).frame = some j.frame) :=
      fun ⟨hslot, hsome⟩ => hframe (hslot ▸ hsome)
    rw [if_neg hframe, if_neg hne]
    exact ⟨rfl, rfl⟩

theorem sink_counter_jobsSunk (j : Job) (s : State) :
    (s.sink j).counter .jobsSunk = saturate (s.counter .jobsSunk) 1 :=
  (finishLines_counter _ (s.count .jobsSunk) j.frame j.slot j.body.lines).trans (count_counter_same .jobsSunk s)

theorem sink_counter {d : Counter} (h : Counter.jobsSunk.index ≠ d.index) (j : Job) (s : State) :
    (s.sink j).counter d = s.counter d := (finishLines_counter _ (s.count .jobsSunk) j.frame j.slot j.body.lines).trans (count_counter_ne h s)

/-- The lines of the frame in a slot that a list of jobs carries. -/
def linesOf (frame : Option FrameNumber) (i : Fin 4) (l : List Job) : Nat :=
  ((l.filter (fun j => decide (j.slot = i ∧ frame = some j.frame))).map (fun j => j.body.lines)).sum

theorem linesOf_cons (frame : Option FrameNumber) (i : Fin 4) (j : Job) (l : List Job) :
    linesOf frame i (j :: l) = (if j.slot = i ∧ frame = some j.frame then j.body.lines else 0) + linesOf frame i l := by
  unfold linesOf
  by_cases h : j.slot = i ∧ frame = some j.frame
  · simp only [List.filter_cons, h, decide_true, if_true, List.map_cons, List.sum_cons, and_self]
  · simp only [List.filter_cons, h, decide_false, if_false, Bool.false_eq_true, Nat.zero_add]

theorem foldl_sink_slot (l : List Job) (s : State) (i : Fin 4) :
    ((l.foldl (fun t j => t.sink j) s).tracker.slots[i]).frame = (s.tracker.slots[i]).frame ∧
      ((l.foldl (fun t j => t.sink j) s).tracker.slots[i]).unfinished =
        (s.tracker.slots[i]).unfinished - linesOf (s.tracker.slots[i]).frame i l := by
  induction l generalizing s with
  | nil => exact ⟨rfl, rfl⟩
  | cons j l ih =>
    obtain ⟨hframe, hlines⟩ := sink_slot j s i
    obtain ⟨hframes, hrest⟩ := ih (s.sink j)
    rw [List.foldl_cons, hframes, hrest, hframe, hlines, linesOf_cons, Nat.sub_sub]
    exact ⟨rfl, rfl⟩

theorem foldl_sink_jobsSunk (l : List Job) (s : State) :
    (l.foldl (fun t j => t.sink j) s).counter .jobsSunk = saturate (s.counter .jobsSunk) l.length := by
  induction l generalizing s with
  | nil => exact (saturate_zero _).symm
  | cons j l ih =>
    rw [List.foldl_cons, ih, sink_counter_jobsSunk, saturate_saturate, List.length_cons, Nat.add_comm]

theorem foldl_sink_counter {d : Counter} (h : Counter.jobsSunk.index ≠ d.index) (l : List Job) (s : State) :
    (l.foldl (fun t j => t.sink j) s).counter d = s.counter d := by
  induction l generalizing s with
  | nil => rfl
  | cons j l ih => rw [List.foldl_cons, ih, sink_counter h]

/-! ### The scheduler leaves UP (R73, R79, R93) -/

section sched

variable (s : State)

/-- The part once the queue is sunk and the session is gone, before the drain is tested. -/
def State.sessionSunk : State :=
  s.sinkAll.updSched fun c => { c with window := [], hold := Vector.replicate 5 0 }

theorem schedLeaveUp_eq : s.schedLeaveUp = s.sessionSunk.drainTest := rfl

theorem sessionSunk_sched :
    s.sessionSunk.sched = { s.sched with queue := [], window := [], hold := Vector.replicate 5 0 } := by
  have hsched : (s.sched.queue.foldl (fun t j => t.sink j) (s.updSched fun c => { c with queue := [] })).sched =
      { s.sched with queue := [] } := by simp
  unfold State.sessionSunk State.sinkAll
  rw [updSched_sched, hsched]

theorem sessionSunk_jobsSunk :
    s.sessionSunk.counter .jobsSunk = saturate (s.counter .jobsSunk) s.sched.queue.length :=
  foldl_sink_jobsSunk s.sched.queue (s.updSched fun c => { c with queue := [] })

theorem sessionSunk_counter {d : Counter} (h : Counter.jobsSunk.index ≠ d.index) :
    s.sessionSunk.counter d = s.counter d :=
  foldl_sink_counter h s.sched.queue (s.updSched fun c => { c with queue := [] })

theorem sessionSunk_slot (i : Fin 4) :
    (s.sessionSunk.tracker.slots[i]).frame = (s.tracker.slots[i]).frame ∧
      (s.sessionSunk.tracker.slots[i]).unfinished = (s.tracker.slots[i]).unfinished - s.queuedLines i :=
  foldl_sink_slot s.sched.queue (s.updSched fun c => { c with queue := [] }) i

/-- The end of the drain is tested on a part that holds no job. -/
theorem sessionSunk_drained_iff :
    (s.sessionSunk.tracker.stream.state = .draining ∧ s.sessionSunk.tracker.frames = [] ∧
        s.sessionSunk.sched.queue = []) ↔ s.drainsWithQueue := by
  have hsame : s.sessionSunk.tracker.stream = s.tracker.stream ∧ s.sessionSunk.tracker.frames = s.tracker.frames := by
    simp [State.sessionSunk]
  rw [hsame.1, hsame.2, sessionSunk_sched]
  simp [State.drainsWithQueue]

end sched

section drain

variable {s : State}

theorem schedLeaveUp_of_not_drains (h : ¬ s.drainsWithQueue) : s.schedLeaveUp = s.sessionSunk :=
  drainTest_of_not_drained (mt (sessionSunk_drained_iff s).1 h)

/-- The end of a drain while another command, or none, is RUNNING (R73). -/
theorem drainTest_of_not_running (hdrained : s.tracker.stream.state = .draining ∧ s.tracker.frames = [] ∧
      s.sched.queue = []) (hrun : s.isRunning .closeStream = false) :
    s.drainTest =
      (s.updTracker fun t =>
        { t with stream := Stream.closed, slots := t.slots.map (fun r => { r with unfinished := 0 }) }).raise
          .streamClosed := by
  unfold State.drainTest
  rw [if_pos hdrained]
  exact if_neg (Bool.eq_false_iff.1 hrun)

end drain

/-- What the scheduler's part of the leaving of UP does with the drain (R73, R79). -/
theorem schedLeaveUp_tracker (s : State) :
    (∀ i : Fin 4, (s.schedLeaveUp.tracker.slots[i]).frame = (s.tracker.slots[i]).frame) ∧
      (¬ s.drainsWithQueue → s.schedLeaveUp.tracker.stream = s.tracker.stream ∧
        ∀ i : Fin 4,
          (s.schedLeaveUp.tracker.slots[i]).unfinished = (s.tracker.slots[i]).unfinished - s.queuedLines i) ∧
      (s.drainsWithQueue → s.schedLeaveUp.tracker.stream = Stream.closed ∧
        s.schedLeaveUp.eventPending .streamClosed = true ∧
        ∀ i : Fin 4, (s.schedLeaveUp.tracker.slots[i]).unfinished = 0) := by
  by_cases hdrains : s.drainsWithQueue
  · obtain ⟨htracker, hclosed, -⟩ := drainTest_of_drained ((sessionSunk_drained_iff s).2 hdrains)
    have hslot (i : Fin 4) : s.schedLeaveUp.tracker.slots[i] = { s.sessionSunk.tracker.slots[i] with unfinished := 0 } := by
      rw [schedLeaveUp_eq, htracker]
      exact Vector.getElem_map _ _
    refine ⟨fun i => ?_, fun h => absurd hdrains h, fun _ => ⟨?_, hclosed, fun i => ?_⟩⟩
    · rw [hslot]
      exact (sessionSunk_slot s i).1
    · rw [schedLeaveUp_eq, htracker]
    · rw [hslot]
  · rw [schedLeaveUp_of_not_drains hdrains]
    refine ⟨fun i => (sessionSunk_slot s i).1, fun _ => ⟨?_, fun i => (sessionSunk_slot s i).2⟩, fun h => absurd h hdrains⟩
    simp [State.sessionSunk]

theorem schedLeaveUp_sched (s : State) :
    s.schedLeaveUp.sched = { s.sched with queue := [], window := [], hold := Vector.replicate 5 0 } := by
  rw [schedLeaveUp_eq, (drainTest_frame _).2.1.1, sessionSunk_sched]

/-- What the scheduler's part of the leaving of UP does with the RUNNING command (R73). -/
theorem schedLeaveUp_running (s : State) :
    (¬ s.drainsWithQueue ∨ s.isRunning .closeStream = false →
      s.schedLeaveUp.mbox = s.mbox ∧ s.schedLeaveUp.path = s.path) ∧
      (∀ tag, s.drainsWithQueue → s.mbox.running = some { code := Command.closeStream.code, tag } →
        CommandEnds .closeStream tag .noError [s.countWord] s s.schedLeaveUp) := by
  have hsunk : s.sessionSunk.mbox = s.mbox ∧ s.sessionSunk.path = s.path ∧ s.sessionSunk.straps = s.straps ∧
      s.sessionSunk.link = s.link := by simp [State.sessionSunk]
  obtain ⟨hmbox, hpath, hstraps, hlink⟩ := hsunk
  refine ⟨fun h => ?_, fun tag hdrains hrun => ?_⟩
  · by_cases hdrains : s.drainsWithQueue
    · have hidle : s.sessionSunk.isRunning .closeStream = false := by
        rw [State.isRunning, hmbox]
        exact h.resolve_left (not_not.2 hdrains)
      rw [schedLeaveUp_eq, drainTest_of_not_running ((sessionSunk_drained_iff s).2 hdrains) hidle]
      exact ⟨hmbox, hpath⟩
    · rw [schedLeaveUp_of_not_drains hdrains]
      exact ⟨hmbox, hpath⟩
  · have hcloses := drainTest_closes (tag := tag) ((sessionSunk_drained_iff s).2 hdrains) (hmbox ▸ hrun)
    have hwrites : finalWrites s.sessionSunk Command.closeStream.code tag .noError [s.sessionSunk.countWord] =
        finalWrites s Command.closeStream.code tag .noError [s.countWord] := by
      simp [finalWrites, resultDataWrite, resultWordWrite, State.countWord, hstraps, hlink]
    rw [schedLeaveUp_eq, hcloses]
    unfold CommandEnds
    rw [← hwrites, ← hmbox, ← hpath]
    exact ⟨rfl, rfl⟩

theorem schedLeaveUp_jobsSunk (s : State) :
    s.schedLeaveUp.counter .jobsSunk = saturate (s.counter .jobsSunk) s.sched.queue.length :=
  (drainTest_counter _ _).trans (sessionSunk_jobsSunk s)

theorem schedLeaveUp_counter {d : Counter} (h : Counter.jobsSunk.index ≠ d.index) (s : State) :
    s.schedLeaveUp.counter d = s.counter d := (drainTest_counter _ _).trans (sessionSunk_counter s h)

/-! ### The pending change is cancelled (R133) -/

section cancel

variable {s : State}

/-- A change that is not a SPLIT change of a RUNNING SET SPLIT goes without a trace (R133). -/
theorem cancelChange_of_quiet (h : s.link.splitPending = false ∨ s.isRunning .setSplit = false) :
    s.cancelChange = s.updLink fun l => { l with change := none } := by
  unfold State.cancelChange
  unfold LinkUnit.splitPending at h
  cases hchange : s.link.change with
  | none =>
    show s = { s with link := { s.link with change := none } }
    rw [← hchange]
  | some c =>
    rw [hchange] at h
    dsimp only at h ⊢
    cases hc : c.change with
    | rate r => rfl
    | split f rt =>
      rw [hc] at h
      exact if_neg (Bool.eq_false_iff.1 (h.resolve_left Bool.noConfusion))

/-- A SPLIT change ends its SET SPLIT with NO_AGREEMENT (R133). -/
theorem cancelChange_of_split {tag : BitVec 8} (hsplit : s.link.splitPending = true)
    (hrun : s.mbox.running = some { code := Command.setSplit.code, tag }) :
    s.cancelChange =
      { s with
        link := { s.link with change := none }
        path :=
          { s.path with
            other := s.path.other ++ finalWrites s Command.setSplit.code tag .noAgreement s.splitData }
        mbox := { s.mbox with running := none } } := by
  unfold State.cancelChange
  unfold LinkUnit.splitPending at hsplit
  cases hchange : s.link.change with
  | none => simp [hchange] at hsplit
  | some c =>
    rw [hchange] at hsplit
    dsimp only at hsplit ⊢
    cases hc : c.change with
    | rate r => simp [hc] at hsplit
    | split f rt =>
      dsimp only
      exact endSetSplit_eq (s := s.updLink fun l => { l with change := none }) hrun .noAgreement

end cancel

/-! ### The rings leave UP (R108, R115, R133) -/

theorem outRing_leaveUp (o : OutRing) :
    (o.state = .unbound → o.leaveUp = o) ∧
      (o.state ≠ .unbound → o.kind = .plain → o.leaveUp = { o with head := o.head.unsent }) ∧
      (o.state ≠ .unbound → o.kind = .reliable →
        o.leaveUp = { o with head := o.head.unsent, toggle := false, syncNeeded := true }) := by
  refine ⟨fun h => ?_, fun hbound hkind => ?_, fun hbound hkind => ?_⟩
  · simp only [OutRing.leaveUp, h]
  · cases hstate : o.state with
    | unbound => exact absurd hstate hbound
    | active | halted => cases hhead : o.head <;> simp only [OutRing.leaveUp, hstate, hkind, hhead, HeadRecord.unsent]
  · cases hstate : o.state with
    | unbound => exact absurd hstate hbound
    | active | halted => cases hhead : o.head <;> simp only [OutRing.leaveUp, hstate, hkind, hhead, HeadRecord.unsent]

theorem inRing_leaveUp (q : InRing) :
    q.leaveUp =
      { q with
        lastAccepted := none, toSend := .none, releaseDue := false, landing := q.landing.unanswered } := by
  unfold InRing.leaveUp
  cases q.landing <;> rfl

end Sys2Proof.Machine

/-!
The link leaves UP, by a loss and by DISABLE and RETRAIN, and the judgement of a block (O30, O31).
-/

namespace Sys2Proof.Machine

/-! ### What the leaving of UP reads and writes -/

/-- The parts that the leaving of UP is a matter of, outside the link unit. -/
def SameSession (s t : State) : Prop :=
  t.sched = s.sched ∧ t.tracker = s.tracker ∧ t.rings = s.rings ∧ t.map = s.map ∧ t.stitch = s.stitch ∧
    t.free = s.free ∧ t.counter .jobsSunk = s.counter .jobsSunk

theorem LeftUp.of_source {s s' t : State} (h : LeftUp s t) (hs : SameSession s' s) : LeftUp s' t := by
  obtain ⟨hsched, htracker, hrings, hmap, hstitch, hfree, hsunk⟩ := hs
  unfold LeftUp State.drainsWithQueue State.queuedLines at h ⊢
  rw [hsched, htracker, hrings, hmap, hstitch, hfree, hsunk] at h
  exact h

theorem LeftUp.to_target {s t t' : State} (h : LeftUp s t) (ht : SameSession t t')
    (hclosed : t.eventPending .streamClosed = true → t'.eventPending .streamClosed = true) : LeftUp s t' := by
  obtain ⟨hsched, htracker, hrings, hmap, hstitch, hfree, hsunk⟩ := ht
  unfold LeftUp at h ⊢
  rw [hsched, htracker, hrings, hmap, hstitch, hfree, hsunk]
  obtain ⟨h1, h2, h3, h4, h5, h6, hdrains, hrest⟩ := h
  exact ⟨h1, h2, h3, h4, h5, h6,
    fun hd => ⟨(hdrains hd).1, hclosed (hdrains hd).2.1, (hdrains hd).2.2⟩, hrest⟩

/-- The scheduler's and the rings' parts of the leaving of UP (R73, R79, R93, R108, R115, R133). -/
theorem leftUp_session (s : State) : LeftUp s s.schedLeaveUp.ringsLeaveUp := by
  obtain ⟨hframe, hquiet, hdrains⟩ := schedLeaveUp_tracker s
  obtain ⟨⟨-, -, hfree, -⟩, -, -, -, -, hmap, hframes, hnewest, hstitch, hrings, -⟩ := schedLeaveUp_frame s
  have hout (r : Fin 4) :
      s.schedLeaveUp.ringsLeaveUp.rings.outbound[r] = (s.rings.outbound[r]).leaveUp := by
    rw [← hrings]
    exact Vector.getElem_map _ _
  have hin (r : Fin 2) :
      s.schedLeaveUp.ringsLeaveUp.rings.inbound[r] = (s.rings.inbound[r]).leaveUp := by
    rw [← hrings]
    exact Vector.getElem_map _ _
  have hret : s.schedLeaveUp.rings.ret = s.rings.ret := congrArg RingUnit.ret hrings
  refine ⟨schedLeaveUp_sched s, schedLeaveUp_jobsSunk s, hframes, hnewest, hframe, hquiet, hdrains, fun r => ?_,
    fun r => (hin r).trans (inRing_leaveUp _), hret, hmap, hstitch, hfree⟩
  dsimp only
  rw [hout]
  exact outRing_leaveUp _

section leaving

variable {s : State}

theorem cancelChange_link (s : State) : s.cancelChange.link = { s.link with change := none } := by
  unfold State.cancelChange
  cases hchange : s.link.change with
  | none =>
    dsimp only
    rw [← hchange]
  | some c =>
    dsimp only
    cases c.change with
    | rate r => rfl
    | split f rt => exact (endSetSplit_frame _ _).2.2.1.2.2

/-- The part once the change is cancelled and the monitor reset (R133). -/
def State.settled (s : State) : State :=
  s.cancelChange.updLink fun l => { l with monitorFrames := 0, monitorErrors := 0 }

theorem leaveUp_of_up (hup : s.link.state = .up) : s.leaveUp = s.settled.schedLeaveUp.ringsLeaveUp := if_pos hup

theorem settled_session (s : State) : SameSession s s.settled := by
  obtain ⟨⟨-, -, hfree, -⟩, ⟨hmap, htracker, hstitch⟩, -, -, -, hsched, hrings, hstatus⟩ := cancelChange_frame s
  exact ⟨hsched, htracker, hrings, hmap, hstitch, hfree, congrArg (fun u : StatusUnit => u.counters[Counter.jobsSunk.index]) hstatus⟩

theorem leftUp_leaveUp (hup : s.link.state = .up) : LeftUp s s.leaveUp := by
  rw [leaveUp_of_up hup]
  exact (leftUp_session s.settled).of_source (settled_session s)

theorem leaveUp_link (hup : s.link.state = .up) :
    s.leaveUp.link = { s.link with change := none, monitorFrames := 0, monitorErrors := 0 } := by
  rw [leaveUp_of_up hup]
  show s.settled.schedLeaveUp.link = _
  obtain ⟨-, -, -, -, -, -, -, -, -, -, hlink⟩ := schedLeaveUp_frame s.settled
  rw [hlink]
  exact congrArg (fun l : LinkUnit => { l with monitorFrames := 0, monitorErrors := 0 }) (cancelChange_link s)

theorem leaveUp_counter {d : Counter} (h : Counter.jobsSunk.index ≠ d.index) (s : State) :
    s.leaveUp.counter d = s.counter d := by
  unfold State.leaveUp
  split
  · obtain ⟨-, -, -, -, -, -, -, hstatus⟩ := cancelChange_frame s
    exact (schedLeaveUp_counter h s.settled).trans (congrArg (fun u : StatusUnit => u.counters[d.index]) hstatus)
  · rfl

/-- What the leaving of UP does with the RUNNING command (R73, R133). -/
theorem leaveUp_running (hup : s.link.state = .up) :
    (∀ tag, s.link.splitPending = true → s.mbox.running = some { code := Command.setSplit.code, tag } →
      CommandEnds .setSplit tag .noAgreement s.splitData s s.leaveUp) ∧
    (∀ tag, s.drainsWithQueue → s.mbox.running = some { code := Command.closeStream.code, tag } →
      CommandEnds .closeStream tag .noError [s.countWord] s s.leaveUp) ∧
    ((s.link.splitPending = false ∨ s.isRunning .setSplit = false) →
      (¬ s.drainsWithQueue ∨ s.isRunning .closeStream = false) →
      s.leaveUp.mbox = s.mbox ∧ s.leaveUp.path = s.path) := by
  have hdrains : s.settled.drainsWithQueue ↔ s.drainsWithQueue := by
    unfold State.drainsWithQueue
    rw [(settled_session s).2.1]
  obtain ⟨hkeeps, hcloses⟩ := schedLeaveUp_running s.settled
  rw [leaveUp_of_up hup]
  refine ⟨fun tag hsplit hrun => ?_, fun tag hd hrun => ?_, fun hsplit hd => ?_⟩
  · have hcancel := cancelChange_of_split hsplit hrun
    have hmbox : s.settled.mbox = { s.mbox with running := none } := by
      unfold State.settled
      rw [hcancel]
      rfl
    have hpath : s.settled.path =
        { s.path with
          other := s.path.other ++ finalWrites s Command.setSplit.code tag .noAgreement s.splitData } := by
      unfold State.settled
      rw [hcancel]
      rfl
    have hidle : s.settled.isRunning .closeStream = false := by
      unfold State.isRunning
      rw [hmbox]
    obtain ⟨hmboxKept, hpathKept⟩ := hkeeps (.inr hidle)
    exact ⟨hmboxKept.trans hmbox, hpathKept.trans hpath⟩
  · have hidle : s.isRunning .setSplit = false := by
      unfold State.isRunning
      rw [hrun]
      rfl
    have hends := hcloses tag (hdrains.2 hd)
    unfold State.settled at hends ⊢
    rw [cancelChange_of_quiet (.inr hidle)] at hends ⊢
    exact hends hrun
  · have hends := hkeeps
    unfold State.settled at hends ⊢
    rw [cancelChange_of_quiet hsplit] at hends ⊢
    exact hends hd

end leaving

/-! ### Entering PROBING and DOWN -/

theorem enterProbing_eq (s : State) :
    s.enterProbing =
      { s.leaveUp with
        link := { s.leaveUp.link.noTrial with state := .probing, probeFrames := 0, probeCycles := 0, lossRun := 0 }
        status := s.leaveUp.linkStatus .probing } := by
  unfold State.enterProbing
  rw [setLink_eq]
  rfl

theorem enterDown_eq (s : State) :
    s.enterDown =
      { s.leaveUp with
        link := { s.leaveUp.link.noTrial with state := .down }
        status := s.leaveUp.linkStatus .down } := by
  unfold State.enterDown
  rw [setLink_eq]
  rfl

/-! ### A loss (R131) -/

theorem linkLost_of_up {s : State} (hup : s.link.state = .up) : LinkLost s s.lose := by
  have hup' : (s.count .linkLosses).link.state = .up := hup
  have hlink := leaveUp_link hup'
  have hne : (s.count .linkLosses).leaveUp.link.state ≠ .probing := by
    rw [hlink]
    show s.link.state ≠ .probing
    rw [hup]
    decide
  obtain ⟨hsplit, hcloses, hquiet⟩ := leaveUp_running hup'
  have hleft : LeftUp s (s.count .linkLosses).leaveUp :=
    (leftUp_leaveUp hup').of_source ⟨rfl, rfl, rfl, rfl, rfl, rfl, count_counter_ne (by decide) s⟩
  have hlosses : (s.count .linkLosses).leaveUp.counter .linkLosses = saturate (s.counter .linkLosses) 1 :=
    (leaveUp_counter (by decide) _).trans (count_counter_same _ s)
  have hfailures : (s.count .linkLosses).leaveUp.counter .trainingFailures = s.counter .trainingFailures :=
    (leaveUp_counter (by decide) _).trans (count_counter_ne (by decide) s)
  have houtside : SameOutside s (s.count .linkLosses).leaveUp := (leaveUp_frame _).1
  unfold State.lose
  rw [enterProbing_eq, linkStatus_of_ne hne]
  generalize (s.count .linkLosses).leaveUp = u at *
  have htarget : LeftUp s (u.raise .linkChange) :=
    hleft.to_target ⟨rfl, rfl, rfl, rfl, rfl, rfl, rfl⟩ eventPending_raise
  rw [hlink]
  exact ⟨rfl, rfl, rfl, rfl, rfl, rfl, rfl, rfl, rfl, rfl, rfl, rfl, hlosses, hfailures, raise_eventPending .linkChange u,
    fun _ => ⟨rfl, rfl, rfl, htarget, hsplit, hcloses, fun h hd => hquiet (.inl h) (.inl hd)⟩,
    fun htraining => absurd (hup.symm.trans htraining) (by decide), houtside⟩

theorem linkLost_of_training {s : State} (htraining : s.link.state = .training) : LinkLost s s.lose := by
  have hup : (s.count .linkLosses).link.state ≠ .up := by
    show s.link.state ≠ .up
    rw [htraining]
    decide
  have hne : (s.count .linkLosses).link.state ≠ .probing := by
    show s.link.state ≠ .probing
    rw [htraining]
    decide
  unfold State.lose
  rw [enterProbing_of_not_up hup, linkStatus_of_ne hne]
  exact ⟨rfl, rfl, rfl, rfl, rfl, rfl, rfl, rfl, rfl, rfl, rfl, rfl, count_counter_same .linkLosses s,
    count_counter_ne (by decide) s, raise_eventPending .linkChange (s.count .linkLosses),
    fun h => absurd h hup, fun _ => ⟨⟨rfl, rfl, rfl⟩, rfl, rfl, rfl, rfl⟩, ⟨rfl, rfl, rfl, rfl⟩⟩

theorem linkLost_lose {s : State} (h : s.link.state = .up ∨ s.link.state = .training) : LinkLost s s.lose :=
  h.elim linkLost_of_up linkLost_of_training

/-- The due list is no part of a loss (R162). -/
theorem LinkLost.withDue {s t : State} (h : LinkLost s t) (due : List (Fin 32)) : LinkLost s (t.withDue due) := h

theorem lose_capture (s : State) : s.lose.map = s.map ∧ s.lose.stitch = s.stitch := by
  simp

theorem testLoss_of_lost {s : State} (h : s.link.state = .up ∨ s.link.state = .training) (hrun : 8 ≤ s.link.lossRun) :
    s.testLoss = s.lose := if_pos ⟨h.symm, hrun⟩

/-! ### The judgement of a block (R136, R139) -/

section block

variable {s : State}

/-- The rate that a block of these errors steps down to, none below 8 errors or at QUARTER (R136, R139). -/
def stepTarget (rate : Rate) (errors : Nat) : Option Rate := if 8 ≤ errors then rate.lower else none

/-- The RATE change of a step-down, at its effective count (R137, R139). -/
def rateChangeAt (count : FrameCount) (r : Rate) : PendingChange :=
  { change := .rate r, effective := count + 8, echoed := false }

theorem stepDownChange_eq (rate : Rate) (errors : Nat) (count : FrameCount) :
    stepDownChange rate errors count = (stepTarget rate errors).map (rateChangeAt count) := by
  unfold stepDownChange stepTarget
  by_cases herrors : 8 ≤ errors
  · rw [if_pos herrors]
    cases rate.lower with
    | none => rfl
    | some r => exact if_pos herrors
  · rw [if_neg herrors]
    cases rate.lower with
    | none => rfl
    | some r => exact if_neg herrors

/-- A step-down to a rate, where there is one to step down to. -/
def State.stepDownTo (r : Option Rate) (s : State) : State := r.elim s s.stepDown

theorem judgeBlock_eq (s : State) :
    s.judgeBlock =
      (s.stepDownTo (stepTarget s.link.rate s.link.monitorErrors)).updLink fun l =>
        { l with monitorFrames := 0, monitorErrors := 0 } := by
  unfold State.judgeBlock stepTarget
  by_cases herrors : 8 ≤ s.link.monitorErrors
  · rw [if_pos herrors]
    cases hlower : s.link.rate.lower with
    | none => simp only [hlower]; rfl
    | some r => simp only [hlower, Config.monitorLimit, herrors, if_true]; rfl
  · rw [if_neg herrors]
    cases hlower : s.link.rate.lower with
    | none => simp only [hlower]; rfl
    | some r => simp only [hlower, Config.monitorLimit, herrors, if_false]; rfl

theorem stepDown_of_none (h : s.link.change = none) (r : Rate) : s.stepDown r = s.createChange (.rate r) := by
  unfold State.stepDown
  rw [h]

theorem stepDown_of_rate {c : PendingChange} {r' : Rate} (h : s.link.change = some c) (hc : c.change = .rate r')
    (r : Rate) : s.stepDown r = s := by
  unfold State.stepDown
  simp only [h, hc]

theorem stepDown_of_split {c : PendingChange} {f rt : Nat} (h : s.link.change = some c) (hc : c.change = .split f rt)
    (r : Rate) :
    s.stepDown r = ((s.updLink fun l => { l with change := none }).endSetSplit .superseded).createChange (.rate r) := by
  unfold State.stepDown
  simp only [h, hc]

theorem blockChange_of_none {l : LinkUnit} (h : l.change = none) (errors : Nat) :
    blockChange l errors = stepDownChange l.rate errors l.count := by
  unfold blockChange
  rw [h]

theorem blockChange_of_rate {l : LinkUnit} {c : PendingChange} {r : Rate} (h : l.change = some c)
    (hc : c.change = .rate r) (errors : Nat) : blockChange l errors = l.change := by
  unfold blockChange
  rw [h]
  simp only [hc]

theorem blockChange_of_split {l : LinkUnit} {c : PendingChange} {f rt : Nat} (h : l.change = some c)
    (hc : c.change = .split f rt) (errors : Nat) :
    blockChange l errors = (stepDownChange l.rate errors l.count).or l.change := by
  unfold blockChange
  rw [h]
  cases hstep : stepDownChange l.rate errors l.count <;> simp [hc]

theorem splitPending_eq_true_iff (l : LinkUnit) :
    l.splitPending = true ↔ ∃ c f rt, l.change = some c ∧ c.change = .split f rt := by
  unfold LinkUnit.splitPending
  cases l.change with
  | none => simp
  | some c => cases hc : c.change <;> simp [hc]

/-- A block whose judgement steps nothing down keeps the pending change (R136). -/
theorem judgeBlock_keeps (hstep : s.stepDownTo (stepTarget s.link.rate s.link.monitorErrors) = s)
    (hchange : blockChange s.link s.link.monitorErrors = s.link.change) :
    s.judgeBlock =
      s.updLink fun l =>
        { l with monitorFrames := 0, monitorErrors := 0, change := blockChange s.link s.link.monitorErrors } := by
  rw [judgeBlock_eq, hstep, hchange]
  rfl

/-- A block whose judgement supersedes no SPLIT change is a matter of the link unit (R136). -/
theorem judgeBlock_of_quiet
    (h : ¬ (s.link.splitPending = true ∧
      (stepDownChange s.link.rate s.link.monitorErrors s.link.count).isSome = true)) :
    s.judgeBlock =
      s.updLink fun l =>
        { l with monitorFrames := 0, monitorErrors := 0, change := blockChange s.link s.link.monitorErrors } := by
  have hsplit := splitPending_eq_true_iff s.link
  have hdown := stepDownChange_eq s.link.rate s.link.monitorErrors s.link.count
  cases htarget : stepTarget s.link.rate s.link.monitorErrors with
  | none =>
    rw [htarget] at hdown
    refine judgeBlock_keeps (by rw [htarget]; rfl) ?_
    cases hchange : s.link.change with
    | none => rw [blockChange_of_none hchange, hdown]; rfl
    | some c =>
      cases hc : c.change with
      | rate r => rw [blockChange_of_rate hchange hc, hchange]
      | split f rt => rw [blockChange_of_split hchange hc, hdown, hchange]; rfl
  | some r =>
    cases hchange : s.link.change with
    | none =>
      rw [judgeBlock_eq, blockChange_of_none hchange, hdown, htarget]
      show (s.stepDown r).updLink _ = _
      rw [stepDown_of_none hchange]
      rfl
    | some c =>
      cases hc : c.change with
      | rate r' =>
        refine judgeBlock_keeps ?_ (blockChange_of_rate hchange hc _)
        rw [htarget]
        exact stepDown_of_rate hchange hc r
      | split f rt =>
        rw [htarget] at hdown
        exact absurd ⟨hsplit.2 ⟨c, f, rt, hchange, hc⟩, by rw [hdown]; rfl⟩ h

/-- A block that supersedes the SPLIT change of the RUNNING SET SPLIT ends it (R139). -/
theorem judgeBlock_of_superseded {tag : BitVec 8} (hsplit : s.link.splitPending = true)
    (hstep : (stepDownChange s.link.rate s.link.monitorErrors s.link.count).isSome = true)
    (hrun : s.mbox.running = some { code := Command.setSplit.code, tag }) :
    s.judgeBlock =
      { s with
        link :=
          { s.link with
            monitorFrames := 0, monitorErrors := 0, change := blockChange s.link s.link.monitorErrors }
        path :=
          { s.path with
            other := s.path.other ++ finalWrites s Command.setSplit.code tag .superseded s.splitData }
        mbox := { s.mbox with running := none } } := by
  obtain ⟨c, f, rt, hchange, hc⟩ := (splitPending_eq_true_iff s.link).1 hsplit
  have hdown := stepDownChange_eq s.link.rate s.link.monitorErrors s.link.count
  cases htarget : stepTarget s.link.rate s.link.monitorErrors with
  | none =>
    rw [hdown, htarget] at hstep
    cases hstep
  | some r =>
    rw [judgeBlock_eq, blockChange_of_split hchange hc, hdown, htarget]
    show (s.stepDown r).updLink _ = _
    rw [stepDown_of_split hchange hc,
      endSetSplit_eq (s := s.updLink fun l => { l with change := none }) (tag := tag) hrun]
    rfl

theorem testBlock_of_full (hup : s.link.state = .up) (hfull : 256 ≤ s.link.monitorFrames) :
    s.testBlock = s.judgeBlock := if_pos ⟨hup, hfull⟩

end block

/-- Settles O30: the judgement of a block with no change pending, and a loss from UP and from TRAINING. -/
theorem blockJudgementAndLoss : Obligations.BlockJudgementAndLoss := by
  unfold Obligations.BlockJudgementAndLoss
  refine ⟨fun s hup hfull hchange => ?_, fun s hstate hrun => ?_⟩
  · obtain ⟨due, hnext⟩ := changeIn_eq_withDue ascending State.testBlock s
    have hquiet : s.link.splitPending = false := splitPending_of_none hchange
    rw [testBlock_of_full hup hfull, judgeBlock_of_quiet (fun h => by simp [hquiet] at h),
      blockChange_of_none hchange] at hnext
    exact ⟨_, hnext, rfl, rfl, rfl, ⟨rfl, rfl, rfl⟩, rfl, rfl, rfl, ⟨rfl, rfl, rfl, rfl⟩⟩
  · obtain ⟨due, hnext⟩ := changeIn_eq_withDue linkOrder State.testLoss s
    rw [testLoss_of_lost hstate hrun] at hnext
    exact ⟨_, hnext, (linkLost_lose hstate).withDue due, lose_capture s⟩

/-! ### Leaving UP by a command (R129, R130) -/

section command

variable {s : State}

/-- The facts about the rings of a session in the words of the rings' protocol (R108, R115). -/
theorem LeftUp.rings {t : State} (h : LeftUp s t) :
    (∀ r : Fin 4, (s.rings.outbound[r]).state ≠ .unbound → (s.rings.outbound[r]).kind = .reliable →
      (t.rings.outbound[r]).toggle = false ∧ (t.rings.outbound[r]).syncNeeded = true ∧
        (t.rings.outbound[r]).sendCount = (s.rings.outbound[r]).sendCount ∧
        ∀ sr, (s.rings.outbound[r]).head = .inFlight sr → (t.rings.outbound[r]).head = .ready sr) ∧
    (∀ r : Fin 2, (t.rings.inbound[r]).lastAccepted = none ∧ (t.rings.inbound[r]).toSend = .none ∧
      (t.rings.inbound[r]).releaseDue = false ∧
      (t.rings.inbound[r]).holdRequested = (s.rings.inbound[r]).holdRequested ∧
      (t.rings.inbound[r]).producer = (s.rings.inbound[r]).producer) := by
  obtain ⟨-, -, -, -, -, -, -, hout, hin, -⟩ := h
  refine ⟨fun r hbound hkind => ?_, fun r => ?_⟩
  · rw [(hout r).2.2 hbound hkind]
    refine ⟨rfl, rfl, rfl, fun sr hsr => ?_⟩
    rw [hsr]
    rfl
  · rw [hin r]
    exact ⟨rfl, rfl, rfl, rfl, rfl⟩

/-- What a LINK CONTROL that leaves UP does with the link unit, but for its state: the session's counts and trial go
(R124, R127). -/
def LinkUnit.Left (st : LinkState) (l l' : LinkUnit) : Prop :=
  l'.state = st ∧ l'.change = l.change ∧ l'.monitorFrames = l.monitorFrames ∧ l'.monitorErrors = l.monitorErrors ∧
    LinkUnit.SameButSession l l'

theorem left_down (l : LinkUnit) : LinkUnit.Left .down l { l.noTrial with state := .down } := by
  unfold LinkUnit.Left LinkUnit.noTrial
  and_intros <;> rfl

theorem left_probing (l : LinkUnit) :
    LinkUnit.Left .probing l
      { l.noTrial with state := .probing, probeFrames := 0, probeCycles := 0, lossRun := 0 } := by
  unfold LinkUnit.Left LinkUnit.noTrial
  and_intros <;> rfl

/-- A LINK CONTROL that leaves UP, `v` being the part that its effect leaves UP from (R129, R130). -/
theorem changeIn_launch_leavesUp {count : BitVec 4} {tag : BitVec 8} {v : State} {st : LinkState} {l : LinkUnit}
    {data : List Word} (hacc : s.Accepts .linkControl count) (hup : s.link.state = .up)
    (hsession : SameSession s v) (hlink : v.link = { s.link with enabled := v.link.enabled })
    (hmbox : v.mbox = s.mbox.staled (some { code := Command.linkControl.code, tag })) (hstraps : v.straps = s.straps)
    (hst : st ≠ .up) (hleft : LinkUnit.Left st v.leaveUp.link l)
    (heff : Command.linkControl.effect s.mbox.params (s.begun .linkControl tag) =
      ({ v.leaveUp with link := l, status := v.leaveUp.linkStatus st }, some data)) :
    ∃ t, changeIn linkOrder (State.launch Command.linkControl.code count tag) s = .next t ∧
      t.link.state = st ∧ t.link.enabled = v.link.enabled ∧ t.eventPending .linkChange = true ∧
      t.link.change = none ∧ t.link.monitorFrames = 0 ∧ t.link.monitorErrors = 0 ∧
      t.link.rate = s.link.rate ∧ t.link.splitF = s.link.splitF ∧ t.link.splitRt = s.link.splitRt ∧
      t.link.dropRepeat = s.link.dropRepeat ∧ t.link.cells = s.link.cells ∧ LeftUp s t := by
  have hupv : v.link.state = .up := by
    rw [hlink]
    exact hup
  have hidle (c : Command) (hc : c ≠ .linkControl) : v.isRunning c = false := by
    rw [Bool.eq_false_iff, ne_eq, isRunning_iff, hmbox]
    rintro ⟨r, hr, hcode⟩
    cases hr
    exact hc (code_injective hcode.symm)
  obtain ⟨-, -, hkeeps⟩ := leaveUp_running hupv
  obtain ⟨hmboxKept, -⟩ := hkeeps (.inr (hidle .setSplit (by decide))) (.inr (hidle .closeStream (by decide)))
  have hsessionLeft : LeftUp s v.leaveUp := (leftUp_leaveUp hupv).of_source hsession
  have hlinkLeft := leaveUp_link hupv
  have hstrapsKept : v.leaveUp.straps = v.straps := (leaveUp_frame v).1.1
  generalize v.leaveUp = u at *
  have hne : u.link.state ≠ st := by
    rw [hlinkLeft]
    show v.link.state ≠ st
    rw [hupv]
    exact hst.symm
  rw [linkStatus_of_ne hne] at heff
  obtain ⟨due, hnext⟩ := changeIn_launch_completes tag linkOrder hacc (by decide) heff (hmboxKept.trans hmbox)
    (hstrapsKept.trans hstraps)
  obtain ⟨hstate, hchange, hframes, herrors, hsame⟩ := hleft
  rw [hlinkLeft, hlink] at hchange hframes herrors hsame
  obtain ⟨henabled, -, hrate, hsplitF, hsplitRt, -, -, -, hrepeat, -, -, hcells⟩ := hsame
  exact ⟨_, hnext, hstate, henabled, raise_eventPending .linkChange u, hchange, hframes, herrors, hrate, hsplitF,
    hsplitRt, hrepeat, hcells,
    hsessionLeft.to_target ⟨rfl, rfl, rfl, rfl, rfl, rfl, rfl⟩ (eventPending_raise (f := .linkChange))⟩

end command

/-- Settles O31: DISABLE and RETRAIN from UP, by what the leaving of UP does. -/
theorem leavingUpClearsSession : Obligations.LeavingUpClearsSession := by
  unfold Obligations.LeavingUpClearsSession
  intro op count tag s _ hacc hup hop hne
  cases op with
  | enable => exact absurd rfl hne
  | disable =>
    have hexec : exec (.linkControlDisable count tag) s = _ := launchLink_of_operation hop count tag
    have heff := effect_disable (s := s.begun .linkControl tag) hop
    rw [enterDown_eq] at heff
    obtain ⟨t, hnext, hstate, henabled, hevent, hchange, hframes, herrors, hrate, hsplitF, hsplitRt, hrepeat, hcells,
      hleft⟩ := changeIn_launch_leavesUp hacc hup ⟨rfl, rfl, rfl, rfl, rfl, rfl, rfl⟩ rfl rfl rfl
        (v := (s.begun .linkControl tag).disabled) (by decide) (left_down _) heff
    exact ⟨t, hexec.trans hnext, hstate, henabled, hevent, hchange, hframes, herrors, hrate, hsplitF, hsplitRt, hrepeat,
      hcells, hleft, hleft.rings⟩
  | retrain =>
    have hexec : exec (.linkControlRetrain count tag) s = _ := launchLink_of_operation hop count tag
    have heff := effect_retrain (s := s.begun .linkControl tag) hop
    rw [enterProbing_eq] at heff
    obtain ⟨t, hnext, hstate, henabled, hevent, hchange, hframes, herrors, hrate, hsplitF, hsplitRt, hrepeat, hcells,
      hleft⟩ := changeIn_launch_leavesUp hacc hup ⟨rfl, rfl, rfl, rfl, rfl, rfl, rfl⟩ rfl rfl rfl
        (v := s.begun .linkControl tag) (by decide) (left_probing _) heff
    exact ⟨t, hexec.trans hnext, hstate, henabled.trans (checkLinkControl_retrain hacc.2.2.2.2 hop), hevent, hchange,
      hframes, herrors, hrate, hsplitF, hsplitRt, hrepeat, hcells, hleft, hleft.rings⟩

end Sys2Proof.Machine

/-!
What the answers and parcels of a return window do is blind to the link unit, the scheduler and the status unit,
whose events and counts it only adds to (for O28).
-/

namespace Sys2Proof.Machine

/-! ### Changes that only add to the status unit -/

/-- Whether an event is pending in a status unit (R163). -/
def StatusUnit.pending (u : StatusUnit) (e : Event) : Bool := decide (u.events &&& e.mask ≠ 0)

/-- The value of a counter in a status unit (R169). -/
def StatusUnit.counter (u : StatusUnit) (c : Counter) : BitVec 32 := u.counters[c.index]

/-- The counters that the judgement of a return window counts itself (R132, R134). -/
def Counter.ofWindow : Counter → Bool
  | .returnWindowsGood | .baseReportedErrors | .returnParcelCheckErrors => true
  | _ => false

/-- A change of the status unit that a block may make while it takes an answer or a parcel: it raises the same events
and counts the same whatever stands, and counts nothing that the window counts itself. -/
structure AddsOnly (g : StatusUnit → StatusUnit) : Prop where
  events : ∃ m, ∀ u, (g u).events = u.events ||| m
  counters : ∀ u v : StatusUnit, ∀ c, u.counter c = v.counter c → (g u).counter c = (g v).counter c
  window : ∀ u : StatusUnit, ∀ c, c.ofWindow = true → (g u).counter c = u.counter c
  full : ∀ u v : StatusUnit, u.inboundFull = v.inboundFull → (g u).inboundFull = (g v).inboundFull

theorem AddsOnly.id : AddsOnly id :=
  ⟨⟨0, fun u => (BitVec.or_zero (x := u.events)).symm⟩, fun _ _ _ h => h, fun _ _ _ => rfl, fun _ _ h => h⟩

theorem AddsOnly.comp {g h : StatusUnit → StatusUnit} (hg : AddsOnly g) (hh : AddsOnly h) : AddsOnly (fun u => h (g u)) := by
  obtain ⟨m, hm⟩ := hg.events
  obtain ⟨n, hn⟩ := hh.events
  exact ⟨⟨m ||| n, fun u => by rw [hn, hm, BitVec.or_assoc]⟩,
    fun u v c huv => hh.counters _ _ c (hg.counters u v c huv),
    fun u c hc => (hh.window _ c hc).trans (hg.window u c hc), fun u v huv => hh.full _ _ (hg.full u v huv)⟩

theorem AddsOnly.raise (e : Event) : AddsOnly (fun u => { u with events := u.events ||| e.mask }) :=
  ⟨⟨e.mask, fun _ => rfl⟩, fun _ _ _ h => h, fun _ _ _ => rfl, fun _ _ h => h⟩

theorem AddsOnly.setFull : AddsOnly (fun u => { u with inboundFull := true }) :=
  ⟨⟨0, fun u => (BitVec.or_zero (x := u.events)).symm⟩, fun _ _ _ h => h, fun _ _ _ => rfl, fun _ _ _ => rfl⟩

theorem AddsOnly.setDue (due : List (Fin 32)) : AddsOnly (fun u => { u with due }) :=
  ⟨⟨0, fun u => (BitVec.or_zero (x := u.events)).symm⟩, fun _ _ _ h => h, fun _ _ _ => rfl, fun _ _ h => h⟩

/-- The status unit after a count. -/
def StatusUnit.counts (c : Counter) (u : StatusUnit) : StatusUnit := { u with counters := counted u.counters c 1 }

theorem counts_counter (c d : Counter) (u : StatusUnit) :
    (u.counts c).counter d = if c.index = d.index then saturate (u.counter d) 1 else u.counter d :=
  getElem_counted _ _ _ _

/-- The window's own counters have places of their own (R170). -/
theorem index_ne_of_ofWindow {c d : Counter} (hc : c.ofWindow = false) (hd : d.ofWindow = true) :
    c.index ≠ d.index := by
  cases d
  case returnWindowsGood | baseReportedErrors | returnParcelCheckErrors =>
    cases c
    case returnWindowsGood | baseReportedErrors | returnParcelCheckErrors => cases hc
    case strayWrites k | damagedSegments k | rewrites k | lateWrites k =>
      simp only [Counter.index, ne_eq, Fin.ext_iff]
      omega
    all_goals decide
  all_goals cases hd

theorem AddsOnly.count {c : Counter} (h : c.ofWindow = false) :
    AddsOnly (StatusUnit.counts c) := by
  refine ⟨⟨0, fun u => (BitVec.or_zero (x := u.events)).symm⟩, fun u v d huv => ?_, fun u d hd => ?_, fun _ _ h => h⟩
  · rw [counts_counter, counts_counter, huv]
  · rw [counts_counter, if_neg (index_ne_of_ofWindow h hd)]

theorem or_and_ne_zero_iff {w : Nat} (x y m : BitVec w) : (x ||| y) &&& m ≠ 0 ↔ x &&& m ≠ 0 ∨ y &&& m ≠ 0 := by
  rw [BitVec.and_or_distrib_right, ne_eq]
  exact BitVec.or_eq_zero_iff.not.trans not_and_or

theorem AddsOnly.pending {g : StatusUnit → StatusUnit} (hg : AddsOnly g) {u v : StatusUnit} {e : Event}
    (h : u.pending e = v.pending e) : (g u).pending e = (g v).pending e := by
  obtain ⟨m, hm⟩ := hg.events
  unfold StatusUnit.pending at h ⊢
  rw [decide_eq_decide] at h ⊢
  rw [hm, hm, or_and_ne_zero_iff, or_and_ne_zero_iff, h]

theorem AddsOnly.pending_of_pending {g : StatusUnit → StatusUnit} (hg : AddsOnly g) {u : StatusUnit} {e : Event}
    (h : u.pending e = true) : (g u).pending e = true := by
  obtain ⟨m, hm⟩ := hg.events
  unfold StatusUnit.pending at h ⊢
  rw [decide_eq_true_iff] at h ⊢
  rw [hm, or_and_ne_zero_iff]
  exact .inl h

/-! ### Operations that are blind to the link unit, the scheduler and the status unit -/

/-- The state with another link unit, scheduler and status unit. -/
def State.over (l : LinkUnit) (c : Scheduler) (u : StatusUnit) (s : State) : State :=
  { s with link := l, sched := c, status := u }

/-- An operation at a state: whatever its link unit, scheduler and status unit are, it leaves the first two, only adds
to the third, and does the same to the rest. -/
def Blind (f : State → State) (s : State) : Prop :=
  ∃ g, AddsOnly g ∧ ∀ l c u, f (s.over l c u) = (f s).over l c (g u)

theorem Blind.congr {f g : State → State} {s : State} (h : Blind g s)
    (hfg : ∀ l c u, f (s.over l c u) = g (s.over l c u)) : Blind f s := by
  obtain ⟨n, hn, hg⟩ := h
  have hself : f s = g s := hfg s.link s.sched s.status
  exact ⟨n, hn, fun l c u => by rw [hfg, hself, hg]⟩

theorem Blind.comp {f g : State → State} {s : State} (hf : Blind f s) (hg : Blind g (f s)) :
    Blind (fun t => g (f t)) s := by
  obtain ⟨m, hm, hf⟩ := hf
  obtain ⟨n, hn, hg⟩ := hg
  exact ⟨_, hm.comp hn, fun l c u => by dsimp only; rw [hf, hg]⟩

theorem Blind.of_eq {f : State → State} {s : State} (h : ∀ l c u, f (s.over l c u) = (f s).over l c u) : Blind f s :=
  ⟨id, AddsOnly.id, h⟩

theorem Blind.refl (s : State) : Blind (fun t => t) s := .of_eq fun _ _ _ => rfl

section operations

variable (s : State)

theorem blind_raise (e : Event) : Blind (State.raise e) s := ⟨_, AddsOnly.raise e, fun _ _ _ => rfl⟩

theorem blind_count {c : Counter} (h : c.ofWindow = false) :
    Blind (State.count c) s := ⟨_, AddsOnly.count h, fun _ _ _ => rfl⟩

theorem blind_updRings (f : RingUnit → RingUnit) : Blind (State.updRings f) s := .of_eq fun _ _ _ => rfl

theorem blind_updPath (f : PathUnit → PathUnit) : Blind (State.updPath f) s := .of_eq fun _ _ _ => rfl

theorem blind_updOut (r : Fin 4) (f : OutRing → OutRing) : Blind (State.updOut r f) s := blind_updRings s _

theorem blind_issueIndex (owner : Owner) (word : Option Nat) (index : RingIndex) :
    Blind (State.issueIndex owner word index) s :=
  .of_eq fun _ _ _ => by rw [issueIndex_eq, issueIndex_eq]; rfl

theorem blind_issueRecordStatus (o : OutRing) (sr : SendRecord) (st : RecordStatus) :
    Blind (State.issueRecordStatus o sr st) s := by
  refine .of_eq fun _ _ _ => ?_
  unfold State.issueRecordStatus
  dsimp only
  rw [takeAttempts_eq, takeAttempts_eq]
  rfl

theorem blind_attention (a : Bool) : Blind (fun t => if a then t.raise .ringAttn else t) s := by
  cases a with
  | true => exact blind_raise s .ringAttn
  | false => exact .refl s

theorem blind_counted (st : RecordStatus) : Blind st.counted s := by
  cases st with
  | tooLarge => exact blind_count s rfl
  | failed => exact blind_count s rfl
  | sent | delivered | memoryError | badRecord => exact .refl s

end operations

/-! ### Answers (R101, R102) -/

section answers

variable (s : State)

theorem blind_tryFetch (r : Fin 4) : Blind (State.tryFetch r) s := by
  refine .of_eq fun l c u => ?_
  by_cases h : (s.rings.outbound[r]).state = .active ∧ (s.rings.outbound[r]).head = .empty ∧
      0 < (s.rings.outbound[r]).pendingCount
  · unfold State.tryFetch
    dsimp only
    rw [if_pos h]
    exact if_pos h
  · unfold State.tryFetch
    dsimp only
    rw [if_neg h]
    exact if_neg h

theorem blind_haltOut (r : Fin 4) (cause : HaltCause) (written : RingIndex) :
    Blind (State.haltOut r cause written) s :=
  (blind_updRings s _).comp (blind_raise _ .ringHalt)

/-- The ring of a retire before its event and its count (R104). -/
def State.retireRing (r : Fin 4) (sr : SendRecord) (st : RecordStatus) (s : State) : State :=
  ((s.issueRecordStatus s.rings.outbound[r] sr st).issueIndex .indexWord (s.rings.outbound[r]).consumerWord
    ((s.rings.outbound[r]).consumer + 1)).updOut r fun o =>
      { o.settleToggle st with consumer := (s.rings.outbound[r]).consumer + 1, head := .empty, sendCount := 0 }

theorem retire_eq_parts (r : Fin 4) (sr : SendRecord) (st : RecordStatus) :
    s.retire r sr st =
      st.counted ((fun t => if sr.attention then t.raise .ringAttn else t) (s.retireRing r sr st)) := by
  cases st <;> rfl

theorem blind_retireRing (r : Fin 4) (sr : SendRecord) (st : RecordStatus) : Blind (State.retireRing r sr st) s :=
  (((blind_issueRecordStatus s s.rings.outbound[r] sr st).comp (blind_issueIndex _ .indexWord
      (s.rings.outbound[r]).consumerWord ((s.rings.outbound[r]).consumer + 1))).comp
    (blind_updRings _ fun u =>
      { u with
        outbound := u.outbound.set r
          { (u.outbound[r]).settleToggle st with
            consumer := (s.rings.outbound[r]).consumer + 1, head := .empty, sendCount := 0 } })).congr
    fun _ _ _ => rfl

theorem blind_retire (r : Fin 4) (sr : SendRecord) (st : RecordStatus) : Blind (State.retire r sr st) s :=
  (((blind_retireRing s r sr st).comp (blind_attention _ sr.attention)).comp (blind_counted _ st)).congr
    fun _ _ _ => retire_eq_parts _ r sr st

theorem blind_retireNext (r : Fin 4) (sr : SendRecord) (st : RecordStatus) : Blind (State.retireNext r sr st) s :=
  (blind_retire s r sr st).comp (blind_tryFetch _ r)

theorem blind_endSend (r : Fin 4) (sr : SendRecord) : Blind (State.endSend r sr) s := by
  by_cases h : (s.rings.outbound[r]).sendCount < sr.retry + 1
  · exact ((blind_updOut s r fun o => { o with head := .ready sr }).comp
      (blind_count _ (c := .reliableRetries) rfl)).congr
        fun l c u => endSend_of_budget (s := s.over l c u) h
  · exact ((blind_retire s r sr .failed).comp (blind_haltOut _ r .failed (s.rings.outbound[r]).producerSeen)).congr
      fun l c u => endSend_of_spent (s := s.over l c u) h

theorem blind_takeAnswer (r : Fin 4) (a : Answer) : Blind (State.takeAnswer r a) s := by
  cases a with
  | none => exact .refl s
  | ack toggle =>
    by_cases htoggle : toggle = (s.rings.outbound[r]).toggle
    · subst htoggle
      cases hack : (s.rings.outbound[r]).acknowledgeable with
      | none => exact (Blind.refl s).congr fun l c u => takeAnswer_ack_unsent (s := s.over l c u) hack _
      | some sr =>
        exact (blind_retireNext s r sr .delivered).congr fun l c u => takeAnswer_ack (s := s.over l c u) hack
    · exact (Blind.refl s).congr fun l c u => takeAnswer_ack_other (s := s.over l c u) htoggle
  | nak toggle =>
    by_cases hother : toggle ≠ (s.rings.outbound[r]).toggle ∨ ∀ sr, (s.rings.outbound[r]).head ≠ .inFlight sr
    · exact (Blind.refl s).congr fun l c u => takeAnswer_nak_other (s := s.over l c u) hother
    · obtain ⟨htoggle, hhead⟩ := not_or.1 hother
      obtain ⟨sr, hsr⟩ := not_forall_not.1 hhead
      obtain rfl : toggle = (s.rings.outbound[r]).toggle := not_not.1 htoggle
      exact (blind_endSend s r sr).congr fun l c u => takeAnswer_nak (s := s.over l c u) hsr

end answers

/-! ### Parcels (R111, R117, R118, R134) -/

section parcels

variable (s : State)

theorem blind_issueSplit (owner : Owner) (addr : Nat) (data : List Byte) :
    Blind (State.issueSplit owner addr data) s :=
  .of_eq fun _ _ _ => by rw [issueSplit_eq, issueSplit_eq]; rfl

theorem blind_land (r : Fin 2) (m : Cmsg) : Blind (State.land r m) s :=
  .of_eq fun _ _ _ => by rw [land_eq, land_eq]; rfl

theorem blind_answeredCmsg (r : Fin 2) (a : Answer) {c : Counter}
    (h : c.ofWindow = false) : Blind (State.answeredCmsg r a c) s :=
  (blind_updRings s _).comp (blind_count _ h)

theorem blind_takeCmsg (r : Fin 2) (m : Cmsg) : Blind (State.takeCmsg r m) s := by
  have hnaks : Blind (State.answeredCmsg r (.nak m.toggle) .cmsgNaks) s :=
    blind_answeredCmsg s r _ rfl
  by_cases hunfit : (s.rings.inbound[r]).state ≠ .active ∨ m.poison = true ∨ m.payload.length = 0 ∨ 992 < m.payload.length
  · exact hnaks.congr fun l c u => takeCmsg_of_unfit (s := s.over l c u) hunfit
  · have hfits := fits_of_not hunfit
    by_cases hdup : m.sync = false ∧ (s.rings.inbound[r]).lastAccepted = some m.toggle
    · exact (blind_answeredCmsg s r (.ack m.toggle) (c := .cmsgDuplicates) rfl).congr
          fun l c u => (takeCmsg_of_fits (s := s.over l c u) hfits).trans (if_pos hdup)
    · by_cases hbusy : (s.rings.inbound[r]).landing ≠ .idle
      · exact hnaks.congr fun l c u =>
          (takeCmsg_of_fits (s := s.over l c u) hfits).trans ((if_neg hdup).trans (if_pos hbusy))
      · by_cases hfull : (s.rings.inbound[r]).occupied = (s.rings.inbound[r]).count
        · have hmark := hnaks.comp (g := fun t => t.updStatus fun u => { u with inboundFull := true })
            ⟨_, AddsOnly.setFull, fun _ _ _ => rfl⟩
          exact hmark.congr fun l c u =>
            (takeCmsg_of_fits (s := s.over l c u) hfits).trans ((if_neg hdup).trans ((if_neg hbusy).trans (if_pos hfull)))
        · have hland := (blind_land s r m).comp (blind_count _ (c := .cmsgLanded) rfl)
          exact hland.congr fun l c u =>
            (takeCmsg_of_fits (s := s.over l c u) hfits).trans ((if_neg hdup).trans ((if_neg hbusy).trans (if_neg hfull)))

/-- A piece landed, before it is counted (R117). -/
def State.landPiece (p : Piece) (s : State) : State :=
  { s with
    rings :=
      { s.rings with
        ret :=
          s.rings.ret.updBuffer p.buffer fun q =>
            { q with
              left := q.left + (chunks p.payload.length (s.rings.ret.pieceAddr p) p.payload.length).length
              completed := q.completed + (if p.last then 1 else 0) } }
    path :=
      { s.path with
        other :=
          s.path.other ++
            splitWrites (.returnLanding p.buffer s.rings.ret.serial) (s.rings.ret.pieceAddr p) p.payload } }

theorem blind_landPiece (p : Piece) : Blind (State.landPiece p) s := .of_eq fun _ _ _ => rfl

theorem blind_takePiece (p : Piece) : Blind (State.takePiece p) s := by
  cases hlands : s.rings.ret.lands p with
  | true =>
    exact ((blind_landPiece s p).comp (blind_count _ (c := .returnPiecesLanded) rfl)).congr
        fun l c u => takePiece_of_lands (s := s.over l c u) hlands
  | false =>
    exact (blind_count s (c := .returnPiecesDiscarded) rfl).congr
      fun l c u => takePiece_of_not_lands (s := s.over l c u) hlands

theorem blind_doneTest (sel : Bool) : Blind (State.doneTest sel) s := by
  refine .of_eq fun l c u => ?_
  unfold State.doneTest
  dsimp only [State.over]
  split
  · split
    · split <;> rfl
    · rfl
  · rfl

theorem blind_returnEnded (sel : Bool) (frame : BitVec 16) : Blind (State.returnEnded sel frame) s := .of_eq fun _ _ _ => rfl

theorem blind_takeReturnEnd (sel : Bool) (frame : BitVec 16) (poison : Bool) :
    Blind (State.takeReturnEnd sel frame poison) s := by
  by_cases h : s.rings.ret.bound = true ∧ poison = false
  · exact ((blind_returnEnded s sel frame).comp (blind_doneTest _ sel)).congr
      fun l c u => takeReturnEnd_of_bound (s := s.over l c u) frame h
  · exact (Blind.refl s).congr fun l c u => takeReturnEnd_of_unbound (s := s.over l c u) frame h

end parcels

end Sys2Proof.Machine

/-!
Return windows: the headers and parcels, and the arrivals that hand no parcel on (for O28).
-/

namespace Sys2Proof.Machine

/-! ### The arrivals and their due lists -/

/-- The end of a monitored window: one more in the block, or the judgement of the full block (R136). -/
def LinkUnit.blockArrival (l : LinkUnit) : LinkUnit :=
  if l.monitorFrames < 255 then { l with monitorFrames := l.monitorFrames + 1 }
  else { l with monitorFrames := 0, monitorErrors := 0, change := blockChange l l.monitorErrors }

theorem monitored_eq (l : LinkUnit) (lossRun errors : Nat) :
    l.monitored lossRun errors =
      LinkUnit.blockArrival
        { l with lossRun, monitorErrors := saturate16 (l.monitorErrors + errors), returnTaken := true } := by
  unfold LinkUnit.monitored LinkUnit.blockArrival
  dsimp only
  split <;> rfl

/-- The judgement of a block supersedes a SPLIT change (R139). -/
def LinkUnit.blockSupersedes (l : LinkUnit) : Prop :=
  255 ≤ l.monitorFrames ∧ l.splitPending = true ∧ (stepDownChange l.rate l.monitorErrors l.count).isSome = true

/-- The link unit after the judgement of a block, whichever command is RUNNING (R136, R139). -/
theorem judgeBlock_link (s : State) :
    s.judgeBlock.link =
      { s.link with
        monitorFrames := 0, monitorErrors := 0, change := blockChange s.link s.link.monitorErrors } := by
  by_cases h : s.link.splitPending = true ∧
      (stepDownChange s.link.rate s.link.monitorErrors s.link.count).isSome = true
  · obtain ⟨hsplit, hstep⟩ := h
    obtain ⟨c, f, rt, hchange, hc⟩ := (splitPending_eq_true_iff s.link).1 hsplit
    have hdown := stepDownChange_eq s.link.rate s.link.monitorErrors s.link.count
    cases htarget : stepTarget s.link.rate s.link.monitorErrors with
    | none =>
      rw [hdown, htarget] at hstep
      cases hstep
    | some r =>
      have hlink : ((s.updLink fun l => { l with change := none }).endSetSplit .superseded).link =
          { s.link with change := none } := (endSetSplit_frame _ _).2.2.1.2.2
      rw [judgeBlock_eq, blockChange_of_split hchange hc, hdown, htarget]
      show ((s.stepDown r).updLink _).link = _
      rw [stepDown_of_split hchange hc]
      unfold State.createChange
      rw [updLink_link, updLink_link, hlink]
      rfl
  · rw [judgeBlock_of_quiet h]
    rfl

section monitor

variable {s : State}

theorem monitorArrival_of_up (hup : s.link.state = .up) :
    s.monitorArrival = (s.updLink fun l => { l with monitorFrames := l.monitorFrames + 1 }).testBlock := if_pos hup

theorem monitorArrival_of_quiet (hup : s.link.state = .up) (h : ¬ s.link.blockSupersedes) :
    s.monitorArrival = s.updLink LinkUnit.blockArrival := by
  rw [monitorArrival_of_up hup]
  unfold LinkUnit.blockArrival
  by_cases hfull : s.link.monitorFrames < 255
  · have hnot : ¬ (s.link.state = .up ∧ Config.monitorBlock ≤ s.link.monitorFrames + 1) := fun h => by
      have : 256 ≤ s.link.monitorFrames + 1 := h.2
      omega
    refine (if_neg hnot).trans ?_
    simp only [State.updLink, hfull, if_true]
  · rw [testBlock_of_full (s := s.updLink fun l => { l with monitorFrames := l.monitorFrames + 1 }) hup
        (by show 256 ≤ s.link.monitorFrames + 1; omega),
      judgeBlock_of_quiet (s := s.updLink fun l => { l with monitorFrames := l.monitorFrames + 1 })
        fun hs => h ⟨not_lt.1 hfull, hs⟩]
    simp only [State.updLink, hfull, if_false]
    rfl

theorem monitorArrival_of_superseded {tag : BitVec 8} (hup : s.link.state = .up) (h : s.link.blockSupersedes)
    (hrun : s.mbox.running = some { code := Command.setSplit.code, tag }) :
    s.monitorArrival =
      { s with
        link := s.link.blockArrival
        path :=
          { s.path with
            other := s.path.other ++ finalWrites s Command.setSplit.code tag .superseded s.splitData }
        mbox := { s.mbox with running := none } } := by
  obtain ⟨hfull, hsplit, hstep⟩ := h
  rw [monitorArrival_of_up hup, testBlock_of_full (s := s.updLink fun l => { l with monitorFrames := l.monitorFrames + 1 }) hup
      (by show 256 ≤ s.link.monitorFrames + 1; omega),
    judgeBlock_of_superseded (s := s.updLink fun l => { l with monitorFrames := l.monitorFrames + 1 }) hsplit hstep hrun]
  unfold LinkUnit.blockArrival
  rw [if_neg (not_lt.2 hfull)]
  rfl

theorem monitorArrival_of_not_up (hup : s.link.state ≠ .up) : s.monitorArrival = s := if_neg hup

end monitor

/-- What the monitor does with an arrival while UP: the link unit, and the RUNNING SET SPLIT (R136, R139). -/
theorem monitorArrival_facts {s : State} (hup : s.link.state = .up) :
    s.monitorArrival.link = s.link.blockArrival ∧
      (∀ tag, s.link.blockSupersedes → s.mbox.running = some { code := Command.setSplit.code, tag } →
        CommandEnds .setSplit tag .superseded s.splitData s s.monitorArrival) ∧
      (¬ s.link.blockSupersedes → s.monitorArrival.mbox = s.mbox ∧ s.monitorArrival.path = s.path) := by
  refine ⟨?_, fun tag h hrun => ?_, fun h => ?_⟩
  · by_cases hfull : 255 ≤ s.link.monitorFrames
    · rw [monitorArrival_of_up hup, testBlock_of_full (s := s.updLink fun l => { l with monitorFrames := l.monitorFrames + 1 }) hup
        (by show 256 ≤ s.link.monitorFrames + 1; omega), judgeBlock_link]
      unfold LinkUnit.blockArrival
      rw [if_neg (not_lt.2 hfull)]
      rfl
    · rw [monitorArrival_of_quiet hup fun h => hfull h.1]
      rfl
  · rw [monitorArrival_of_superseded hup h hrun]
    exact ⟨rfl, rfl⟩
  · rw [monitorArrival_of_quiet hup h]
    exact ⟨rfl, rfl⟩

/-! ### Trials (R125, R126) -/

/-- The end of an arrival while TRAINING: the trial is judged at its frame 15 (R126). -/
theorem testTrial_taken {s : State} (hstate : s.link.state = .training) (htaken : s.link.returnTaken = true) :
    s.testTrial =
      (s.countBy .trainingFailures
        (if s.link.trialFrame = 15 ∧ s.link.move = none ∧
            trialVerdict s.link.trialBaseErrors s.link.trialOwnErrors s.link.trialRate = .probing then 1
         else 0)).updLink fun l =>
        { l with
          move :=
            if s.link.trialFrame = 15 ∧ s.link.move = none then
              some (trialVerdict s.link.trialBaseErrors s.link.trialOwnErrors s.link.trialRate)
            else s.link.move } := by
  by_cases hends : s.link.trialFrame = 15 ∧ s.link.move = none
  · rw [testTrial_of_ended hstate hends.1 htaken hends.2, judgeTrial_eq, if_pos hends]
    simp only [hends, true_and]
  · have hnot : ¬ (s.link.trialFrame = 15 ∧ s.link.move = none ∧
        trialVerdict s.link.trialBaseErrors s.link.trialOwnErrors s.link.trialRate = .probing) :=
      fun h => hends ⟨h.1, h.2.1⟩
    rw [if_neg hends, if_neg hnot, countBy_none]
    exact if_neg fun h => hends ⟨h.2.1, h.2.2.2⟩

/-! ### The tally (R144) -/

/-- The status unit after a tally is taken (R144). -/
def State.tallyStatus (b : Byte) (s : State) : StatusUnit :=
  if b = s.link.tally then s.status else (s.raise .tally).status

section tally

variable {s : State} {b : Byte}

theorem takeTally_eq (b : Byte) (s : State) :
    s.takeTally b = { s with link := { s.link with tally := b }, status := s.tallyStatus b } := by
  unfold State.takeTally State.tallyStatus
  by_cases h : b = s.link.tally
  · rw [if_pos h, if_pos h, h]
  · rw [if_neg h, if_neg h]
    rfl

theorem tallyStatus_of_same (h : b = s.link.tally) : s.tallyStatus b = s.status := if_pos h

theorem tallyStatus_pending (h : b ≠ s.link.tally) : (s.tallyStatus b).pending .tally = true := by
  unfold State.tallyStatus
  rw [if_neg h]
  exact raise_eventPending .tally s

theorem tallyStatus_counters (b : Byte) (s : State) : (s.tallyStatus b).counters = s.status.counters := by
  unfold State.tallyStatus
  split <;> rfl

end tally

/-! ### Windows without a good header (R131, R132) -/

section windows

variable {s : State} {header : Option (List Byte)}

/-- The part with the window of its frame taken. -/
def State.windowTaken (s : State) : State := s.updLink fun l => { l with returnTaken := true }

theorem arrive_of_down (h : s.link.state = .down) (header : Option (List Byte)) (body : List Byte) :
    s.arrive header body = s := by
  unfold State.arrive
  rw [h]

theorem arrive_of_probing (h : s.link.state = .probing) (header : Option (List Byte)) (body : List Byte) :
    s.arrive header body = s.windowTaken.arriveProbing header := by
  unfold State.arrive
  rw [h]
  rfl

theorem arrive_of_training (h : s.link.state = .training) (header : Option (List Byte)) (body : List Byte) :
    s.arrive header body = s.windowTaken.arriveTraining header body := by
  unfold State.arrive
  rw [h]
  rfl

theorem arrive_of_up (h : s.link.state = .up) (header : Option (List Byte)) (body : List Byte) :
    s.arrive header body = s.windowTaken.arriveUp header body := by
  unfold State.arrive
  rw [h]
  rfl

/-- One more probe frame, and the cycle that it may end (R124). -/
def State.probeFrame (s : State) : State :=
  (s.updLink fun l => { l with probeFrames := l.probeFrames + 1 }).endProbeCycle

theorem probeFrame_eq (h : s.link.state = .probing) :
    s.probeFrame =
      s.updLink fun l =>
        { l with
          probeFrames := if l.probeFrames < 63 then l.probeFrames + 1 else 0
          probeCycles := if l.probeFrames < 63 then l.probeCycles else saturate16 (l.probeCycles + 1) } := by
  unfold State.probeFrame
  by_cases hlast : s.link.probeFrames < 63
  · have hnot : ¬ (s.link.state = .probing ∧ Config.probeCycleLength ≤ s.link.probeFrames + 1) := fun h => by
      have : 64 ≤ s.link.probeFrames + 1 := h.2
      omega
    refine (if_neg hnot).trans ?_
    simp only [State.updLink, hlast, if_true]
  · rw [endProbeCycle_of_full (s := s.updLink fun l => { l with probeFrames := l.probeFrames + 1 }) h
      (by show 64 ≤ s.link.probeFrames + 1; omega)]
    simp only [State.updLink, hlast, if_false]

theorem arriveProbing_of_bad (h : badHeader s header) :
    s.arriveProbing header = mirrored State.probeFrame s := by
  unfold State.arriveProbing
  cases header with
  | none => rfl
  | some b => exact if_neg (Bool.eq_false_iff.1 (h b rfl))

theorem arriveProbing_of_ready {b : List Byte} (hgood : headerGood s.link.count b = true) (hready : readyOf b = true) :
    s.arriveProbing (some b) =
      mirrored (State.takeTally (tallyOf b)) (s.updLink fun l => { l with move := some .training }) := by
  unfold State.arriveProbing
  refine (if_pos hgood).trans ?_
  simp only [hready, if_true]

theorem arriveProbing_of_not_ready {b : List Byte} (hgood : headerGood s.link.count b = true)
    (hready : readyOf b = false) :
    s.arriveProbing (some b) = mirrored State.probeFrame (mirrored (State.takeTally (tallyOf b)) s) := by
  unfold State.arriveProbing
  refine (if_pos hgood).trans ?_
  simp only [hready, Bool.false_eq_true, if_false]
  rfl

theorem arriveUp_of_bad (h : badHeader s header) (body : List Byte) :
    s.arriveUp header body =
      mirrored State.monitorArrival
        (mirroredIn linkOrder State.testLoss (mirrored (fun u => u.badWindow.monitorErrors 1) s)) := by
  unfold State.arriveUp
  cases header with
  | none => rfl
  | some b => exact if_neg (Bool.eq_false_iff.1 (h b rfl))

theorem arriveTraining_of_bad (h : badHeader s header) (body : List Byte) :
    s.arriveTraining header body =
      mirrored State.testTrial
        (mirroredIn linkOrder State.testLoss (mirrored (fun u => u.badWindow.trialErrors 0 1) s)) := by
  unfold State.arriveTraining
  cases header with
  | none => rfl
  | some b => exact if_neg (Bool.eq_false_iff.1 (h b rfl))

end windows

end Sys2Proof.Machine

/-!
Return windows: what each arrival that hands no parcel on does (for O28).
-/

namespace Sys2Proof.Machine

variable {s : State} {header : Option (List Byte)} {h body : List Byte}

theorem exec_window {t : State} (harrive : s.arrive header body = t) :
    exec (.returnWindowArrival header body) s = .next t := congrArg Host.Outcome.next harrive

/-! ### While PROBING (R124) -/

theorem probing_bad (hstate : s.link.state = .probing) (hbad : badHeader s header) (body : List Byte) :
    ∃ due, s.arrive header body =
      ({ s with link := s.link.probed s.link.tally } : State).withDue due := by
  obtain ⟨due, hdue⟩ := mirroredIn_eq_withDue ascending State.probeFrame s.windowTaken
  refine ⟨due, ?_⟩
  rw [arrive_of_probing hstate, arriveProbing_of_bad (s := s.windowTaken) hbad, mirrored_eq, hdue,
    probeFrame_eq (s := s.windowTaken) hstate]
  rfl

theorem probing_ready (hstate : s.link.state = .probing) (hgood : headerGood s.link.count h = true)
    (hready : readyOf h = true) (body : List Byte) :
    ∃ due, s.arrive (some h) body =
      ({ s with
        link := { s.link with tally := tallyOf h, move := some .training, returnTaken := true }
        status := s.tallyStatus (tallyOf h) } : State).withDue due := by
  obtain ⟨due, hdue⟩ := mirroredIn_eq_withDue ascending (State.takeTally (tallyOf h))
    (s.windowTaken.updLink fun l => { l with move := some .training })
  refine ⟨due, ?_⟩
  rw [arrive_of_probing hstate, arriveProbing_of_ready (s := s.windowTaken) hgood hready, mirrored_eq, hdue, takeTally_eq]
  rfl

theorem probing_not_ready (hstate : s.link.state = .probing) (hgood : headerGood s.link.count h = true)
    (hready : readyOf h = false) (body : List Byte) :
    ∃ due, s.arrive (some h) body =
      ({ s with
        link := s.link.probed (tallyOf h), status := s.tallyStatus (tallyOf h) } : State).withDue due := by
  obtain ⟨due, hdue⟩ := mirroredIn_eq_withDue ascending (State.takeTally (tallyOf h)) s.windowTaken
  obtain ⟨due', hdue'⟩ := mirroredIn_eq_withDue ascending State.probeFrame
    ((s.windowTaken.takeTally (tallyOf h)).withDue due)
  refine ⟨due', ?_⟩
  rw [arrive_of_probing hstate, arriveProbing_of_not_ready (s := s.windowTaken) hgood hready, mirrored_eq, mirrored_eq,
    hdue, hdue', takeTally_eq, probeFrame_eq (by exact hstate)]
  rfl

/-! ### Windows without a good header, below a loss (R131, R132) -/

theorem testLoss_of_short (hrun : s.link.lossRun < 8) : s.testLoss = s :=
  if_neg fun h => absurd h.2 (not_le.2 hrun)

/-- A window without a good header while UP, before its block is tested (R131, R132, R136). -/
def State.badUp (s : State) : State := s.windowTaken.badWindow.monitorErrors 1

/-- A window without a good header while TRAINING, before its trial is tested (R125, R131, R132). -/
def State.badTraining (s : State) : State := s.windowTaken.badWindow.trialErrors 0 1

theorem arrive_up_bad (hstate : s.link.state = .up) (hbad : badHeader s header) (body : List Byte) :
    ∃ due due' due'', s.arrive header body =
      ((s.badUp.withDue due).testLoss.withDue due').monitorArrival.withDue due'' := by
  obtain ⟨due, hdue⟩ := mirroredIn_eq_withDue ascending (fun u => u.badWindow.monitorErrors 1) s.windowTaken
  obtain ⟨due', hdue'⟩ := mirroredIn_eq_withDue linkOrder State.testLoss (s.badUp.withDue due)
  obtain ⟨due'', hdue''⟩ := mirroredIn_eq_withDue ascending State.monitorArrival
    ((s.badUp.withDue due).testLoss.withDue due')
  refine ⟨due, due', due'', ?_⟩
  rw [arrive_of_up hstate, arriveUp_of_bad (s := s.windowTaken) hbad, mirrored_eq, mirrored_eq, hdue]
  exact (congrArg (mirroredIn ascending State.monitorArrival) hdue').trans hdue''

theorem arrive_training_bad (hstate : s.link.state = .training) (hbad : badHeader s header) (body : List Byte) :
    ∃ due due' due'', s.arrive header body =
      ((s.badTraining.withDue due).testLoss.withDue due').testTrial.withDue due'' := by
  obtain ⟨due, hdue⟩ := mirroredIn_eq_withDue ascending (fun u => u.badWindow.trialErrors 0 1) s.windowTaken
  obtain ⟨due', hdue'⟩ := mirroredIn_eq_withDue linkOrder State.testLoss (s.badTraining.withDue due)
  obtain ⟨due'', hdue''⟩ := mirroredIn_eq_withDue ascending State.testTrial
    ((s.badTraining.withDue due).testLoss.withDue due')
  refine ⟨due, due', due'', ?_⟩
  rw [arrive_of_training hstate, arriveTraining_of_bad (s := s.windowTaken) hbad, mirrored_eq, mirrored_eq, hdue]
  exact (congrArg (mirroredIn ascending State.testTrial) hdue').trans hdue''

/-- The link unit after a window without a good header while UP (R131, R136). -/
def LinkUnit.badUp (l : LinkUnit) : LinkUnit :=
  { l with lossRun := l.lossRun + 1, monitorErrors := saturate16 (l.monitorErrors + 1), returnTaken := true }

/-- The link unit after a window without a good header while TRAINING (R125, R131). -/
def LinkUnit.badTraining (l : LinkUnit) : LinkUnit :=
  { l with
    lossRun := l.lossRun + 1, trialBaseErrors := saturate16 (l.trialBaseErrors + 0)
    trialOwnErrors := saturate16 (l.trialOwnErrors + 1), returnTaken := true }

theorem badUp_eq (s : State) :
    s.badUp = { s with link := s.link.badUp, status := (s.count .returnHeaderErrors).status } := rfl

theorem badTraining_eq (s : State) :
    s.badTraining = { s with link := s.link.badTraining, status := (s.count .returnHeaderErrors).status } := rfl

theorem training_bad (hstate : s.link.state = .training) (hbad : badHeader s header) (hrun : s.link.lossRun < 7)
    (body : List Byte) :
    ∃ due, s.arrive header body =
      ({ s with
        link := s.link.tried (s.link.lossRun + 1) 0 1
        status :=
          ((s.count .returnHeaderErrors).countBy .trainingFailures (s.link.trialFails 0 1)).status } : State).withDue
        due := by
  obtain ⟨due, due', due'', harrive⟩ := arrive_training_bad hstate hbad body
  refine ⟨due'', harrive.trans ?_⟩
  rw [badTraining_eq, testLoss_of_short (by exact Nat.succ_lt_succ hrun), testTrial_taken (by exact hstate) rfl]
  rfl

/-- An arrival of the monitor, on a part with another link unit and status unit. -/
theorem monitorArrival_over {l : LinkUnit} {u : StatusUnit} (hup : l.state = .up) :
    let t := State.monitorArrival { s with link := l, status := u }
    t.link = l.blockArrival ∧ t.status = u ∧ SameOutside s t ∧ SameCapture s t ∧ t.sched = s.sched ∧
      t.rings = s.rings ∧
      (∀ tag, l.blockSupersedes → s.mbox.running = some { code := Command.setSplit.code, tag } →
        CommandEnds .setSplit tag .superseded
          [numberWord (l.splitF + atBit 16 l.splitRt), BitVec.ofNat 64 l.count.toNat] s t) ∧
      (¬ l.blockSupersedes → t.mbox = s.mbox ∧ t.path = s.path) := by
  obtain ⟨hlink, hends, hkept⟩ := monitorArrival_facts (s := { s with link := l, status := u }) hup
  obtain ⟨houtside, hcapture, -, -, -, hsched, hrings, hstatus⟩ :=
    monitorArrival_frame { s with link := l, status := u }
  exact ⟨hlink, hstatus, houtside, hcapture, hsched, hrings, hends, hkept⟩

theorem up_bad (hstate : s.link.state = .up) (hbad : badHeader s header) (hrun : s.link.lossRun < 7) (body : List Byte) :
    ∃ due u, s.arrive header body =
      (State.monitorArrival
        { s with
          link := s.link.badUp
          status := { (s.count .returnHeaderErrors).status with due := u } }).withDue due := by
  obtain ⟨due, due', due'', harrive⟩ := arrive_up_bad hstate hbad body
  refine ⟨due'', due', harrive.trans ?_⟩
  rw [badUp_eq, testLoss_of_short (by exact Nat.succ_lt_succ hrun)]
  rfl

/-! ### A loss (R131) -/

/-- A loss does not look at what a bad window has counted already. -/
theorem LinkLost.of_source {t : State} {l : LinkUnit} {u : StatusUnit} (hlost : LinkLost { s with link := l, status := u } t)
    (hlink : l = { s.link with lossRun := l.lossRun, returnTaken := l.returnTaken, monitorErrors := l.monitorErrors
                               trialBaseErrors := l.trialBaseErrors, trialOwnErrors := l.trialOwnErrors })
    (hlosses : u.counter .linkLosses = s.counter .linkLosses)
    (hfailures : u.counter .trainingFailures = s.counter .trainingFailures)
    (hsunk : u.counter .jobsSunk = s.counter .jobsSunk) : LinkLost s t := by
  obtain ⟨h1, h2, h3, h4, h5, h6, htally, hcells, hrate, hsplitF, hsplitRt, hrepeat, hcount, hfail, hevent, hup, htraining,
    houtside⟩ := hlost
  have hcount' : t.counter .linkLosses = saturate (s.counter .linkLosses) 1 := hcount.trans (congrArg (saturate · 1) hlosses)
  have hfail' : t.counter .trainingFailures = s.counter .trainingFailures := hfail.trans hfailures
  have hsession : SameSession s { s with link := l, status := u } := ⟨rfl, rfl, rfl, rfl, rfl, rfl, hsunk⟩
  rw [hlink] at htally hcells hrate hsplitF hsplitRt hrepeat hup htraining
  refine ⟨h1, h2, h3, h4, h5, h6, htally, hcells, hrate, hsplitF, hsplitRt, hrepeat, hcount', hfail', hevent,
    fun h => ?_, htraining, houtside⟩
  obtain ⟨hchange, hframes, herrors, hleft, hends⟩ := hup h
  exact ⟨hchange, hframes, herrors, hleft.of_source hsession, hends⟩

theorem linkStatus_counters (st : LinkState) (s : State) : (s.linkStatus st).counters = s.status.counters := by
  unfold State.linkStatus
  split <;> rfl

/-- A loss counts itself and the jobs it sinks (R79, R131). -/
theorem lose_counter {d : Counter} (hlosses : Counter.linkLosses.index ≠ d.index)
    (hsunk : Counter.jobsSunk.index ≠ d.index) (s : State) : s.lose.counter d = s.counter d := by
  have hleft : (s.count .linkLosses).leaveUp.counter d = s.counter d :=
    (leaveUp_counter hsunk _).trans (count_counter_ne hlosses s)
  unfold State.lose
  rw [enterProbing_eq, ← hleft]
  exact congrArg (fun v : Vector (BitVec 32) 59 => v[d.index]) (linkStatus_counters .probing _)

/-- A part that a loss has moved to PROBING is no part that a monitor or a trial looks at. -/
theorem monitorArrival_of_lost {t : State} (hlost : LinkLost s t) (due : List (Fin 32)) :
    (t.withDue due).monitorArrival = t.withDue due := by
  obtain ⟨hprobing, -⟩ := hlost
  exact monitorArrival_of_not_up (s := t.withDue due) (by rw [show (t.withDue due).link.state = .probing from hprobing]; decide)

theorem testTrial_of_lost {t : State} (hlost : LinkLost s t) (due : List (Fin 32)) :
    (t.withDue due).testTrial = t.withDue due := by
  obtain ⟨hprobing, -⟩ := hlost
  refine if_neg fun h => ?_
  have htraining : t.link.state = .training := h.1
  rw [hprobing] at htraining
  cases htraining

/-- A loss of a part whose window has been taken, with a due list on top (R131). -/
theorem lose_over {l : LinkUnit} {u : StatusUnit} (hstate : l.state = .up ∨ l.state = .training)
    (hlink : l = { s.link with lossRun := l.lossRun, returnTaken := l.returnTaken, monitorErrors := l.monitorErrors
                               trialBaseErrors := l.trialBaseErrors, trialOwnErrors := l.trialOwnErrors })
    (hlosses : u.counter .linkLosses = s.counter .linkLosses)
    (hfailures : u.counter .trainingFailures = s.counter .trainingFailures)
    (hsunk : u.counter .jobsSunk = s.counter .jobsSunk) :
    LinkLost s (State.lose { s with link := l, status := u }) ∧
      (State.lose { s with link := l, status := u }).counter .returnHeaderErrors = u.counter .returnHeaderErrors :=
  ⟨(linkLost_lose (s := { s with link := l, status := u }) hstate).of_source hlink hlosses hfailures hsunk,
    lose_counter (by decide) (by decide) _⟩

theorem headerErrors_counters (s : State) :
    (s.count .returnHeaderErrors).counter .linkLosses = s.counter .linkLosses ∧
      (s.count .returnHeaderErrors).counter .trainingFailures = s.counter .trainingFailures ∧
      (s.count .returnHeaderErrors).counter .jobsSunk = s.counter .jobsSunk :=
  ⟨count_counter_ne (by decide) s, count_counter_ne (by decide) s, count_counter_ne (by decide) s⟩

theorem goodWindows_counters (s : State) :
    (s.count .returnWindowsGood).counter .linkLosses = s.counter .linkLosses ∧
      (s.count .returnWindowsGood).counter .trainingFailures = s.counter .trainingFailures ∧
      (s.count .returnWindowsGood).counter .jobsSunk = s.counter .jobsSunk ∧
      (s.count .returnWindowsGood).counter .returnHeaderErrors = s.counter .returnHeaderErrors :=
  ⟨count_counter_ne (by decide) s, count_counter_ne (by decide) s, count_counter_ne (by decide) s,
    count_counter_ne (by decide) s⟩

/-- A window without a good header that is the eighth of a loss run, once its errors are counted (R131). -/
theorem bad_lost {l : LinkUnit} (hstate : l.state = .up ∨ l.state = .training)
    (hlink : l = { s.link with lossRun := l.lossRun, returnTaken := l.returnTaken, monitorErrors := l.monitorErrors
                               trialBaseErrors := l.trialBaseErrors, trialOwnErrors := l.trialOwnErrors })
    (hrun : 8 ≤ l.lossRun) (due : List (Fin 32)) :
    ∃ t, State.testLoss { s with link := l, status := { (s.count .returnHeaderErrors).status with due } } = t ∧
      LinkLost s t ∧ t.counter .returnHeaderErrors = saturate (s.counter .returnHeaderErrors) 1 := by
  obtain ⟨hlosses, hfailures, hsunk⟩ := headerErrors_counters s
  obtain ⟨hlost, hcounter⟩ := lose_over (u := { (s.count .returnHeaderErrors).status with due }) hstate hlink hlosses
    hfailures hsunk
  exact ⟨_, testLoss_of_lost (by exact hstate) hrun, hlost, hcounter.trans (count_counter_same .returnHeaderErrors s)⟩

theorem arrive_up_lost (hup : s.link.state = .up) (hbad : badHeader s header) (hrun : 7 ≤ s.link.lossRun)
    (body : List Byte) :
    ∃ t, s.arrive header body = t ∧ LinkLost s t ∧
      t.counter .returnHeaderErrors = saturate (s.counter .returnHeaderErrors) 1 := by
  obtain ⟨due, due', due'', harrive⟩ := arrive_up_bad hup hbad body
  obtain ⟨t, ht, hlost, hcounter⟩ := bad_lost (s := s) (l := s.link.badUp) (.inl hup) rfl (Nat.succ_le_succ hrun) due
  have hloss : (s.badUp.withDue due).testLoss = t := ht
  rw [hloss, monitorArrival_of_lost hlost] at harrive
  exact ⟨_, harrive, (hlost.withDue due').withDue due'', hcounter⟩

theorem arrive_training_lost (htraining : s.link.state = .training) (hbad : badHeader s header)
    (hrun : 7 ≤ s.link.lossRun) (body : List Byte) :
    ∃ t, s.arrive header body = t ∧ LinkLost s t ∧
      t.counter .returnHeaderErrors = saturate (s.counter .returnHeaderErrors) 1 := by
  obtain ⟨due, due', due'', harrive⟩ := arrive_training_bad htraining hbad body
  obtain ⟨t, ht, hlost, hcounter⟩ := bad_lost (s := s) (l := s.link.badTraining) (.inr htraining) rfl
    (Nat.succ_le_succ hrun) due
  have hloss : (s.badTraining.withDue due).testLoss = t := ht
  rw [hloss, testTrial_of_lost hlost] at harrive
  exact ⟨_, harrive, (hlost.withDue due').withDue due'', hcounter⟩

theorem arrive_bad_lost (hstate : s.link.state = .up ∨ s.link.state = .training) (hbad : badHeader s header)
    (hrun : 7 ≤ s.link.lossRun) (body : List Byte) :
    ∃ t, s.arrive header body = t ∧ LinkLost s t ∧
      t.counter .returnHeaderErrors = saturate (s.counter .returnHeaderErrors) 1 :=
  hstate.elim (fun hup => arrive_up_lost hup hbad hrun body) fun htraining =>
    arrive_training_lost htraining hbad hrun body

/-! ### A good header with READY clear (R131, R134) -/

/-- The link unit after a good header: no loss run (R131). -/
def LinkUnit.goodHeader (l : LinkUnit) : LinkUnit := { l with lossRun := 0, returnTaken := true }

theorem arriveUp_of_not_ready (hgood : headerGood s.link.count h = true) (hready : readyOf h = false) (body : List Byte) :
    s.arriveUp (some h) body =
      mirroredIn linkOrder State.lose
        (mirrored (fun u => (u.count .returnWindowsGood).updLink fun l => { l with lossRun := 0 }) s) := by
  unfold State.arriveUp
  refine (if_pos hgood).trans ?_
  simp only [hready, Bool.false_eq_true, if_false]

theorem arriveTraining_of_not_ready (hgood : headerGood s.link.count h = true) (hready : readyOf h = false)
    (body : List Byte) :
    s.arriveTraining (some h) body =
      mirroredIn linkOrder State.lose (s.updLink fun l => { l with lossRun := 0 }) := by
  unfold State.arriveTraining
  refine (if_pos hgood).trans ?_
  simp only [hready, Bool.false_eq_true, if_false]

theorem arrive_not_ready (hstate : s.link.state = .up ∨ s.link.state = .training)
    (hgood : headerGood s.link.count h = true) (hready : readyOf h = false) (body : List Byte) :
    ∃ t, s.arrive (some h) body = t ∧ LinkLost s t ∧
      t.counter .returnHeaderErrors = s.counter .returnHeaderErrors := by
  rcases hstate with hup | htraining
  · obtain ⟨due, hdue⟩ := mirroredIn_eq_withDue ascending
      (fun u => (u.count .returnWindowsGood).updLink fun l => { l with lossRun := 0 }) s.windowTaken
    obtain ⟨hlosses, hfailures, hsunk, hheader⟩ := goodWindows_counters s
    obtain ⟨hlost, hcounter⟩ := lose_over (s := s) (l := s.link.goodHeader)
      (u := { (s.count .returnWindowsGood).status with due }) (.inl hup) rfl hlosses hfailures hsunk
    obtain ⟨due', hdue'⟩ := mirroredIn_eq_withDue linkOrder State.lose
      { s with link := s.link.goodHeader, status := { (s.count .returnWindowsGood).status with due } }
    have harrive := (arrive_of_up hup (some h) body).trans (arriveUp_of_not_ready (s := s.windowTaken) hgood hready body)
    rw [mirrored_eq, hdue] at harrive
    exact ⟨_, harrive.trans hdue', hlost.withDue due', hcounter.trans hheader⟩
  · obtain ⟨hlost, hcounter⟩ := lose_over (s := s) (l := s.link.goodHeader) (u := s.status) (.inr htraining) rfl rfl rfl rfl
    obtain ⟨due, hdue⟩ := mirroredIn_eq_withDue linkOrder State.lose { s with link := s.link.goodHeader }
    have harrive := (arrive_of_training htraining (some h) body).trans
      (arriveTraining_of_not_ready (s := s.windowTaken) hgood hready body)
    exact ⟨_, harrive.trans hdue, hlost.withDue due, hcounter⟩

/-! ### A good header with READY set while TRAINING (R125, R134) -/

theorem arriveTraining_of_ready (hgood : headerGood s.link.count h = true) (hready : readyOf h = true) (body : List Byte) :
    s.arriveTraining (some h) body =
      mirrored State.testTrial
        (mirrored
          (fun u =>
            ((u.countBy .baseReportedErrors (baseErrorsOf h)).countBy .returnParcelCheckErrors
              (s.parcelErrors h body)).trialErrors (baseErrorsOf h) (s.parcelErrors h body))
          (mirrored (State.takeTally (tallyOf h)) (s.updLink fun l => { l with lossRun := 0 }))) := by
  unfold State.arriveTraining
  refine (if_pos hgood).trans ?_
  simp only [hready, if_true]
  rfl

/-- A tally changes the events of the status unit alone (R144). -/
theorem tallyStatus_eq (b : Byte) (s : State) : ∃ e, s.tallyStatus b = { s.status with events := e } := by
  unfold State.tallyStatus
  split
  · exact ⟨s.status.events, rfl⟩
  · exact ⟨_, rfl⟩

/-- The part of a trial whose window's errors are counted, before the trial is judged (R125). -/
def State.trialCounted (b : Byte) (base own : Nat) (s : State) : State :=
  { s with
    link :=
      { s.link with
        lossRun := 0, tally := b, returnTaken := true
        trialBaseErrors := saturate16 (s.link.trialBaseErrors + base)
        trialOwnErrors := saturate16 (s.link.trialOwnErrors + own) }
    status :=
      { s.tallyStatus b with
        counters :=
          ((s.countBy .baseReportedErrors base).countBy .returnParcelCheckErrors own).status.counters } }

theorem arrive_training_ready (hstate : s.link.state = .training) (hgood : headerGood s.link.count h = true)
    (hready : readyOf h = true) (body : List Byte) :
    ∃ due due', s.arrive (some h) body =
      ((s.trialCounted (tallyOf h) (baseErrorsOf h) (s.parcelErrors h body)).withDue due).testTrial.withDue due' := by
  have harrive := (arrive_of_training hstate (some h) body).trans
    (arriveTraining_of_ready (s := s.windowTaken) hgood hready body)
  obtain ⟨due, hdue⟩ := mirroredIn_eq_withDue ascending (State.takeTally (tallyOf h))
    (s.windowTaken.updLink fun l => { l with lossRun := 0 })
  obtain ⟨e, he⟩ := tallyStatus_eq (tallyOf h) s
  have htally : (s.windowTaken.updLink fun l => { l with lossRun := 0 }).takeTally (tallyOf h) =
      { s with
        link := { s.link with lossRun := 0, returnTaken := true, tally := tallyOf h }
        status := { s.status with events := e } } := (takeTally_eq _ _).trans (by rw [← he]; rfl)
  rw [mirrored_eq, mirrored_eq, mirrored_eq, hdue, htally] at harrive
  unfold State.trialCounted
  rw [he]
  obtain ⟨due', hdue'⟩ := mirroredIn_eq_withDue ascending
    (fun u =>
      ((u.countBy .baseReportedErrors (baseErrorsOf h)).countBy .returnParcelCheckErrors
        (s.parcelErrors h body)).trialErrors (baseErrorsOf h) (s.parcelErrors h body))
    (State.withDue
      { s with
        link := { s.link with lossRun := 0, returnTaken := true, tally := tallyOf h }
        status := { s.status with events := e } } due)
  obtain ⟨due'', hdue''⟩ := mirroredIn_eq_withDue ascending State.testTrial
    (State.withDue
      { s with
        link :=
          { s.link with
            lossRun := 0, tally := tallyOf h, returnTaken := true
            trialBaseErrors := saturate16 (s.link.trialBaseErrors + baseErrorsOf h)
            trialOwnErrors := saturate16 (s.link.trialOwnErrors + s.parcelErrors h body) }
        status :=
          { s.status with
            events := e
            counters :=
              ((s.countBy .baseReportedErrors (baseErrorsOf h)).countBy .returnParcelCheckErrors
                (s.parcelErrors h body)).status.counters } } due')
  exact ⟨due', due'', harrive.trans ((congrArg (mirroredIn ascending State.testTrial) hdue').trans hdue'')⟩

theorem training_ready (hstate : s.link.state = .training) (hgood : headerGood s.link.count h = true)
    (hready : readyOf h = true) (body : List Byte) :
    ∃ due, s.arrive (some h) body =
      ({ s with
        link := { s.link.tried 0 (baseErrorsOf h) (s.parcelErrors h body) with tally := tallyOf h }
        status :=
          { s.tallyStatus (tallyOf h) with
            counters :=
              (((s.countBy .baseReportedErrors (baseErrorsOf h)).countBy .returnParcelCheckErrors
                (s.parcelErrors h body)).countBy .trainingFailures
                (s.link.trialFails (baseErrorsOf h) (s.parcelErrors h body))).status.counters } } : State).withDue due := by
  obtain ⟨due, due', harrive⟩ := arrive_training_ready hstate hgood hready body
  refine ⟨due', harrive.trans ?_⟩
  rw [testTrial_taken (by exact hstate) rfl]
  rfl

end Sys2Proof.Machine

/-!
Return windows: a good header with READY set while UP, and what it hands on (for O28).
-/

namespace Sys2Proof.Machine

/-! ### The status unit of a window that is handed on -/

/-- The status unit `u` of a part that judges a window of tally `b` and `base` reported errors, and the status unit
`v` of the same part without the judgement: they differ in the window's own events and counts alone. -/
structure Judges (s : State) (b : Byte) (base : Nat) (u v : StatusUnit) : Prop where
  events : ∀ e, e ≠ .tally → u.pending e = v.pending e
  tally : b ≠ s.link.tally → u.pending .tally = true
  counters : ∀ c, c ≠ .returnWindowsGood → c ≠ .baseReportedErrors → u.counter c = v.counter c
  good : u.counter .returnWindowsGood = saturate (s.counter .returnWindowsGood) 1
  reported : u.counter .baseReportedErrors = saturate (s.counter .baseReportedErrors) base
  full : u.inboundFull = v.inboundFull

section judges

variable {s : State} {b : Byte} {base : Nat} {u v : StatusUnit}

theorem Judges.adds {g : StatusUnit → StatusUnit} (h : Judges s b base u v) (hg : AddsOnly g) :
    Judges s b base (g u) (g v) where
  events e he := hg.pending (h.events e he)
  tally hb := hg.pending_of_pending (h.tally hb)
  counters c hgood hbase := hg.counters u v c (h.counters c hgood hbase)
  good := (hg.window u _ rfl).trans h.good
  reported := (hg.window u _ rfl).trans h.reported
  full := hg.full u v h.full

theorem Judges.withDue (h : Judges s b base u v) (due : List (Fin 32)) : Judges s b base { u with due } v :=
  ⟨h.events, h.tally, h.counters, h.good, h.reported, h.full⟩

theorem Judges.countsErrors (h : Judges s b base u v) :
    Judges s b base (u.counts .returnParcelCheckErrors) (v.counts .returnParcelCheckErrors) where
  events := h.events
  tally := h.tally
  counters c hgood hbase := by rw [counts_counter, counts_counter, h.counters c hgood hbase]
  good := (counts_counter _ _ u).trans ((if_neg (by decide)).trans h.good)
  reported := (counts_counter _ _ u).trans ((if_neg (by decide)).trans h.reported)
  full := h.full

end judges

/-! ### Blind steps, one after another -/

theorem Blind.status {f : State → State} {s : State} (h : Blind f s) :
    ∃ g, AddsOnly g ∧ (f s).status = g s.status ∧ ∀ l c u, f (s.over l c u) = (f s).over l c (g u) := by
  obtain ⟨g, hg, heq⟩ := h
  have hself : f s = (f s).over s.link s.sched (g s.status) := heq s.link s.sched s.status
  exact ⟨g, hg, congrArg State.status hself, heq⟩

section folds

variable {s : State} {b : Byte} {base : Nat}

/-- A blind step of the part that judges a window. -/
theorem Judges.step {f : State → State} {x : State} {l : LinkUnit} {c : Scheduler} {u : StatusUnit}
    (h : Judges s b base u x.status) (hf : Blind f x) (o : WordOrder) :
    ∃ u', mirroredIn o f (x.over l c u) = (f x).over l c u' ∧ Judges s b base u' (f x).status := by
  obtain ⟨g, hg, hstatus, heq⟩ := hf.status
  obtain ⟨due, hdue⟩ := mirroredIn_eq_withDue o f (x.over l c u)
  refine ⟨{ g u with due }, hdue.trans ?_, ?_⟩
  · rw [heq]
    rfl
  · rw [hstatus]
    exact (h.adds hg).withDue due

theorem answers_over (a : Fin 4 → Answer) (rs : List (Fin 4)) {x : State} {l : LinkUnit} {c : Scheduler} {u : StatusUnit}
    (h : Judges s b base u x.status) :
    ∃ u', rs.foldl (fun t r => mirroredIn (failOrder r) (State.takeAnswer r (a r)) t) (x.over l c u) =
        (rs.foldl (fun t r => t.takeAnswer r (a r)) x).over l c u' ∧
      Judges s b base u' (rs.foldl (fun t r => t.takeAnswer r (a r)) x).status := by
  induction rs generalizing x u with
  | nil => exact ⟨u, rfl, h⟩
  | cons r rs ih =>
    obtain ⟨u', heq, h'⟩ := h.step (l := l) (c := c) (blind_takeAnswer x r (a r)) (failOrder r)
    rw [List.foldl_cons, List.foldl_cons, heq]
    exact ih h'

theorem takeFound_of_error {f : Found} (hf : f.isError = true) (x : State) :
    x.takeFound f =
      { x.count .returnParcelCheckErrors with
        link := { x.link with monitorErrors := saturate16 (x.link.monitorErrors + 1) } } := if_pos hf

/-- A parcel that is no error, handed on by its kind (R134, R176). -/
def State.takeParcel (h payload : List Byte) (x : State) : State :=
  if byteAt h 0 = 0x20 then x.takeCmsg (if byteAt h 4 = 1 then 1 else 0) (cmsgOf h payload)
  else if byteAt h 0 = 0x21 then x.takePiece (pieceOf h payload)
  else if byteAt h 0 = 0x22 then
    x.takeReturnEnd ((byteAt h 4).getLsbD 0) (BitVec.ofNat 16 (fieldAt h 6 2)) ((byteAt h 1).getLsbD 2)
  else x

theorem takeFound_of_parcel {h payload : List Byte} (hf : (Found.parcel h payload).isError = false) (x : State) :
    x.takeFound (.parcel h payload) = x.takeParcel h payload := by
  have hkind (k : Byte) : byteAt h 0 = k ↔ (byteAt h 0).toNat = k.toNat := BitVec.toNat_inj.symm
  unfold State.takeFound State.takeParcel
  rw [if_neg (Bool.eq_false_iff.1 hf)]
  simp only [hkind]
  generalize (byteAt h 0).toNat = n
  split
  · rfl
  · rfl
  · rfl
  · next hc hp he => exact ((if_neg hc).trans ((if_neg hp).trans (if_neg he))).symm

/-- A parcel that is no error is handed to its ring, or is none's (R134). -/
theorem blind_takeFound {f : Found} (hf : f.isError = false) (x : State) : Blind (State.takeFound f) x := by
  cases f with
  | bad => cases hf
  | parcel h payload =>
    by_cases hcmsg : byteAt h 0 = 0x20
    · exact (blind_takeCmsg x (if byteAt h 4 = 1 then 1 else 0) (cmsgOf h payload)).congr fun _ _ _ =>
        (takeFound_of_parcel hf _).trans (if_pos hcmsg)
    · by_cases hpiece : byteAt h 0 = 0x21
      · exact (blind_takePiece x (pieceOf h payload)).congr fun _ _ _ =>
          (takeFound_of_parcel hf _).trans ((if_neg hcmsg).trans (if_pos hpiece))
      · by_cases hend : byteAt h 0 = 0x22
        · exact (blind_takeReturnEnd x _ _ _).congr fun _ _ _ =>
            (takeFound_of_parcel hf _).trans ((if_neg hcmsg).trans ((if_neg hpiece).trans (if_pos hend)))
        · exact (Blind.refl x).congr fun _ _ _ =>
            (takeFound_of_parcel hf _).trans ((if_neg hcmsg).trans ((if_neg hpiece).trans (if_neg hend)))

theorem saturate16_saturate16 (m n : Nat) : saturate16 (saturate16 m + n) = saturate16 (m + n) := by
  unfold saturate16
  split_ifs <;> omega

/-- The parcels of a window of the part that judges it: their errors enter the monitor (R134, R136). -/
theorem parcels_over (fs : List Found) {x : State} {l : LinkUnit} {c : Scheduler} {u : StatusUnit} {m : Nat}
    (h : Judges s b base u x.status) (hm : l.monitorErrors = saturate16 m) :
    ∃ u', fs.foldl (fun t f => mirroredIn ascending (State.takeFound f) t) (x.over l c u) =
        (fs.foldl (fun t f => t.takeFound f) x).over
          { l with monitorErrors := saturate16 (m + (fs.filter Found.isError).length) } c u' ∧
      Judges s b base u' (fs.foldl (fun t f => t.takeFound f) x).status ∧
      (fs.foldl (fun t f => t.takeFound f) x).counter .returnParcelCheckErrors =
        saturate (x.counter .returnParcelCheckErrors) (fs.filter Found.isError).length := by
  induction fs generalizing x l u m with
  | nil =>
    refine ⟨u, ?_, h, (saturate_zero _).symm⟩
    rw [List.filter_nil, List.length_nil, Nat.add_zero, ← hm]
    rfl
  | cons f fs ih =>
    rw [List.foldl_cons, List.foldl_cons]
    cases hf : f.isError with
    | false =>
      obtain ⟨u', heq, h'⟩ := h.step (l := l) (c := c) (blind_takeFound hf x) ascending
      obtain ⟨g, hg, hstatus, -⟩ := (blind_takeFound hf x).status
      obtain ⟨u'', hfold, hjudges, hcount⟩ := ih h' hm
      have herrors : (x.takeFound f).counter .returnParcelCheckErrors = x.counter .returnParcelCheckErrors :=
        (congrArg (fun w => StatusUnit.counter w .returnParcelCheckErrors) hstatus).trans (hg.window _ _ rfl)
      rw [List.filter_cons_of_neg (by simp [hf]), heq, hfold, hcount, herrors]
      exact ⟨u'', rfl, hjudges, rfl⟩
    | true =>
      obtain ⟨due, hdue⟩ := mirroredIn_eq_withDue ascending (State.takeFound f) (x.over l c u)
      have heq : mirroredIn ascending (State.takeFound f) (x.over l c u) =
          (x.takeFound f).over { l with monitorErrors := saturate16 (m + 1) } c
            { u.counts .returnParcelCheckErrors with due } := by
        have herrors : saturate16 (l.monitorErrors + 1) = saturate16 (m + 1) := by rw [hm, saturate16_saturate16]
        rw [hdue, takeFound_of_error hf, takeFound_of_error hf, ← herrors]
        rfl
      have hstatus : (x.takeFound f).status = x.status.counts .returnParcelCheckErrors := by
        rw [takeFound_of_error hf]
        rfl
      have h' : Judges s b base { u.counts .returnParcelCheckErrors with due } (x.takeFound f).status := by
        rw [hstatus]
        exact h.countsErrors.withDue due
      obtain ⟨u'', hfold, hjudges, hcount⟩ := ih (l := { l with monitorErrors := saturate16 (m + 1) }) h' rfl
      have herrors : (x.takeFound f).counter .returnParcelCheckErrors =
          saturate (x.counter .returnParcelCheckErrors) 1 := by
        rw [takeFound_of_error hf]
        exact count_counter_same _ x
      rw [List.filter_cons_of_pos hf, List.length_cons, heq, hfold, hcount, herrors, saturate_saturate,
        Nat.add_comm 1, Nat.add_assoc, Nat.add_comm 1]
      exact ⟨u'', rfl, hjudges, rfl⟩

end folds

/-! ### Holds and echoes (R92, R138) -/

/-- The hold timers after a HOLD (R92). -/
def heldTimers (lanes : List (Fin 5)) (count : Byte) (v : Vector Byte 5) : Vector Byte 5 :=
  lanes.foldl (fun v i => v.set i.val count i.isLt) v

theorem getElem_heldTimers (lanes : List (Fin 5)) (count : Byte) (v : Vector Byte 5) (i : Fin 5) :
    (heldTimers lanes count v)[i] = if i ∈ lanes then count else v[i] := by
  induction lanes generalizing v with
  | nil => rfl
  | cons j lanes ih =>
    have hset : (v.set j.val count j.isLt)[i] = if j = i then count else v[i] := getElem_set_slot v j i count
    have hcons : heldTimers (j :: lanes) count v = heldTimers lanes count (v.set j.val count j.isLt) := rfl
    rw [hcons, ih, hset]
    by_cases hlanes : i ∈ lanes
    · rw [if_pos hlanes, if_pos (List.mem_cons_of_mem j hlanes)]
    · rw [if_neg hlanes]
      by_cases hj : j = i
      · rw [if_pos hj, if_pos (by rw [hj]; exact List.mem_cons_self)]
      · rw [if_neg hj, if_neg fun h => (List.mem_cons.1 h).elim (fun heq => hj heq.symm) hlanes]

theorem mem_holdLanes (h : List Byte) (i : Fin 5) : i ∈ holdLanes h ↔ (byteAt h 8).getLsbD i.val = true := by
  unfold holdLanes
  rw [List.mem_filter]
  exact and_iff_right (List.mem_finRange i)

/-- A pending change after an echo (R138). -/
def PendingChange.echoedBy (e : Option (Change × Byte)) (c : PendingChange) : PendingChange :=
  if e = some (c.change, linkFrameNumber c.effective) then { c with echoed := true } else c

theorem echoed_eq (l : LinkUnit) (e : Option (Change × Byte)) :
    l.echoed e = { l with change := l.change.map (PendingChange.echoedBy e) } := rfl

theorem echoedBy_change (e : Option (Change × Byte)) (c : PendingChange) : (c.echoedBy e).change = c.change := by
  unfold PendingChange.echoedBy
  split <;> rfl

theorem echoedBy_of_other {e : Option (Change × Byte)} {c : PendingChange}
    (h : e ≠ some (c.change, linkFrameNumber c.effective)) : c.echoedBy e = c := if_neg h

/-- A part whose pending change no echo meets keeps it. -/
theorem updLink_echoed_of_kept {s : State} {e : Option (Change × Byte)}
    (h : s.link.change.map (PendingChange.echoedBy e) = s.link.change) : s.updLink (fun l => l.echoed e) = s := by
  show { s with link := { s.link with change := s.link.change.map (PendingChange.echoedBy e) } } = s
  rw [h]

theorem takeEcho_eq (e : Option (Change × Byte)) (s : State) :
    s.takeEcho e = s.updLink fun l => l.echoed e := by
  unfold State.takeEcho
  cases hchange : s.link.change with
  | none =>
    rw [updLink_echoed_of_kept (by rw [hchange]; rfl)]
    cases e <;> rfl
  | some p =>
    cases e with
    | none => rw [updLink_echoed_of_kept (by rw [hchange]; rfl)]
    | some cn =>
      obtain ⟨c, n⟩ := cn
      dsimp only
      by_cases hmatch : c = p.change ∧ n = linkFrameNumber p.effective
      · obtain ⟨rfl, rfl⟩ := hmatch
        have hechoed : p.echoedBy (some (p.change, linkFrameNumber p.effective)) = { p with echoed := true } := if_pos rfl
        rw [if_pos ⟨rfl, rfl⟩]
        simp only [State.updLink, echoed_eq, hchange, Option.map_some, hechoed]
      · have hother : some (c, n) ≠ some (p.change, linkFrameNumber p.effective) := fun heq => by
          cases heq
          exact hmatch ⟨rfl, rfl⟩
        rw [if_neg hmatch, updLink_echoed_of_kept (by rw [hchange, Option.map_some, echoedBy_of_other hother])]

/-- An echo leaves whether a SPLIT change is pending (R138). -/
theorem echoed_splitPending (l : LinkUnit) (e : Option (Change × Byte)) : (l.echoed e).splitPending = l.splitPending := by
  rw [echoed_eq]
  unfold LinkUnit.splitPending
  dsimp only
  cases l.change with
  | none => rfl
  | some c =>
    simp only [Option.map_some]
    rw [echoedBy_change]

end Sys2Proof.Machine

/-!
Return windows: the hand-out of a window while UP, and how windows are judged (O28).
-/

namespace Sys2Proof.Machine

/-! ### What the judgement itself counts (R132, R134, R144) -/

theorem counter_index_ne_of_ne {c d : Counter} (hd : d.ofWindow = true) (hne : c ≠ d) : d.index ≠ c.index := by
  by_cases hc : c.ofWindow = true
  · cases d
    case returnWindowsGood | baseReportedErrors | returnParcelCheckErrors =>
      cases c
      case returnWindowsGood | baseReportedErrors | returnParcelCheckErrors =>
        revert hne
        decide
      all_goals cases hc
    all_goals cases hd
  · exact (index_ne_of_ofWindow (Bool.eq_false_iff.2 hc) hd).symm

theorem tallyStatus_pending_other {e : Event} (he : e ≠ .tally) (b : Byte) (s : State) :
    (s.tallyStatus b).pending e = s.status.pending e := by
  unfold State.tallyStatus
  split
  · rfl
  · have hmask : Event.tally.mask &&& e.mask = 0 := by
      cases e with
      | tally => exact absurd rfl he
      | _ => decide
    unfold StatusUnit.pending
    rw [decide_eq_decide, raise_events, or_and_ne_zero_iff]
    exact or_iff_left (not_not.2 hmask)

/-- A tally is judged by the tally and the events that stand (R144). -/
theorem tallyStatus_over {x s : State} (htally : x.link.tally = s.link.tally) (hevents : x.status.events = s.status.events)
    (b : Byte) : x.tallyStatus b = { x.status with events := (s.tallyStatus b).events } := by
  unfold State.tallyStatus
  rw [htally]
  split
  · rw [← hevents]
  · show ({ x.status with events := x.status.events ||| Event.tally.mask } : StatusUnit) = _
    rw [hevents]
    rfl

theorem takeTally_over {x s : State} (htally : x.link.tally = s.link.tally) (hevents : x.status.events = s.status.events)
    (b : Byte) :
    x.takeTally b =
      { x with
        link := { x.link with tally := b }, status := { x.status with events := (s.tallyStatus b).events } } := by
  rw [takeTally_eq, tallyStatus_over htally hevents]

section up

variable {s : State} {h body : List Byte}

/-- The link unit of a window that is handed on, once its tally and its reported errors are taken. -/
def LinkUnit.handing (b : Byte) (base : Nat) (l : LinkUnit) : LinkUnit :=
  { l with lossRun := 0, returnTaken := true, tally := b, monitorErrors := saturate16 (l.monitorErrors + base) }

/-- The status unit of such a window. -/
def State.handingStatus (b : Byte) (base : Nat) (s : State) : StatusUnit :=
  { s.tallyStatus b with
    counters := ((s.count .returnWindowsGood).countBy .baseReportedErrors base).status.counters }

theorem handingStatus_judges (b : Byte) (base : Nat) (s : State) :
    Judges s b base (s.handingStatus b base) s.status where
  events e he := tallyStatus_pending_other he b s
  tally hb := tallyStatus_pending hb
  counters c hgood hbase := by
    show ((s.count .returnWindowsGood).countBy .baseReportedErrors base).counter c = s.counter c
    rw [countBy_counter_ne (counter_index_ne_of_ne rfl hbase), count_counter_ne (counter_index_ne_of_ne rfl hgood)]
  good := by
    show ((s.count .returnWindowsGood).countBy .baseReportedErrors base).counter .returnWindowsGood = _
    rw [countBy_counter_ne (by decide)]
    exact count_counter_same _ s
  reported := by
    show ((s.count .returnWindowsGood).countBy .baseReportedErrors base).counter .baseReportedErrors = _
    rw [countBy_counter_same, count_counter_ne (by decide)]
  full := by
    obtain ⟨e, he⟩ := tallyStatus_eq b s
    unfold State.handingStatus
    rw [he]

/-- A step of the part that judges a window which is not blind to the link unit or the scheduler. -/
theorem mirroredIn_over {f : State → State} {x : State} {l l' : LinkUnit} {c c' : Scheduler} {u u' : StatusUnit} (o : WordOrder)
    (hf : f (x.over l c u) = x.over l' c' u') :
    ∃ due, mirroredIn o f (x.over l c u) = x.over l' c' { u' with due } := by
  obtain ⟨due, hdue⟩ := mirroredIn_eq_withDue o f (x.over l c u)
  exact ⟨due, by rw [hdue, hf]; rfl⟩

/-- The status unit of a window once it is counted good, and then its tally taken. -/
def State.tallied (b : Byte) (due : List (Fin 32)) (s : State) : StatusUnit :=
  { (s.count .returnWindowsGood).status with events := (s.tallyStatus b).events, due }

/-- A window that is handed on, before its answers are taken. -/
theorem handing_over (b : Byte) (base : Nat) (s : State) :
    ∃ due, mirrored (fun t => (t.countBy .baseReportedErrors base).monitorErrors base)
        (mirrored (State.takeTally b)
          (mirrored (fun u => (u.count .returnWindowsGood).updLink fun l => { l with lossRun := 0 }) s.windowTaken)) =
      s.over (s.link.handing b base) s.sched { s.handingStatus b base with due } := by
  obtain ⟨due, hgood⟩ := mirroredIn_over (x := s) (l := { s.link with returnTaken := true }) (c := s.sched) (u := s.status)
    (l' := s.link.goodHeader) (c' := s.sched) (u' := (s.count .returnWindowsGood).status)
    (f := fun u => (u.count .returnWindowsGood).updLink fun l => { l with lossRun := 0 }) ascending rfl
  obtain ⟨due', htally⟩ := mirroredIn_over (x := s) (l := s.link.goodHeader) (c := s.sched)
    (u := { (s.count .returnWindowsGood).status with due })
    (l' := { s.link.goodHeader with tally := b }) (c' := s.sched) (u' := s.tallied b due)
    (f := State.takeTally b) ascending (takeTally_over (s := s) (by rfl) (by rfl) b)
  obtain ⟨due'', hbase⟩ := mirroredIn_over (x := s) (l := { s.link.goodHeader with tally := b }) (c := s.sched)
    (u := { s.tallied b due with due := due' }) (l' := s.link.handing b base) (c' := s.sched)
    (u' := { ((s.count .returnWindowsGood).countBy .baseReportedErrors base).status with
             events := (s.tallyStatus b).events, due := due' })
    (f := fun t => (t.countBy .baseReportedErrors base).monitorErrors base) ascending rfl
  have hstatus : s.tallyStatus b = { s.status with events := (s.tallyStatus b).events } := tallyStatus_over rfl rfl b
  refine ⟨due'', ?_⟩
  unfold State.handingStatus
  rw [hstatus]
  exact (congrArg (fun x => mirroredIn ascending _ (mirroredIn ascending _ x)) hgood).trans
    ((congrArg (mirroredIn ascending _) htally).trans hbase)

/-- The link unit of a window that is handed on, once its echo and its parcels are taken. -/
def LinkUnit.handed (b : Byte) (base own : Nat) (echo : Option (Change × Byte)) (l : LinkUnit) : LinkUnit :=
  { (l.handing b base).echoed echo with monitorErrors := saturate16 (l.monitorErrors + base + own) }

/-- The part that a window while UP is handed to, without the window's own judgement (R134). -/
def State.handedTo (h body : List Byte) (s : State) : State :=
  (returnParcels h body s.link.cells.2).foldl (fun u f => u.takeFound f)
    ((List.finRange 4).foldl (fun u r => u.takeAnswer r (Answer.ofByte (byteAt h (4 + r.val)))) s)

/-- The scheduler after the window's HOLD (R92). -/
def Scheduler.held (h : List Byte) (c : Scheduler) : Scheduler :=
  { c with hold := heldTimers (holdLanes h) (byteAt h 9) c.hold }

theorem answers_window {d : Counter} (hd : d.ofWindow = true) (a : Fin 4 → Answer) (rs : List (Fin 4)) (x : State) :
    (rs.foldl (fun t r => t.takeAnswer r (a r)) x).counter d = x.counter d := by
  induction rs generalizing x with
  | nil => rfl
  | cons r rs ih =>
    obtain ⟨g, hg, hstatus, -⟩ := (blind_takeAnswer x r (a r)).status
    rw [List.foldl_cons, ih]
    exact (congrArg (fun u => StatusUnit.counter u d) hstatus).trans (hg.window _ d hd)

theorem handOut_over (h body : List Byte) (s : State) :
    ∃ u, State.handOut h body
        (mirrored (fun u => (u.count .returnWindowsGood).updLink fun l => { l with lossRun := 0 }) s.windowTaken) =
        (s.handedTo h body).over
          (s.link.handed (tallyOf h) (baseErrorsOf h) (s.parcelErrors h body) (echoOf h)) (s.sched.held h) u ∧
      Judges s (tallyOf h) (baseErrorsOf h) u (s.handedTo h body).status ∧
      (s.handedTo h body).counter .returnParcelCheckErrors =
        saturate (s.counter .returnParcelCheckErrors) (s.parcelErrors h body) := by
  obtain ⟨due, hhanding⟩ := handing_over (tallyOf h) (baseErrorsOf h) s
  have hjudges := (handingStatus_judges (tallyOf h) (baseErrorsOf h) s).withDue due
  obtain ⟨u₁, hanswers, hjudges₁⟩ := answers_over (l := s.link.handing (tallyOf h) (baseErrorsOf h)) (c := s.sched)
    (fun r => Answer.ofByte (byteAt h (4 + r.val))) (List.finRange 4) hjudges
  generalize hanswered : (List.finRange 4).foldl
    (fun (u : State) r => u.takeAnswer r (Answer.ofByte (byteAt h (4 + r.val)))) s = x at hanswers hjudges₁
  obtain ⟨due₂, hhold⟩ := mirroredIn_over (x := x) (l := s.link.handing (tallyOf h) (baseErrorsOf h)) (c := s.sched)
    (u := u₁) (l' := s.link.handing (tallyOf h) (baseErrorsOf h)) (c' := s.sched.held h) (u' := u₁) (f := State.takeHold (holdLanes h) (byteAt h 9)) ascending rfl
  obtain ⟨due₃, hecho⟩ := mirroredIn_over (x := x) (l := s.link.handing (tallyOf h) (baseErrorsOf h))
    (c := s.sched.held h) (u := { u₁ with due := due₂ })
    (l' := (s.link.handing (tallyOf h) (baseErrorsOf h)).echoed (echoOf h)) (c' := s.sched.held h)
    (u' := { u₁ with due := due₂ }) ascending (takeEcho_eq (echoOf h) _)
  obtain ⟨u, hparcels, hjudged, herrors⟩ := parcels_over (returnParcels h body s.link.cells.2)
    (l := (s.link.handing (tallyOf h) (baseErrorsOf h)).echoed (echoOf h)) (c := s.sched.held h)
    (m := s.link.monitorErrors + baseErrorsOf h) ((hjudges₁.withDue due₂).withDue due₃) rfl
  have hcells : (mirrored (fun u => (u.count .returnWindowsGood).updLink fun l => { l with lossRun := 0 })
      s.windowTaken).link.cells = s.link.cells := by simp [State.windowTaken]
  refine ⟨u, ?_, ?_, ?_⟩
  · unfold State.handOut
    dsimp only
    rw [hcells, hhanding, hanswers]
    simp only [mirrored_eq]
    rw [hhold, hecho, hparcels]
    unfold State.handedTo
    rw [hanswered]
    rfl
  · unfold State.handedTo
    rw [hanswered]
    exact hjudged
  · have hkept := answers_window (d := .returnParcelCheckErrors) rfl (fun r => Answer.ofByte (byteAt h (4 + r.val)))
      (List.finRange 4) s
    rw [hanswered] at hkept
    unfold State.handedTo
    rw [hanswered, herrors, hkept]
    rfl

theorem arriveUp_of_ready (hgood : headerGood s.link.count h = true) (hready : readyOf h = true) (body : List Byte) :
    s.arriveUp (some h) body =
      mirrored State.monitorArrival
        (State.handOut h body
          (mirrored (fun u => (u.count .returnWindowsGood).updLink fun l => { l with lossRun := 0 }) s)) := by
  unfold State.arriveUp
  refine (if_pos hgood).trans ?_
  simp only [hready, if_true]

/-- What the parts of a window while UP leave, that no parcel or answer writes (R134). -/
theorem handedTo_frame (h body : List Byte) (s : State) :
    SameCapture s (s.handedTo h body) ∧ (s.handedTo h body).straps = s.straps ∧ (s.handedTo h body).out = s.out ∧
      (s.handedTo h body).pending = s.pending ∧ (s.handedTo h body).mbox = s.mbox := by
  obtain ⟨u, hover, -, -⟩ := handOut_over h body s
  have hframe := handOut_frame h body
    (mirrored (fun u => (u.count .returnWindowsGood).updLink fun l => { l with lossRun := 0 }) s.windowTaken)
  rw [hover] at hframe
  obtain ⟨⟨hmap, htracker, hstitch⟩, -, -, -, -, -, -, hstraps, -, -, -, -, -, -, -, -, -, -, hmbox, -, -, -, -, hout, hpending⟩ :=
    hframe
  refine ⟨⟨hmap.trans ?_, htracker.trans ?_, hstitch.trans ?_⟩, hstraps.trans ?_, hout.trans ?_, hpending.trans ?_,
    hmbox.trans ?_⟩ <;> simp [State.windowTaken]

theorem blockArrival_tally (b : Byte) (l : LinkUnit) :
    LinkUnit.blockArrival { l with tally := b } = { l.blockArrival with tally := b } := by
  unfold LinkUnit.blockArrival
  dsimp only
  split <;> rfl

/-- The link unit of a window while UP, once its block has been tested (R134, R136, R138). -/
theorem handed_blockArrival (b : Byte) (base own : Nat) (echo : Option (Change × Byte)) (l : LinkUnit) :
    (l.handed b base own echo).blockArrival =
      { (l.echoed echo).monitored 0 (base + own) with tally := b } := by
  rw [monitored_eq, ← blockArrival_tally, ← Nat.add_assoc]
  rfl

theorem handed_blockSupersedes (b : Byte) (base own : Nat) (echo : Option (Change × Byte)) (l : LinkUnit) :
    (l.handed b base own echo).blockSupersedes ↔ l.supersedes (base + own) := by
  have hsplit : (l.handed b base own echo).splitPending = l.splitPending :=
    echoed_splitPending (l.handing b base) echo
  unfold LinkUnit.blockSupersedes LinkUnit.supersedes
  rw [hsplit, ← Nat.add_assoc]
  rfl

/-- A window while UP with a good header and READY set is handed on, and its block is tested (R134, R136). -/
theorem up_ready (hstate : s.link.state = .up) (hgood : headerGood s.link.count h = true) (hready : readyOf h = true)
    (body : List Byte) :
    ∃ due u, s.arrive (some h) body =
        (State.monitorArrival ((s.handedTo h body).over
          (s.link.handed (tallyOf h) (baseErrorsOf h) (s.parcelErrors h body) (echoOf h)) (s.sched.held h) u)).withDue due ∧
      Judges s (tallyOf h) (baseErrorsOf h) u (s.handedTo h body).status ∧
      (s.handedTo h body).counter .returnParcelCheckErrors =
        saturate (s.counter .returnParcelCheckErrors) (s.parcelErrors h body) := by
  obtain ⟨u, hover, hjudges, herrors⟩ := handOut_over h body s
  have harrive := (arrive_of_up hstate (some h) body).trans (arriveUp_of_ready (s := s.windowTaken) hgood hready body)
  rw [hover] at harrive
  obtain ⟨due, hdue⟩ := mirroredIn_eq_withDue ascending State.monitorArrival ((s.handedTo h body).over
    (s.link.handed (tallyOf h) (baseErrorsOf h) (s.parcelErrors h body) (echoOf h)) (s.sched.held h) u)
  exact ⟨due, u, harrive.trans hdue, hjudges, herrors⟩

end up

/-! ### The headers and parcels of return windows (R132, R134, R138, R176) -/

theorem echoOf_eq (h : List Byte) {code : Nat} (hcode : code = (byteAt h 0x0B).toNat) :
    echoOf h =
      if code = 1 then (Rate.ofCode (fieldAt h 0x0D 2)).map (fun r => (.rate r, byteAt h 0x0C))
      else if code = 2 then some (.split (fieldAt h 0x0D 2) (fieldAt h 0x0F 2), byteAt h 0x0C)
      else none := by
  unfold echoOf
  rw [← hcode]
  rcases code with _ | _ | _ | n
  · rfl
  · rfl
  · rfl
  · exact ((if_neg (by omega)).trans (if_neg (by omega))).symm

theorem answerOfByte_eq (b : Byte) :
    Answer.ofByte b =
      if b.toNat % 4 = 1 then .ack (b.getLsbD 7)
      else if b.toNat % 4 = 2 then .nak (b.getLsbD 7) else .none := by
  have htoggle : decide (128 ≤ b.toNat) = b.getLsbD 7 := b.msb_eq_decide.symm.trans b.msb_eq_getLsbD_last
  unfold Answer.ofByte
  dsimp only
  rw [htoggle]
  generalize b.toNat % 4 = n
  rcases n with _ | _ | _ | n
  · rfl
  · rfl
  · rfl
  · exact ((if_neg (by omega)).trans (if_neg (by omega))).symm

theorem bytesAt_add (bs : List Byte) (i m n : Nat) : bytesAt bs i (m + n) = bytesAt bs i m ++ bytesAt bs (i + m) n := by
  induction m generalizing i with
  | zero => rw [Nat.zero_add]; rfl
  | succ m ih =>
    rw [Nat.add_right_comm, bytesAt, ih, bytesAt, List.cons_append, Nat.add_assoc, Nat.add_comm 1 m]

theorem bytesAt_length (bs : List Byte) (i n : Nat) : (bytesAt bs i n).length = n := by
  induction n generalizing i with
  | zero => rfl
  | succ n ih => rw [bytesAt, List.length_cons, ih]

theorem bytesAt_eq_map (bs : List Byte) (i n : Nat) :
    bytesAt bs i n = (List.range n).map (fun j => byteAt bs (i + j)) := by
  induction n generalizing i with
  | zero => rfl
  | succ n ih =>
    rw [bytesAt, ih, List.range_succ_eq_map, List.map_cons, List.map_map]
    refine congrArg (byteAt bs i :: ·) (List.map_congr_left fun j _ => ?_)
    show byteAt bs (i + 1 + j) = byteAt bs (i + (j + 1))
    rw [Nat.add_assoc, Nat.add_comm 1 j]

theorem padTo_eq_map (n : Nat) (bs : List Byte) : padTo n bs = (List.range n).map (byteAt bs) :=
  (bytesAt_eq_map bs 0 n).trans (List.map_congr_left fun j _ => by rw [Nat.zero_add])

theorem returnKind_iff (k : Byte) : returnKind k = false ↔ k ∉ [0x14, 0x20, 0x21, 0x22] := by
  unfold returnKind
  simp [not_or, and_assoc]

theorem findParcels_succ (body : List Byte) (n off cells length used : Nat) (hlength : length = fieldAt body (off + 2) 2)
    (hused : used = 1 + (length + 31) / 32) :
    findParcels body (n + 1) off cells =
      if cells < used ∨ 992 < length ∨ byteAt body off ∉ [0x14, 0x20, 0x21, 0x22] then
        List.replicate (n + 1) .bad
      else
        (if fieldAt body (off + 28 + length) 4 = (linkCheck (bytesAt body off (28 + length))).toNat then
           .parcel (bytesAt body off 28) (bytesAt body (off + 28) length)
         else .bad) ::
          findParcels body n (off + 32 * used) (cells - used) := by
  have hceil : 1 + ceilDiv length 32 = used := hused.symm
  have hunfit : (cells = 0 ∨ returnKind (byteAt body off) = false ∨ Config.maxPayload < length ∨ cells < used) ↔
      (cells < used ∨ 992 < length ∨ byteAt body off ∉ [0x14, 0x20, 0x21, 0x22]) := by
    have hmax : Config.maxPayload = 992 := rfl
    have hnone : cells = 0 → cells < used := fun h => by omega
    rw [returnKind_iff, hmax]
    tauto
  have hcovered : bytesAt body off (28 + length) = bytesAt body off 28 ++ bytesAt body (off + 28) length :=
    bytesAt_add body off 28 length
  have htake : (bytesAt body off (28 + length)).take 28 = bytesAt body off 28 := by
    rw [hcovered, List.take_left' (bytesAt_length body off 28)]
  have hdrop : (bytesAt body off (28 + length)).drop 28 = bytesAt body (off + 28) length := by
    rw [hcovered, List.drop_left' (bytesAt_length body off 28)]
  rw [findParcels]
  dsimp only
  rw [← hlength, hceil, htake, hdrop]
  exact if_congr hunfit rfl rfl

theorem headerGood_iff (count : FrameCount) (h : List Byte) :
    headerGood count h = true ↔
      fieldAt h 28 4 = (linkCheck ((List.range 28).map (byteAt h))).toNat ∧ byteAt h 0 = 0x04 ∧
        (byteAt h 1).toNat = count.toNat % 256 := by
  have hframe : byteAt h 1 = linkFrameNumber count ↔ (byteAt h 1).toNat = count.toNat % 256 := by
    rw [← BitVec.toNat_inj]
    exact Iff.of_eq (congrArg ((byteAt h 1).toNat = ·) (BitVec.toNat_ofNat _ _))
  unfold headerGood
  rw [Bool.and_eq_true, Bool.and_eq_true, decide_eq_true_iff, decide_eq_true_iff, decide_eq_true_iff, padTo_eq_map, hframe,
    and_assoc]

theorem isError_eq (f : Found) :
    f.isError =
      (match f with
        | .bad => true
        | .parcel p _ => decide (byteAt p 0 = 0x20 ∧ 1 < (byteAt p 4).toNat)) := by
  cases f with
  | bad => rfl
  | parcel p payload =>
    show (byteAt p 0 == 0x20 && decide (1 < (byteAt p 4).toNat)) = decide (byteAt p 0 = 0x20 ∧ 1 < (byteAt p 4).toNat)
    rw [Bool.decide_and, beq_eq_decide]

theorem monitored_state (l : LinkUnit) (lossRun errors : Nat) : (l.monitored lossRun errors).state = l.state := by
  unfold LinkUnit.monitored
  dsimp only
  split <;> rfl

theorem finalWrites_of_straps {s t : State} (h : t.straps = s.straps) (code tag : BitVec 8) (e : ErrorCode)
    (data : List Word) : finalWrites t code tag e data = finalWrites s code tag e data := by
  unfold finalWrites resultDataWrite resultWordWrite
  rw [h]

section obligation

variable {s : State} {h body : List Byte}

/-- The outcome of a window while UP that is handed on, in the words of R134. -/
theorem up_ready_facts (hstate : s.link.state = .up) (hgood : headerGood s.link.count h = true)
    (hready : readyOf h = true) (body : List Byte) :
    ∃ t, exec (.returnWindowArrival (some h) body) s = .next t ∧
      t.link.state = .up ∧ t.link.tally = tallyOf h ∧
      (tallyOf h ≠ s.link.tally → t.eventPending .tally = true) ∧
      t.counter .returnWindowsGood = saturate (s.counter .returnWindowsGood) 1 ∧
      t.counter .baseReportedErrors = saturate (s.counter .baseReportedErrors) (baseErrorsOf h) ∧
      t.counter .returnParcelCheckErrors =
        saturate (s.counter .returnParcelCheckErrors) (s.parcelErrors h body) ∧
      SameCapture s t ∧ t.straps = s.straps ∧ t.out = s.out ∧ t.pending = s.pending ∧
      t.link =
        { (s.link.echoed (echoOf h)).monitored 0 (baseErrorsOf h + s.parcelErrors h body) with
          tally := tallyOf h } ∧
      t.sched = s.sched.held h ∧ t.rings = (s.handedTo h body).rings ∧ t.free = (s.handedTo h body).free ∧
      t.status.inboundFull = (s.handedTo h body).status.inboundFull ∧
      (∀ e, e ≠ .tally → t.eventPending e = (s.handedTo h body).eventPending e) ∧
      (∀ c, c ≠ .returnWindowsGood → c ≠ .baseReportedErrors → t.counter c = (s.handedTo h body).counter c) ∧
      (¬ s.link.supersedes (baseErrorsOf h + s.parcelErrors h body) →
        t.mbox = s.mbox ∧ t.path = (s.handedTo h body).path) ∧
      (∀ tag, s.mbox.running = some { code := Command.setSplit.code, tag } →
        s.link.supersedes (baseErrorsOf h + s.parcelErrors h body) →
        t.mbox = { s.mbox with running := none } ∧
          t.path =
            { (s.handedTo h body).path with
              other := (s.handedTo h body).path.other ++
                finalWrites s Command.setSplit.code tag .superseded
                  [numberWord (s.link.splitF + atBit 16 s.link.splitRt),
                   BitVec.ofNat 64 s.link.count.toNat] }) := by
  obtain ⟨due, u, harrive, hjudges, herrors⟩ := up_ready hstate hgood hready body
  obtain ⟨⟨hmap, htracker, hstitch⟩, hstraps, hout, hpending, hmbox⟩ := handedTo_frame h body s
  have hover := monitorArrival_over (s := { s.handedTo h body with sched := s.sched.held h })
    (l := s.link.handed (tallyOf h) (baseErrorsOf h) (s.parcelErrors h body) (echoOf h)) (u := u) hstate
  have hlinkJudged := handed_blockArrival (tallyOf h) (baseErrorsOf h) (s.parcelErrors h body) (echoOf h) s.link
  have hsupersedes := handed_blockSupersedes (tallyOf h) (baseErrorsOf h) (s.parcelErrors h body) (echoOf h) s.link
  generalize hx : s.handedTo h body = x at *
  unfold State.over at harrive
  dsimp only at hover
  generalize hw : State.monitorArrival
    { x with
      sched := s.sched.held h
      link := s.link.handed (tallyOf h) (baseErrorsOf h) (s.parcelErrors h body) (echoOf h), status := u } = w at *
  obtain ⟨hlink, hstatus, ⟨hstraps', hout', hfree, hpending'⟩, ⟨hmap', htracker', hstitch'⟩, hsched, hrings, hends, hkept⟩ :=
    hover
  rw [hlinkJudged] at hlink
  obtain rfl : w.status = u := hstatus
  refine ⟨w.withDue due, exec_window harrive, ?_, congrArg LinkUnit.tally hlink, hjudges.tally, hjudges.good,
    hjudges.reported, ?_, ⟨hmap'.trans hmap, htracker'.trans htracker, hstitch'.trans hstitch⟩, hstraps'.trans hstraps,
    hout'.trans hout, hpending'.trans hpending, hlink, hsched, hrings, hfree, hjudges.full, hjudges.events,
    hjudges.counters, fun hnot => ?_, fun tag hrun hs => ?_⟩
  · exact (congrArg LinkUnit.state hlink).trans ((monitored_state _ _ _).trans hstate)
  · exact (hjudges.counters .returnParcelCheckErrors (by decide) (by decide)).trans herrors
  · obtain ⟨hmbox', hpath⟩ := hkept (mt hsupersedes.1 hnot)
    exact ⟨hmbox'.trans hmbox, hpath⟩
  · obtain ⟨hmbox', hpath⟩ := hends tag (hsupersedes.2 hs) ((congrArg Mailbox.running hmbox).trans hrun)
    refine ⟨hmbox'.trans (congrArg (fun m : Mailbox => { m with running := none }) hmbox), hpath.trans ?_⟩
    exact congrArg (fun l => { x.path with other := x.path.other ++ l })
      (finalWrites_of_straps (s := s) (t := { x with sched := s.sched.held h }) hstraps _ _ _ _)

end obligation

theorem sameStatus_withDue {s x : State} (h : x.status = s.status) (due : List (Fin 32)) :
    SameStatus s (x.withDue due) := by
  show ({ x.status with due := due } : StatusUnit) = { s.status with due := due }
  rw [h]

theorem statusCounts_withDue {s v x : State} {due' : List (Fin 32)}
    (h : x.status = { s.status with counters := v.status.counters, due := due' }) (due : List (Fin 32)) :
    StatusCounts v s (x.withDue due) := by
  show ({ x.status with due := due } : StatusUnit) = { s.status with due := due, counters := v.status.counters }
  rw [h]

/-- A parcel that is no CMSG is no error (R176). -/
theorem isError_of_not_cmsg {p payload : List Byte} (hkind : byteAt p 0 ≠ 0x20) :
    (Found.parcel p payload).isError = false := by
  rw [isError_eq]
  exact decide_eq_false fun h => hkind h.1

theorem takeFound_cmsg {p payload : List Byte} {r : Fin 2} (hkind : byteAt p 0 = 0x20) (hring : (byteAt p 4).toNat = r.val)
    (s : State) : s.takeFound (.parcel p payload) = s.takeCmsg r (cmsgOf p payload) := by
  have hgood : (Found.parcel p payload).isError = false := by
    rw [isError_eq]
    refine decide_eq_false fun h => ?_
    have := h.2
    omega
  have hindex : (if byteAt p 4 = 1 then (1 : Fin 2) else 0) = r := by
    have hone : byteAt p 4 = 1 ↔ r.val = 1 := by
      rw [← hring, ← BitVec.toNat_inj]
      rfl
    obtain ⟨_ | _ | n, hr⟩ := r
    · exact if_neg (mt hone.1 Nat.zero_ne_one)
    · exact if_pos (hone.2 rfl)
    · omega
  rw [takeFound_of_parcel hgood, ← hindex]
  exact if_pos hkind

theorem takeFound_train {p payload : List Byte} (hkind : byteAt p 0 = 0x14) (s : State) :
    s.takeFound (.parcel p payload) = s := by
  rw [takeFound_of_parcel (isError_of_not_cmsg (by rw [hkind]; decide))]
  unfold State.takeParcel
  rw [hkind]
  rfl

theorem takeFound_piece {p payload : List Byte} (hkind : byteAt p 0 = 0x21) (s : State) :
    s.takeFound (.parcel p payload) = s.takePiece (pieceOf p payload) := by
  rw [takeFound_of_parcel (isError_of_not_cmsg (by rw [hkind]; decide))]
  unfold State.takeParcel
  rw [hkind]
  rfl

theorem takeFound_end {p payload : List Byte} (hkind : byteAt p 0 = 0x22) (s : State) :
    s.takeFound (.parcel p payload) =
      s.takeReturnEnd ((byteAt p 4).getLsbD 0) (BitVec.ofNat 16 (fieldAt p 6 2)) ((byteAt p 1).getLsbD 2) := by
  rw [takeFound_of_parcel (isError_of_not_cmsg (by rw [hkind]; decide))]
  unfold State.takeParcel
  rw [hkind]
  rfl

/-- Settles O28: each arrival by the link state at its moment, by the closed forms of the arrivals. -/
theorem returnWindowsJudged : Obligations.ReturnWindowsJudged := by
  unfold Obligations.ReturnWindowsJudged
  refine ⟨fun header body s hdown => exec_window (arrive_of_down hdown header body),
    ⟨fun header body s hprobing hbad => ?_, fun h body s hprobing hgood => ?_⟩,
    ⟨fun header body s hup hbad hrun => ?_, fun header body s htraining hbad hrun => ?_⟩,
    ⟨fun header body s hstate hbad hrun => ?_, fun h body s hstate hgood hready => ?_⟩,
    ⟨fun h body s htraining hgood hready => ?_, fun h body s hup hgood hready => ?_⟩,
    ⟨fun h code hcode => echoOf_eq h hcode, answerOfByte_eq, fun _ _ _ => rfl, fun _ _ _ => rfl, findParcels_succ⟩,
    ⟨fun f s => ⟨isError_eq f, fun hf => takeFound_of_error hf s⟩, fun p payload s => ?_⟩,
    fun count h => ⟨headerGood_iff count h, rfl, rfl, rfl⟩⟩
  · obtain ⟨due, harrive⟩ := probing_bad hprobing hbad body
    exact ⟨_, exec_window harrive, rfl, rfl, rfl, ⟨rfl, rfl, rfl⟩, rfl, rfl, rfl, ⟨rfl, rfl, rfl, rfl⟩⟩
  · cases hready : readyOf h with
    | true =>
      obtain ⟨due, harrive⟩ := probing_ready hprobing hgood hready body
      exact ⟨_, exec_window harrive, (if_pos rfl).symm, tallyStatus_pending,
        fun hsame => sameStatus_withDue (tallyStatus_of_same hsame) due,
        tallyStatus_counters _ s, rfl, ⟨rfl, rfl, rfl⟩, rfl, rfl, rfl, ⟨rfl, rfl, rfl, rfl⟩⟩
    | false =>
      obtain ⟨due, harrive⟩ := probing_not_ready hprobing hgood hready body
      exact ⟨_, exec_window harrive, (if_neg Bool.false_ne_true).symm, tallyStatus_pending,
        fun hsame => sameStatus_withDue (tallyStatus_of_same hsame) due,
        tallyStatus_counters _ s, rfl, ⟨rfl, rfl, rfl⟩, rfl, rfl, rfl, ⟨rfl, rfl, rfl, rfl⟩⟩
  · obtain ⟨due, due', harrive⟩ := up_bad hup hbad hrun body
    obtain ⟨hlink, hstatus, houtside, hcapture, hsched, hrings, hends, hkept⟩ := monitorArrival_over (s := s)
      (l := s.link.badUp) (u := { (s.count .returnHeaderErrors).status with due := due' }) hup
    exact ⟨_, exec_window harrive, hlink.trans (monitored_eq _ _ _).symm,
      statusCounts_withDue hstatus due, hcapture, hsched, hrings, houtside,
      fun hs tag hrun => hends tag hs hrun, hkept⟩
  · obtain ⟨due, harrive⟩ := training_bad htraining hbad hrun body
    exact ⟨_, exec_window harrive, rfl, rfl, rfl, ⟨rfl, rfl, rfl⟩, rfl, rfl, rfl, ⟨rfl, rfl, rfl, rfl⟩⟩
  · obtain ⟨t, harrive, hlost, hcounter⟩ := arrive_bad_lost hstate hbad hrun body
    exact ⟨t, exec_window harrive, hlost, hcounter⟩
  · obtain ⟨t, harrive, hlost, hcounter⟩ := arrive_not_ready hstate hgood hready body
    exact ⟨t, exec_window harrive, hlost, hcounter⟩
  · obtain ⟨due, harrive⟩ := training_ready htraining hgood hready body
    exact ⟨_, exec_window harrive, rfl, tallyStatus_pending, rfl, rfl, ⟨rfl, rfl, rfl⟩, rfl, rfl, rfl,
      ⟨rfl, rfl, rfl, rfl⟩⟩
  · obtain ⟨t, hexec, hstate, htally, hevent, hgoods, hbase, herrors, hcapture, hstraps, hout, hpending, hlink, hsched,
      hrings, hfree, hfull, hevents, hcounters, hkept, hends⟩ := up_ready_facts hup hgood hready body
    refine ⟨t, hexec, hstate, htally, hevent, hgoods, hbase, herrors, hcapture, hstraps, hout, hpending, hlink, ?_,
      fun i => ?_, hrings, hfree, hfull, hevents, hcounters, hkept, hends⟩
    · rw [hsched]
      rfl
    · rw [hsched]
      exact (getElem_heldTimers _ _ _ i).trans (if_congr (mem_holdLanes h i) rfl rfl)
  · exact ⟨fun hkind => takeFound_train hkind s, fun r hkind hring => takeFound_cmsg hkind hring s,
      fun hkind => takeFound_piece hkind s, fun hkind => takeFound_end hkind s⟩

end Sys2Proof.Machine

/-!
The payload fetch of a parcel (O26).
-/

namespace Sys2Proof.Machine

/-! ### The outcome of a ring parcel's fetch (R90, R91, R100, R104) -/

section ring

variable {s : State} {r : Fin 4} {sr : SendRecord} {record : Nat} {error : Bool}

theorem parcelFetched_placed (hhead : (s.rings.outbound[r]).head = .placed sr) (hserial : sr.serial = record)
    (error : Bool) :
    s.parcelFetched r record error = s.retireNext r sr (if error then .memoryError else .sent) := by
  unfold State.parcelFetched
  dsimp only
  rw [hhead]
  exact if_pos hserial

theorem parcelFetched_sent (hhead : (s.rings.outbound[r]).head = .inFlight sr ∨
      ((s.rings.outbound[r]).head = .ready sr ∧ 0 < (s.rings.outbound[r]).sendCount)) (hserial : sr.serial = record) :
    s.parcelFetched r record true = s.retireNext r sr .memoryError := by
  unfold State.parcelFetched
  dsimp only
  rcases hhead with hflight | ⟨hready, hcount⟩
  · rw [hflight]
    exact if_pos ⟨hserial, rfl⟩
  · rw [hready]
    exact if_pos ⟨hserial, hcount, rfl⟩

theorem parcelFetched_data (hhead : ∀ sr, (s.rings.outbound[r]).head ≠ .placed sr) :
    s.parcelFetched r record false = s := by
  unfold State.parcelFetched
  dsimp only
  split
  · next sr h => exact absurd h (hhead sr)
  · exact if_neg fun h => Bool.false_ne_true h.2
  · exact if_neg fun h => Bool.false_ne_true h.2.2
  · rfl
  · rfl

theorem parcelFetched_other (h : ∀ sr, (s.rings.outbound[r]).head.taken = some sr → sr.serial = record →
      (s.rings.outbound[r]).head = .ready sr ∧ (s.rings.outbound[r]).sendCount = 0) (error : Bool) :
    s.parcelFetched r record error = s := by
  unfold State.parcelFetched
  dsimp only
  split
  · next sr hhead =>
    refine if_neg fun hserial => ?_
    have hready := (h sr (by rw [hhead]; rfl) hserial).1
    rw [hhead] at hready
    cases hready
  · next sr hhead =>
    refine if_neg fun hserial => ?_
    have hready := (h sr (by rw [hhead]; rfl) hserial.1).1
    rw [hhead] at hready
    cases hready
  · next sr hhead =>
    refine if_neg fun hserial => ?_
    have hzero := (h sr (by rw [hhead]; rfl) hserial.1).2
    omega
  · rfl
  · rfl

/-- The rest of the rings, and the queue, at a retire. -/
theorem retireNext_others (r : Fin 4) (sr : SendRecord) (st : RecordStatus) (s : State) :
    (s.retireNext r sr st).sched.queue = s.sched.queue ∧
      (∀ q : Fin 4, q ≠ r → (s.retireNext r sr st).rings.outbound[q] = s.rings.outbound[q]) ∧
      (s.retireNext r sr st).rings.inbound = s.rings.inbound ∧ (s.retireNext r sr st).rings.ret = s.rings.ret ∧
      (s.retireNext r sr st).path.other = s.path.other ++
        retireWrites s.rings.outbound[r] st.code
          (s.attemptsByte (st.attempts (s.rings.outbound[r]).kind (s.rings.outbound[r]).sendCount))
          (st.bytesSent sr.length) := by
  have heq := retireNext_eq r sr st s
  generalize s.retireNext r sr st = t at heq
  refine ⟨by rw [heq], fun q hq => ?_, by rw [heq], by rw [heq], by rw [heq]⟩
  exact (congrArg (fun x : State => x.rings.outbound[q]) heq).trans
    ((getElem_set_slot _ _ _ _).trans (if_neg hq.symm))

theorem retireNext_slot (r : Fin 4) (sr : SendRecord) (st : RecordStatus) (s : State) :
    (s.retireNext r sr st).rings.outbound[r] =
      { (s.rings.outbound[r]).retired st with head := ((s.retireNext r sr st).rings.outbound[r]).head } := by
  have heq := retireNext_eq r sr st s
  generalize s.retireNext r sr st = t at heq ⊢
  exact (congrArg (fun x : State => x.rings.outbound[r]) heq).trans
    ((getElem_set_slot _ _ _ _).trans (if_pos rfl))

theorem retireNext_attention {st : RecordStatus} (hatt : sr.attention = true) (s : State) :
    (s.retireNext r sr st).eventPending .ringAttn = true := by
  have heq := retireNext_eq r sr st s
  generalize s.retireNext r sr st = t at heq
  rw [heq, hatt]
  show StatusUnit.pending (st.counted (s.raise .ringAttn)).status .ringAttn = true
  cases st <;> exact raise_eventPending .ringAttn s

theorem retireNext_pending {st : RecordStatus} {e : Event} (h : s.eventPending e = true) :
    (s.retireNext r sr st).eventPending e = true := by
  have hattention : (if sr.attention then s.raise .ringAttn else s).eventPending e = true := by
    split
    · exact eventPending_raise h
    · exact h
  have heq := retireNext_eq r sr st s
  generalize s.retireNext r sr st = t at heq
  rw [heq]
  generalize (if sr.attention = true then s.raise .ringAttn else s) = u at hattention ⊢
  show StatusUnit.pending (st.counted u).status e = true
  cases st <;> exact hattention

theorem retired_memoryError {o : OutRing} (h : o.kind = .reliable) :
    o.retired .memoryError =
      { o with consumer := o.consumer + 1, toggle := !o.toggle, syncNeeded := true, sendCount := 0, head := .empty } := by
  unfold OutRing.retired OutRing.settleToggle
  rw [h]

theorem retired_consumer (o : OutRing) (st : RecordStatus) : (o.retired st).consumer = o.consumer + 1 := rfl

/-- What becomes of a ring parcel's fetch: its record is retired, or nothing is. -/
theorem parcelFetched_cases (r : Fin 4) (record : Nat) (error : Bool) (s : State) :
    s.parcelFetched r record error = s ∨ ∃ sr st, s.parcelFetched r record error = s.retireNext r sr st := by
  unfold State.parcelFetched
  dsimp only
  split
  · next sr _ => split <;> [exact .inr ⟨sr, _, rfl⟩; exact .inl rfl]
  · next sr _ => split <;> [exact .inr ⟨sr, _, rfl⟩; exact .inl rfl]
  · next sr _ => split <;> [exact .inr ⟨sr, _, rfl⟩; exact .inl rfl]
  · exact .inl rfl
  · exact .inl rfl

theorem parcelFetched_outcome (r : Fin 4) (record : Nat) (error : Bool) (s : State) :
    RingFetchOutcome s (s.parcelFetched r record error) r record error := by
  have hframe (sr : SendRecord) (st : RecordStatus) := retireNext_others r sr st s
  have hothers : (s.parcelFetched r record error).sched.queue = s.sched.queue ∧
      (∀ q : Fin 4, q ≠ r → (s.parcelFetched r record error).rings.outbound[q] = s.rings.outbound[q]) ∧
      (s.parcelFetched r record error).rings.inbound = s.rings.inbound ∧
      (s.parcelFetched r record error).rings.ret = s.rings.ret := by
    rcases parcelFetched_cases r record error s with heq | ⟨sr, st, heq⟩
    · rw [heq]
      exact ⟨rfl, fun _ _ => rfl, rfl, rfl⟩
    · obtain ⟨hqueue, hrings, hin, hret, -⟩ := hframe sr st
      rw [heq]
      exact ⟨hqueue, hrings, hin, hret⟩
  obtain ⟨hqueue, hrings, hin, hret⟩ := hothers
  refine ⟨hqueue, hrings, hin, hret, fun sr hhead hkind hserial => ?_, fun sr hhead hkind hserial => ?_, fun h => ?_⟩
  · rw [parcelFetched_placed hhead hserial]
    obtain ⟨-, -, -, -, hother⟩ := hframe sr (if error then .memoryError else .sent)
    refine ⟨?_, ?_, retireNext_fetchFollows r sr _ s, fun hatt => retireNext_attention hatt s⟩
    · rw [retireNext_slot]
      exact retired_consumer s.rings.outbound[r] (if error then .memoryError else .sent)
    · rw [hother]
      cases error with
      | true =>
        rw [if_pos rfl, if_pos rfl, hkind]
        rfl
      | false => rfl
  · cases error with
    | false =>
      have hplaced (sr' : SendRecord) : (s.rings.outbound[r]).head ≠ .placed sr' := fun h => by
        rcases hhead with hflight | ⟨hready, -⟩
        · cases hflight.symm.trans h
        · cases hready.symm.trans h
      rw [if_neg Bool.false_ne_true, parcelFetched_data hplaced]
      exact ⟨rfl, rfl⟩
    | true =>
      rw [if_pos rfl, parcelFetched_sent hhead hserial]
      obtain ⟨-, -, -, -, hother⟩ := hframe sr .memoryError
      have hattempts : RecordStatus.memoryError.attempts (s.rings.outbound[r]).kind (s.rings.outbound[r]).sendCount =
          (s.rings.outbound[r]).sendCount := by rw [hkind]; rfl
      rw [hattempts] at hother
      rw [retireNext_slot, retired_memoryError hkind]
      exact ⟨rfl, rfl, rfl, rfl, hother, retireNext_fetchFollows r sr _ s, fun hatt => retireNext_attention hatt s⟩
  · rw [parcelFetched_other h]
    exact ⟨rfl, rfl⟩

end ring

/-! ### A completed fetch (R90) -/

section fetch

variable {s : State} {n : Nat} {error : Bool} {p : Parcel}

theorem isPayloadOf_iff (n : Nat) (q : OwnRequest) : q.isPayloadOf n = true ↔ q.owner = .payload n := by
  unfold OwnRequest.isPayloadOf
  cases howner : q.owner with
  | payload m => simp
  | _ => simp

/-- The part whose parcel `n` has its data, before the outcome reaches the parcel's owner (R90). -/
def State.fetchTaken (n : Nat) (error : Bool) (data : List Byte) (p : Parcel) (s : State) : State :=
  { s with
    path := { s.path with ownOut := s.path.ownOut.filter (fun q => !q.isPayloadOf n) }
    sched :=
      { s.sched with
        window := s.sched.window.map (fun x =>
          if x.id = n then
            { p with fetch := .complete (padTo p.body.length data), poison := p.poison || error }
          else x) } }

theorem exec_payloadFetch (hegress : s.path.egress.any (OwnRequest.isPayloadOf n) = false)
    (hown : s.path.ownOut.any (OwnRequest.isPayloadOf n) = true)
    (hfind : s.sched.window.find? (fun x => x.id == n && decide (x.fetch = .pending)) = some p) (error : Bool)
    (data : List Byte) :
    ∃ due, exec (.payloadFetchComplete n error data) s =
      .next (((s.fetchTaken n error data p).fetchOutcome p.body error).withDue due) := by
  obtain ⟨due, hnext⟩ := changeIn_eq_withDue ascending
    (fun t =>
      (t.updPath fun p => { p with ownOut := p.ownOut.filter (fun q => !q.isPayloadOf n) }).payloadArrived n error data) s
  refine ⟨due, ((if_pos ⟨hegress, hown⟩).trans hnext).trans ?_⟩
  have harrived : (s.updPath fun p => { p with ownOut := p.ownOut.filter (fun q => !q.isPayloadOf n) }).payloadArrived n
      error data = (s.fetchTaken n error data p).fetchOutcome p.body error := by
    unfold State.payloadArrived
    rw [updPath_sched, hfind]
    rfl
  rw [harrived]

/-- The part with MEMERR raised where a fetch fails (R90). -/
def State.fetchEvent (error : Bool) (s : State) : State := if error then s.raise .memErr else s

theorem fetchEvent_eq (error : Bool) (s : State) :
    s.fetchEvent error = { s with status := (s.fetchEvent error).status } := by
  unfold State.fetchEvent
  split <;> rfl

theorem fetchEvent_pending (h : error = true) (s : State) : (s.fetchEvent error).eventPending .memErr = true := by
  unfold State.fetchEvent
  rw [if_pos h]
  exact raise_eventPending .memErr s

theorem fetchOutcome_piece {id : Nat} {b : ParcelBody}
    (hb : ∃ f sl l k ps q o m first last, b = .piece id f sl l k ps q o m first last) (error : Bool) (s : State) :
    s.fetchOutcome b error = if error then (s.fetchEvent error).abandonJob id else s := by
  obtain ⟨f, sl, l, k, ps, q, o, m, first, last, rfl⟩ := hb
  cases error <;> rfl

theorem fetchOutcome_ring {b : ParcelBody} {r : Fin 4} {m : Nat} {tag : BitVec 8} {len buf : Nat} {tg sy : Bool}
    (hb : b = .ring r m tag len buf tg sy) (error : Bool) (s : State) :
    s.fetchOutcome b error = (s.fetchEvent error).parcelFetched r m error := by
  subst hb
  rfl

/-- A job whose parcel carries payload is a piece's (R86). -/
theorem piece_of_job {b : ParcelBody} {id : Nat} (hjob : b.job = some id) (hlength : b.length ≠ 0) :
    ∃ f sl l k ps q o m first last, b = .piece id f sl l k ps q o m first last := by
  cases b with
  | piece j f sl l k ps q o m first last =>
    cases hjob
    exact ⟨f, sl, l, k, ps, q, o, m, first, last, rfl⟩
  | absentRun => exact absurd rfl hlength
  | frameEnd => exact absurd rfl hlength
  | ring => cases hjob

/-- A read error of a fetch is pending, whatever the parcel (R90). -/
theorem fetchOutcome_memErr (b : ParcelBody) (s : State) : (s.fetchOutcome b true).eventPending .memErr = true := by
  have hraised : (s.raise .memErr).eventPending .memErr = true := raise_eventPending .memErr s
  cases b with
  | piece => exact hraised
  | absentRun => exact hraised
  | frameEnd => exact hraised
  | ring r record _ _ _ _ _ =>
    show ((s.raise .memErr).parcelFetched r record true).eventPending .memErr = true
    rcases parcelFetched_cases r record true (s.raise .memErr) with heq | ⟨sr, st, heq⟩
    · rw [heq]
      exact hraised
    · rw [heq]
      exact retireNext_pending hraised

theorem RingFetchOutcome.of_source {s x t : State} {r : Fin 4} {m : Nat} {error : Bool}
    (h : RingFetchOutcome x t r m error) (hqueue : x.sched.queue = s.sched.queue) (hrings : x.rings = s.rings)
    (hother : x.path.other = s.path.other) (hegress : x.path.egress = s.path.egress) (hfree : x.free = s.free) :
    RingFetchOutcome s t r m error := by
  unfold RingFetchOutcome FetchFollows State.attemptsByte at h ⊢
  rw [hqueue, hrings, hother, hegress, hfree] at h
  exact h

end fetch

/-- Settles O26: the data or the error of a completed fetch, by the parcel's kind. -/
theorem payloadFetchReachesPiece : Obligations.PayloadFetchReachesPiece := by
  unfold Obligations.PayloadFetchReachesPiece
  refine ⟨fun n error data p s hegress hown hfind hlength => ?_, isPayloadOf_iff⟩
  obtain ⟨due, hexec⟩ := exec_payloadFetch hegress hown hfind error data
  obtain ⟨hcapture, ⟨-, -, -, -, -, -, -, hownOut⟩, ⟨-, -, -, -, hwindow, -⟩, -, -, -, -, hlink, hmbox, hout, -⟩ :=
    fetchOutcome_frame p.body error (s.fetchTaken n error data p)
  refine ⟨_, hexec, hownOut, hwindow, fun herror => ?_, hcapture, hlink, hmbox, hout, fun job hjob => ?_,
    fun r m tag len buf tg sy hbody => ?_⟩
  · subst herror
    exact fetchOutcome_memErr p.body _
  · rw [fetchOutcome_piece (piece_of_job hjob hlength)]
    cases error with
    | false => exact ⟨rfl, rfl, fun _ => ⟨rfl, rfl⟩, fun h => absurd h Bool.false_ne_true⟩
    | true =>
      refine ⟨rfl, rfl, fun h => absurd h.symm Bool.false_ne_true, fun _ j hj hid => ?_⟩
      obtain ⟨x, -, rfl⟩ := List.mem_map.1 hj
      by_cases hx : x.id = job
      · rw [if_pos hx]
      · rw [if_neg hx] at hid
        exact absurd hid hx
  · rw [fetchOutcome_ring hbody]
    have houtcome := parcelFetched_outcome r m error ((s.fetchTaken n error data p).fetchEvent error)
    have hevent := fetchEvent_eq error (s.fetchTaken n error data p)
    refine ⟨?_, fun herror hplaced => ?_⟩
    · have hsource : RingFetchOutcome s (((s.fetchTaken n error data p).fetchEvent error).parcelFetched r m error) r m
          error := houtcome.of_source (by rw [hevent]; rfl) (by rw [hevent]; rfl) (by rw [hevent]; rfl)
            (by rw [hevent]; rfl) (by rw [hevent]; rfl)
      exact hsource
    · subst herror
      rw [parcelFetched_data (s := (s.fetchTaken n false data p).fetchEvent false) hplaced]
      rfl

end Sys2Proof.Machine

/-!
Bytes and fields, and the bytes of the parcels that the part transmits (for O27 and the headers of O23).
-/

namespace Sys2Proof.Machine

/-! ### Bytes and fields (00_scope.md "Byte order") -/

theorem byteAt_append_left {a b : List Byte} {i : Nat} (h : i < a.length) : byteAt (a ++ b) i = byteAt a i :=
  List.getD_append _ _ _ _ h

theorem byteAt_append_right (a b : List Byte) (i : Nat) : byteAt (a ++ b) (a.length + i) = byteAt b i := by
  unfold byteAt
  rw [List.getD_append_right _ _ _ _ (Nat.le_add_right _ _), Nat.add_sub_cancel_left]

theorem byteAt_of_length_le {bs : List Byte} {i : Nat} (h : bs.length ≤ i) : byteAt bs i = 0 :=
  List.getD_eq_default _ _ h

theorem padTo_length (n : Nat) (bs : List Byte) : (padTo n bs).length = n := bytesAt_length bs 0 n

theorem byteAt_padTo {n i : Nat} (h : i < n) (bs : List Byte) : byteAt (padTo n bs) i = byteAt bs i := by
  unfold byteAt
  rw [padTo_eq_map, List.getD_eq_getElem _ _ (by simpa using h), List.getElem_map, List.getElem_range]
  rfl

theorem bytesAt_congr {a b : List Byte} {i n : Nat} (h : ∀ j, i ≤ j → j < i + n → byteAt a j = byteAt b j) :
    bytesAt a i n = bytesAt b i n := by
  rw [bytesAt_eq_map, bytesAt_eq_map]
  exact List.map_congr_left fun j hj => h _ (Nat.le_add_right _ _) (Nat.add_lt_add_left (List.mem_range.1 hj) i)

theorem fieldAt_congr {a b : List Byte} {i n : Nat} (h : ∀ j, i ≤ j → j < i + n → byteAt a j = byteAt b j) :
    fieldAt a i n = fieldAt b i n := congrArg leValue (bytesAt_congr h)

theorem leValue_lt (bs : List Byte) : leValue bs < 256 ^ bs.length := by
  induction bs with
  | nil => exact Nat.one_pos
  | cons b bs ih =>
    have hb := b.isLt
    rw [leValue, List.length_cons, Nat.pow_succ]
    omega

theorem leValue_digit (bs : List Byte) (j : Nat) : leValue bs / 256 ^ j % 256 = (byteAt bs j).toNat := by
  induction bs generalizing j with
  | nil => simp [leValue, byteAt]
  | cons b bs ih =>
    have hb : b.toNat < 256 := b.isLt
    cases j with
    | zero =>
      show (b.toNat + 256 * leValue bs) / 256 ^ 0 % 256 = b.toNat
      omega
    | succ j =>
      have htail : (leValue (b :: bs)) / 256 = leValue bs := by
        rw [leValue]
        omega
      rw [Nat.pow_succ, Nat.mul_comm, ← Nat.div_div_eq_div_mul, htail, ih]
      rfl

theorem byteAt_bytesAt {bs : List Byte} {i n j : Nat} (h : j < n) : byteAt (bytesAt bs i n) j = byteAt bs (i + j) := by
  have hget : (bytesAt bs i n).getD j 0 = byteAt bs (i + j) := by
    rw [bytesAt_eq_map, List.getD_eq_getElem _ _ (by simpa using h), List.getElem_map, List.getElem_range]
  exact hget

theorem fieldAt_facts (bs : List Byte) (i n : Nat) :
    fieldAt bs i n < 256 ^ n ∧ ∀ j, j < n → fieldAt bs i n / 256 ^ j % 256 = (byteAt bs (i + j)).toNat := by
  refine ⟨?_, fun j hj => ?_⟩
  · have hlt := leValue_lt (bytesAt bs i n)
    rwa [bytesAt_length] at hlt
  · exact (leValue_digit _ j).trans (congrArg BitVec.toNat (byteAt_bytesAt hj))

theorem byteAt_leBytes {n i : Nat} (h : i < n) (v : Nat) : (byteAt (leBytes n v) i).toNat = v / 256 ^ i % 256 := by
  induction n generalizing i v with
  | zero => exact absurd h (Nat.not_lt_zero i)
  | succ n ih =>
    cases i with
    | zero =>
      show (BitVec.ofNat 8 v).toNat = v / 256 ^ 0 % 256
      rw [BitVec.toNat_ofNat, Nat.pow_zero, Nat.div_one]
    | succ i =>
      have hrest : byteAt (leBytes (n + 1) v) (i + 1) = byteAt (leBytes n (v / 256)) i := rfl
      rw [hrest, ih (Nat.lt_of_succ_lt_succ h), Nat.div_div_eq_div_mul, Nat.pow_succ, Nat.mul_comm 256]

/-- The value of a field of two bytes. -/
theorem leValue_pair (v : Nat) : leValue [BitVec.ofNat 8 v, BitVec.ofNat 8 (v / 256)] = v % 65536 := by
  simp only [leValue, BitVec.toNat_ofNat]
  omega

theorem fillBytes_eq_map (start n : Nat) :
    fillBytes start n = (List.range n).map (fun i => Config.idleFill (start + i)) := by
  induction n generalizing start with
  | zero => rfl
  | succ n ih =>
    rw [fillBytes, ih, List.range_succ_eq_map, List.map_cons, List.map_map]
    refine congrArg (Config.idleFill start :: ·) (List.map_congr_left fun j _ => ?_)
    show Config.idleFill (start + 1 + j) = Config.idleFill (start + (j + 1))
    rw [Nat.add_assoc, Nat.add_comm 1 j]

/-! ### Bytes with their check (section 11.4) -/

theorem withCheck_length (bs : List Byte) : (withCheck bs).length = bs.length + 4 := by
  unfold withCheck
  rw [List.length_append, leBytes_length]

theorem byteAt_withCheck {bs : List Byte} {i : Nat} (h : i < bs.length) : byteAt (withCheck bs) i = byteAt bs i :=
  byteAt_append_left h

/-- The check of a list of bytes follows them, and is theirs. -/
theorem withCheck_drop {bs : List Byte} {n : Nat} (h : bs.length = n) :
    (withCheck bs).drop n = leBytes 4 (linkCheck ((withCheck bs).take n)).toNat := by
  unfold withCheck
  rw [List.drop_left' h, List.take_left' h]

/-! ### The parcels that the part transmits (R135, section 11.4) -/

/-- The fields that begin a parcel's header. -/
def ParcelBody.fields (b : ParcelBody) (poison : Bool) : List Byte :=
  match b with
  | .piece _ frame _ line kind present position offset length first last =>
    [0x10, parcelFlags first last poison false false] ++ leBytes 2 length ++ leBytes 2 frame.toNat ++
      leBytes 2 line ++ [BitVec.ofNat 8 kind.code, BitVec.ofNat 8 (presentBits present),
        BitVec.ofNat 8 position.val, 0] ++ leBytes 2 offset
  | .absentRun _ frame _ first count =>
    [0x11, parcelFlags false false poison false false] ++ leBytes 2 0 ++ leBytes 2 frame.toNat ++
      leBytes 2 first ++ leBytes 2 count
  | .frameEnd _ frame _ whole torn absent =>
    [0x12, parcelFlags false false poison false false] ++ leBytes 2 0 ++ leBytes 2 frame.toNat ++
      leBytes 2 whole ++ leBytes 2 torn ++ leBytes 2 absent
  | .ring index _ tag length _ toggle sync =>
    [0x13, parcelFlags false false poison sync toggle] ++ leBytes 2 length ++
      [BitVec.ofNat 8 index.val, tag]

section parcels

variable (b : ParcelBody) (poison : Bool) (payload : List Byte)

theorem bytes_eq : b.bytes poison payload = withCheck (padTo 28 (b.fields poison) ++ padTo b.length payload) := by
  cases b <;> rfl

theorem body_length : (padTo 28 (b.fields poison) ++ padTo b.length payload).length = 28 + b.length := by
  rw [List.length_append, padTo_length, padTo_length]

theorem bytes_length : (b.bytes poison payload).length = 32 + b.length := by
  rw [bytes_eq, withCheck_length, body_length]
  omega

theorem byteAt_bytes_header {i : Nat} (h : i < 28) :
    byteAt (b.bytes poison payload) i = byteAt (b.fields poison) i := by
  rw [bytes_eq, byteAt_withCheck (by rw [body_length]; omega), byteAt_append_left (by rw [padTo_length]; exact h),
    byteAt_padTo h]

theorem byteAt_bytes_payload {i : Nat} (h : i < b.length) :
    byteAt (b.bytes poison payload) (28 + i) = byteAt payload i := by
  have hright := byteAt_append_right (padTo 28 (b.fields poison)) (padTo b.length payload) i
  rw [padTo_length] at hright
  rw [bytes_eq, byteAt_withCheck (by rw [body_length]; omega), hright, byteAt_padTo h]

theorem fieldAt_bytes_header {i n : Nat} (h : i + n ≤ 28) :
    fieldAt (b.bytes poison payload) i n = fieldAt (b.fields poison) i n :=
  fieldAt_congr fun _ _ hj => byteAt_bytes_header b poison payload (Nat.lt_of_lt_of_le hj h)

theorem bytes_check :
    (b.bytes poison payload).drop (28 + b.length) =
      leBytes 4 (linkCheck ((b.bytes poison payload).take (28 + b.length))).toNat := by
  rw [bytes_eq]
  exact withCheck_drop (body_length b poison payload)

/-- Bytes of the header that no field stands in are 0 (R175). -/
theorem bytes_zeroFrom {n : Nat} (h : (b.fields poison).length ≤ n) (i : Nat) (hn : n ≤ i) (hi : i < 28) :
    byteAt (b.bytes poison payload) i = 0 := by
  rw [byteAt_bytes_header b poison payload hi]
  exact byteAt_of_length_le (h.trans hn)

end parcels

theorem parcelFlags_toNat (first last poison sync toggle : Bool) :
    (parcelFlags first last poison sync toggle).toNat =
      (if first then 1 else 0) + (if last then 2 else 0) + (if poison then 4 else 0) + (if sync then 8 else 0) +
        (if toggle then 16 else 0) := by
  cases first <;> cases last <;> cases poison <;> cases sync <;> cases toggle <;> rfl

theorem testBit_presentBits (ps : List (Fin 6)) (n k : Nat) :
    (ps.foldl (fun n p => n ||| 2 ^ p.val) n).testBit k = (n.testBit k || decide (∃ q ∈ ps, q.val = k)) := by
  induction ps generalizing n with
  | nil => simp
  | cons p ps ih =>
    rw [List.foldl_cons, ih, Nat.testBit_or, Nat.testBit_two_pow, Bool.or_assoc]
    simp

/-- The present set of a piece, a bit for each position (section 11.4). -/
theorem presentBits_getLsbD (ps : List (Fin 6)) (k : Fin 8) :
    (BitVec.ofNat 8 (presentBits ps)).getLsbD k.val = decide (∃ q ∈ ps, q.val = k.val) := by
  rw [BitVec.getLsbD_ofNat, decide_eq_true k.isLt, Bool.true_and]
  unfold presentBits
  rw [testBit_presentBits, Nat.zero_testBit, Bool.false_or]

/-! ### The layouts of the four kinds (section 11.4) -/

section layouts

variable {b : ParcelBody} {poison : Bool} {payload : List Byte}

/-- A field of two bytes that the fields of a parcel carry at `i` is the value that stands there. -/
theorem field2_of_fields {i v : Nat} (hi : i + 2 ≤ 28)
    (h : bytesAt (b.fields poison) i 2 = [BitVec.ofNat 8 v, BitVec.ofNat 8 (v / 256)]) :
    fieldAt (b.bytes poison payload) i 2 = v % 65536 := by
  rw [fieldAt_bytes_header b poison payload hi, fieldAt, h, leValue_pair]

theorem byte_of_fields {i : Nat} {x : Byte} (hi : i < 28) (h : byteAt (b.fields poison) i = x) :
    byteAt (b.bytes poison payload) i = x := (byteAt_bytes_header b poison payload hi).trans h

end layouts

theorem frameNumber_mod (frame : FrameNumber) : frame.toNat % 65536 = frame.toNat := Nat.mod_eq_of_lt frame.isLt

section kinds

variable (poison : Bool) (payload : List Byte)

theorem piece_layout (id : Nat) (frame : FrameNumber) (slot : Fin 4) (line : Nat) (kind : LineKind)
    (present : List (Fin 6)) (position : Fin 6) (offset n : Nat) (first last : Bool) :
    let body : ParcelBody := .piece id frame slot line kind present position offset n first last
    let all := body.bytes poison payload
    byteAt all 0 = 0x10 ∧
      (byteAt all 1).toNat = (if first then 1 else 0) + (if last then 2 else 0) + (if poison then 4 else 0) ∧
      fieldAt all 2 2 = n % 65536 ∧ fieldAt all 4 2 = frame.toNat ∧ fieldAt all 6 2 = line % 65536 ∧
      byteAt all 8 = BitVec.ofNat 8 kind.code ∧
      (∀ k : Fin 8, (byteAt all 9).getLsbD k.val = decide (∃ q ∈ present, q.val = k.val)) ∧
      (byteAt all 0x0A).toNat = position.val ∧ byteAt all 0x0B = 0 ∧ fieldAt all 0x0C 2 = offset % 65536 ∧
      ∀ i, 0x0E ≤ i → i < 28 → byteAt all i = 0 := by
  refine ⟨byte_of_fields (by decide) rfl, ?_, field2_of_fields (by decide) rfl, ?_, field2_of_fields (by decide) rfl,
    byte_of_fields (by decide) rfl, fun k => ?_, ?_, byte_of_fields (by decide) rfl, field2_of_fields (by decide) rfl,
    bytes_zeroFrom _ poison payload (by exact le_rfl)⟩
  · rw [byte_of_fields (x := parcelFlags first last poison false false) (by decide) rfl, parcelFlags_toNat]
    rfl
  · rw [field2_of_fields (v := frame.toNat) (by decide) rfl, frameNumber_mod]
  · rw [byte_of_fields (x := BitVec.ofNat 8 (presentBits present)) (by decide) rfl, presentBits_getLsbD]
  · rw [byte_of_fields (x := BitVec.ofNat 8 position.val) (by decide) rfl, BitVec.toNat_ofNat]
    omega

theorem absentRun_layout (id : Nat) (frame : FrameNumber) (slot : Fin 4) (first count : Nat) :
    let body : ParcelBody := .absentRun id frame slot first count
    let all := body.bytes poison payload
    byteAt all 0 = 0x11 ∧ (byteAt all 1).toNat = (if poison then 4 else 0) ∧ fieldAt all 2 2 = 0 ∧
      fieldAt all 4 2 = frame.toNat ∧ fieldAt all 6 2 = first % 65536 ∧ fieldAt all 8 2 = count % 65536 ∧
      ∀ i, 0x0A ≤ i → i < 28 → byteAt all i = 0 := by
  refine ⟨byte_of_fields (by decide) rfl, ?_, field2_of_fields (v := 0) (by decide) rfl, ?_,
    field2_of_fields (by decide) rfl, field2_of_fields (by decide) rfl,
    bytes_zeroFrom _ poison payload (by exact le_rfl)⟩
  · rw [byte_of_fields (x := parcelFlags false false poison false false) (by decide) rfl, parcelFlags_toNat]
    simp
  · rw [field2_of_fields (v := frame.toNat) (by decide) rfl, frameNumber_mod]

theorem frameEnd_layout (id : Nat) (frame : FrameNumber) (slot : Fin 4) (whole torn absent : Nat) :
    let body : ParcelBody := .frameEnd id frame slot whole torn absent
    let all := body.bytes poison payload
    byteAt all 0 = 0x12 ∧ (byteAt all 1).toNat = (if poison then 4 else 0) ∧ fieldAt all 2 2 = 0 ∧
      fieldAt all 4 2 = frame.toNat ∧ fieldAt all 6 2 = whole % 65536 ∧ fieldAt all 8 2 = torn % 65536 ∧
      fieldAt all 0x0A 2 = absent % 65536 ∧ ∀ i, 0x0C ≤ i → i < 28 → byteAt all i = 0 := by
  refine ⟨byte_of_fields (by decide) rfl, ?_, field2_of_fields (v := 0) (by decide) rfl, ?_,
    field2_of_fields (by decide) rfl, field2_of_fields (by decide) rfl, field2_of_fields (by decide) rfl,
    bytes_zeroFrom _ poison payload (by exact le_rfl)⟩
  · rw [byte_of_fields (x := parcelFlags false false poison false false) (by decide) rfl, parcelFlags_toNat]
    simp
  · rw [field2_of_fields (v := frame.toNat) (by decide) rfl, frameNumber_mod]

theorem ring_layout (r : Fin 4) (record : Nat) (tag : BitVec 8) (n buffer : Nat) (toggle sync : Bool) :
    let body : ParcelBody := .ring r record tag n buffer toggle sync
    let all := body.bytes poison payload
    byteAt all 0 = 0x13 ∧
      (byteAt all 1).toNat = (if poison then 4 else 0) + (if sync then 8 else 0) + (if toggle then 16 else 0) ∧
      fieldAt all 2 2 = n % 65536 ∧ (byteAt all 4).toNat = r.val ∧ byteAt all 5 = tag ∧
      ∀ i, 6 ≤ i → i < 28 → byteAt all i = 0 := by
  refine ⟨byte_of_fields (by decide) rfl, ?_, field2_of_fields (by decide) rfl, ?_, byte_of_fields (by decide) rfl,
    bytes_zeroFrom _ poison payload (by exact le_rfl)⟩
  · rw [byte_of_fields (x := parcelFlags false false poison sync toggle) (by decide) rfl, parcelFlags_toNat]
    simp
  · rw [byte_of_fields (x := BitVec.ofNat 8 r.val) (by decide) rfl, BitVec.toNat_ofNat]
    omega

end kinds

/-! ### The check (R135) -/

theorem checkByte_eq (c : BitVec 32) (b : Byte) :
    checkByte c b =
      (List.range 8).foldl (fun c _ => if c.getLsbD 0 then (c >>> 1) ^^^ 0xEDB88320#32 else c >>> 1)
        (c ^^^ b.setWidth 32) := rfl

theorem linkCheck_eq (bs : List Byte) :
    linkCheck bs =
      ~~~ (bs.foldl
        (fun c b =>
          (List.range 8).foldl
            (fun c _ => if c.getLsbD 0 then (c >>> 1) ^^^ 0xEDB88320#32 else c >>> 1)
            (c ^^^ b.setWidth 32))
        0xFFFFFFFF#32) := rfl

end Sys2Proof.Machine

/-!
The transmission of a placed parcel, and the leaving of its job (O27).
-/

namespace Sys2Proof.Machine

/-! ### The transmission (R89, R91) -/

section transmission

variable {s : State} {p : Parcel}

/-- A parcel as it goes out: with its data, or as a late fetch with idle fill (R89, R91). -/
def Parcel.output (p : Parcel) (free : Nat) : Output :=
  match p.fetch with
  | .notNeeded => .parcel (p.body.bytes p.poison [])
  | .complete data => .parcel (p.body.bytes p.poison data)
  | .pending => .parcel (p.body.bytes true (fillBytes free p.body.length))

/-- The part with its first placed parcel sent, before a late fetch reaches the parcel's owner (R89, R91). -/
def State.sentParcel (p : Parcel) (s : State) : State :=
  { s with
    sched := { s.sched with window := s.sched.window.tail }
    free := if p.fetch = .pending then s.free + p.body.length else s.free
    out := s.out ++ [p.output s.free]
    status := (s.countSent p.body (p.poison || decide (p.fetch = .pending))).status }

theorem countSent_eq (b : ParcelBody) (poison : Bool) (s : State) :
    s.countSent b poison = { s with status := (s.countSent b poison).status } := by
  unfold State.countSent
  cases b <;> cases poison <;> rfl

theorem countSent_status_congr {b : ParcelBody} {poison : Bool} {x : State} (h : x.status = s.status) :
    (x.countSent b poison).status = (s.countSent b poison).status := by
  unfold State.countSent
  cases b <;> cases poison <;> simp [State.count, State.countBy, h]

/-- The first placed parcel leaves the window, and goes out. -/
def State.emitted (o : Output) (s : State) : State :=
  (s.updSched fun c => { c with window := c.window.tail }).emit o

theorem countSent_emitted (b : ParcelBody) (poison : Bool) (o : Output) (s : State) :
    (s.emitted o).countSent b poison = { s.emitted o with status := (s.countSent b poison).status } := by
  have hstatus : ((s.emitted o).countSent b poison).status = (s.countSent b poison).status :=
    countSent_status_congr rfl
  rw [countSent_eq, hstatus]

theorem transmit_of_fetched (h : p.fetch ≠ .pending) : s.transmit p = s.sentParcel p := by
  have hsent (o : Output) (ho : p.output s.free = o) :
      (s.emitted o).countSent p.body p.poison = s.sentParcel p := by
    unfold State.sentParcel
    rw [countSent_emitted, ho, if_neg h, decide_eq_false h, Bool.or_false]
    rfl
  unfold State.transmit
  unfold Parcel.output at hsent
  cases hfetch : p.fetch with
  | pending => exact absurd hfetch h
  | notNeeded =>
    rw [hfetch] at hsent
    exact hsent _ rfl
  | complete data =>
    rw [hfetch] at hsent
    exact hsent _ rfl

theorem transmit_of_late (h : p.fetch = .pending) : s.transmit p = (s.sentParcel p).fetchOutcome p.body true := by
  have hsent : (({ s with free := s.free + p.body.length } : State).emitted
      (.parcel (p.body.bytes true (fillBytes s.free p.body.length)))).countSent p.body true = s.sentParcel p := by
    have hstatus : (({ s with free := s.free + p.body.length } : State).countSent p.body true).status =
        (s.countSent p.body true).status := countSent_status_congr rfl
    unfold State.sentParcel Parcel.output
    rw [countSent_emitted, hstatus, if_pos h, decide_eq_true h, Bool.or_true, h]
    rfl
  have hlate : s.transmit p = ((({ s with free := s.free + p.body.length } : State).emitted
      (.parcel (p.body.bytes true (fillBytes s.free p.body.length)))).countSent p.body true).fetchOutcome p.body true := by
    unfold State.transmit
    rw [h]
    rfl
  rw [hlate, hsent]

theorem countSent_pieces {id : Nat} {f : FrameNumber} {sl : Fin 4} {l : Nat} {k : LineKind} {ps : List (Fin 6)} {q : Fin 6}
    {o n : Nat} {first last : Bool} (poison : Bool) (s : State) :
    (s.countSent (.piece id f sl l k ps q o n first last) poison).counter .videoPiecesSent =
        saturate (s.counter .videoPiecesSent) 1 ∧
      (s.countSent (.piece id f sl l k ps q o n first last) poison).counter .videoBytesSent =
        saturate (s.counter .videoBytesSent) n := by
  have hpieces : ((s.count .videoPiecesSent).countBy .videoBytesSent n).counter .videoPiecesSent =
      saturate (s.counter .videoPiecesSent) 1 :=
    (countBy_counter_ne (by decide) _ _).trans (count_counter_same _ s)
  have hbytes : ((s.count .videoPiecesSent).countBy .videoBytesSent n).counter .videoBytesSent =
      saturate (s.counter .videoBytesSent) n := by
    rw [countBy_counter_same, count_counter_ne (by decide)]
  cases poison with
  | false => exact ⟨hpieces, hbytes⟩
  | true => exact ⟨(count_counter_ne (by decide) _).trans hpieces, (count_counter_ne (by decide) _).trans hbytes⟩

theorem countSent_ring {r : Fin 4} {m : Nat} {tag : BitVec 8} {n b : Nat} {tg sy : Bool} (poison : Bool) (s : State) :
    (s.countSent (.ring r m tag n b tg sy) poison).counter .ringParcelsSent =
      saturate (s.counter .ringParcelsSent) 1 := by
  cases poison with
  | false => exact count_counter_same _ s
  | true => exact (count_counter_ne (by decide) _).trans (count_counter_same _ s)

theorem countSent_poisoned (b : ParcelBody) (poison : Bool) (s : State) :
    (s.countSent b poison).counter .poisonedParcelsSent =
      if poison = true then saturate (s.counter .poisonedParcelsSent) 1 else s.counter .poisonedParcelsSent := by
  have hkind : (s.countSent b false).counter .poisonedParcelsSent = s.counter .poisonedParcelsSent := by
    cases b with
    | piece => exact (countBy_counter_ne (by decide) _ _).trans (count_counter_ne (by decide) s)
    | ring => exact count_counter_ne (by decide) s
    | absentRun => rfl
    | frameEnd => rfl
  cases poison with
  | false => exact hkind
  | true =>
    have hcount : s.countSent b true = (s.countSent b false).count .poisonedParcelsSent := rfl
    rw [hcount, count_counter_same, hkind]
    rfl

end transmission

/-! ### A late fetch (R91) -/

section late

variable {s : State} {r : Fin 4} {record : Nat}

/-- A late fetch of a ring parcel retires its record MEMORY_ERROR, or changes nothing (R91, R100). -/
theorem parcelFetched_error_cases (r : Fin 4) (record : Nat) (s : State) :
    s.parcelFetched r record true = s ∨ ∃ sr, s.parcelFetched r record true = s.retireNext r sr .memoryError := by
  unfold State.parcelFetched
  dsimp only
  split
  · next sr _ => split <;> [exact .inr ⟨sr, rfl⟩; exact .inl rfl]
  · next sr _ => split <;> [exact .inr ⟨sr, rfl⟩; exact .inl rfl]
  · next sr _ => split <;> [exact .inr ⟨sr, rfl⟩; exact .inl rfl]
  · exact .inl rfl
  · exact .inl rfl

theorem retireNext_memoryError_counter (r : Fin 4) (sr : SendRecord) (s : State) (c : Counter) :
    (s.retireNext r sr .memoryError).counter c = s.counter c := by
  have heq := retireNext_eq r sr .memoryError s
  generalize s.retireNext r sr .memoryError = t at heq
  rw [heq]
  show (if sr.attention = true then s.raise .ringAttn else s).counter c = s.counter c
  split <;> rfl

theorem retireNext_memoryError_free {sr : SendRecord} (h : (s.rings.outbound[r]).sendCount < 256) :
    (s.retireNext r sr .memoryError).free = s.free := by
  have hattempts : RecordStatus.memoryError.attempts (s.rings.outbound[r]).kind (s.rings.outbound[r]).sendCount < 256 := by
    unfold RecordStatus.attempts
    dsimp only
    split
    · decide
    · exact h
  have heq := retireNext_eq r sr .memoryError s
  generalize s.retireNext r sr .memoryError = t at heq
  rw [heq]
  exact if_pos hattempts

theorem fetchOutcome_counter (b : ParcelBody) (s : State) (c : Counter) :
    (s.fetchOutcome b true).counter c = s.counter c := by
  cases b with
  | piece => rfl
  | absentRun => rfl
  | frameEnd => rfl
  | ring r record _ _ _ _ _ =>
    show ((s.raise .memErr).parcelFetched r record true).counter c = s.counter c
    rcases parcelFetched_error_cases r record (s.raise .memErr) with heq | ⟨sr, heq⟩
    · rw [heq]
      rfl
    · rw [heq, retireNext_memoryError_counter]
      rfl

theorem fetchOutcome_free {b : ParcelBody}
    (h : ∀ r m tag n u tg sy, b = .ring r m tag n u tg sy → (s.rings.outbound[r]).sendCount < 256) :
    (s.fetchOutcome b true).free = s.free := by
  cases b with
  | piece => rfl
  | absentRun => rfl
  | frameEnd => rfl
  | ring r record _ _ _ _ _ =>
    show ((s.raise .memErr).parcelFetched r record true).free = s.free
    rcases parcelFetched_error_cases r record (s.raise .memErr) with heq | ⟨sr, heq⟩
    · rw [heq]
      rfl
    · rw [heq]
      exact retireNext_memoryError_free (s := s.raise .memErr) (h r record _ _ _ _ _ rfl)

end late

end Sys2Proof.Machine

/-!
The leaving of a parcel's job, and what the sending of a parcel does (O27).
-/

namespace Sys2Proof.Machine

/-! ### The leaving of a job (R78, R73) -/

section leaving

variable {id : Nat} {j : Job} {u : State}

/-- The part with a sent job out of its queue and its lines finished (R78). -/
def State.jobLeft (id : Nat) (j : Job) (s : State) : State :=
  (s.updSched fun c => { c with queue := c.queue.filter (fun x => x.id != id) }).finishLines j.frame j.slot j.body.lines

theorem jobSent_of_none (h : u.sched.queue.find? (fun x => x.id == id) = none) : u.jobSent id = u := by
  unfold State.jobSent
  rw [h]

theorem jobSent_of_placed (h : u.sched.queue.find? (fun x => x.id == id) = some j) (hplaced : j.placing = .placed)
    (hlast : ∀ x ∈ u.sched.window, x.body.job ≠ some id) : u.jobSent id = (u.jobLeft id j).drainTest := by
  have hall : u.sched.window.all (fun x => x.body.job != some id) = true :=
    List.all_eq_true.2 fun x hx => bne_iff_ne.2 (hlast x hx)
  unfold State.jobSent
  rw [h]
  exact if_pos ⟨hplaced, hall⟩

theorem jobSent_of_not_placed (h : u.sched.queue.find? (fun x => x.id == id) = some j)
    (hnot : ¬ (j.placing = .placed ∧ ∀ x ∈ u.sched.window, x.body.job ≠ some id)) : u.jobSent id = u := by
  unfold State.jobSent
  rw [h]
  exact if_neg fun ⟨hplaced, hall⟩ => hnot ⟨hplaced, fun x hx => bne_iff_ne.1 (List.all_eq_true.1 hall x hx)⟩

theorem jobLeft_eq (id : Nat) (j : Job) (u : State) :
    u.jobLeft id j =
      { u with
        sched := { u.sched with queue := u.sched.queue.filter (fun x => x.id != id) }
        tracker :=
          if (u.tracker.slots[j.slot]).frame = some j.frame then
            { u.tracker with
              slots := u.tracker.slots.set j.slot
                { u.tracker.slots[j.slot] with
                  unfinished := (u.tracker.slots[j.slot]).unfinished - j.body.lines } }
          else u.tracker } := rfl

/-- A slot's finished lines are nothing to a closing that empties every slot. -/
theorem map_unfinished_set (slots : Vector SlotRecord 4) (i : Fin 4) (n : Nat) :
    (slots.set i { slots[i] with unfinished := n }).map (fun x : SlotRecord => { x with unfinished := 0 }) =
      slots.map (fun x : SlotRecord => { x with unfinished := 0 }) := by
  refine Vector.ext fun k hk => ?_
  rw [Vector.getElem_map, Vector.getElem_map, Vector.getElem_set]
  split
  · next hki =>
    subst hki
    rfl
  · rfl

theorem jobLeft_closed_tracker (id : Nat) (j : Job) (u : State) :
    { (u.jobLeft id j).tracker with
      stream := Stream.closed
      slots := (u.jobLeft id j).tracker.slots.map (fun x : SlotRecord => { x with unfinished := 0 }) } =
    { u.tracker with
      stream := Stream.closed
      slots := u.tracker.slots.map (fun x : SlotRecord => { x with unfinished := 0 }) } := by
  rw [jobLeft_eq]
  dsimp only
  split
  · rw [map_unfinished_set]
  · rfl

/-- The end of a drain, or the finished lines, after a job has left (R73, R78). -/
theorem jobLeft_drainTest (id : Nat) (j : Job) (u : State) :
    (u.jobLeft id j).drainTest.sched.queue = u.sched.queue.filter (fun x => x.id != id) ∧
      if u.tracker.stream.state = .draining ∧ u.tracker.frames = [] ∧
          (u.jobLeft id j).drainTest.sched.queue = [] then
        (u.jobLeft id j).drainTest.tracker =
            { u.tracker with
              stream := Stream.closed
              slots := u.tracker.slots.map (fun x => { x with unfinished := 0 }) } ∧
          (u.jobLeft id j).drainTest.eventPending .streamClosed = true ∧
          ∀ tag, u.mbox.running = some { code := Command.closeStream.code, tag } →
            (u.jobLeft id j).drainTest.mbox = { u.mbox with running := none } ∧
              (u.jobLeft id j).drainTest.path =
                { u.path with
                  other := u.path.other ++ finalWrites u Command.closeStream.code tag .noError [u.countWord] }
      else
        (u.jobLeft id j).drainTest.mbox = u.mbox ∧ (u.jobLeft id j).drainTest.path = u.path ∧
          (u.jobLeft id j).drainTest.tracker =
            (if (u.tracker.slots[j.slot]).frame = some j.frame then
              { u.tracker with
                slots := u.tracker.slots.set j.slot
                  { u.tracker.slots[j.slot] with
                    unfinished := (u.tracker.slots[j.slot]).unfinished - j.body.lines } }
             else u.tracker) := by
  have hqueue : (u.jobLeft id j).drainTest.sched.queue = (u.jobLeft id j).sched.queue := by simp
  have hstream : (u.jobLeft id j).tracker.stream = u.tracker.stream := by
    unfold State.jobLeft
    simp
  have hframes : (u.jobLeft id j).tracker.frames = u.tracker.frames := by
    unfold State.jobLeft
    simp
  refine ⟨hqueue.trans rfl, ?_⟩
  rw [hqueue]
  split
  · next hdrained =>
    rw [← hstream, ← hframes] at hdrained
    obtain ⟨htracker, hclosed, -⟩ := drainTest_of_drained hdrained
    refine ⟨htracker.trans (jobLeft_closed_tracker id j u), hclosed, fun tag hrun => ?_⟩
    rw [drainTest_closes hdrained (tag := tag) hrun]
    exact ⟨rfl, rfl⟩
  · next hnot =>
    rw [← hstream, ← hframes] at hnot
    rw [drainTest_of_not_drained hnot]
    exact ⟨rfl, rfl, rfl⟩

/-- The sending of a job moves the status by the end of the drain alone (R73). -/
theorem jobSent_status (id : Nat) (u : State) :
    (u.jobSent id).status = u.status ∨ (u.jobSent id).status = (u.raise .streamClosed).status := by
  have hdrain (v : State) : v.drainTest.status = v.status ∨ v.drainTest.status = (v.raise .streamClosed).status := by
    unfold State.drainTest
    split
    · refine .inr ?_
      obtain ⟨-, -, -, -, -, hstatus⟩ := finishIf_frame .closeStream .noError [v.countWord]
        ((v.updTracker fun t =>
          { t with stream := Stream.closed, slots := t.slots.map (fun r => { r with unfinished := 0 }) }).raise
            .streamClosed)
      exact hstatus
    · exact .inl rfl
  unfold State.jobSent
  split
  · exact .inl rfl
  · split
    · exact hdrain _
    · exact .inl rfl

theorem jobSent_counter (id : Nat) (u : State) (c : Counter) : (u.jobSent id).counter c = u.counter c := by
  unfold State.counter
  rcases jobSent_status id u with h | h
  · rw [h]
  · rw [h]
    rfl

theorem jobSent_eventPending {e : Event} (h : u.eventPending e = true) : (u.jobSent id).eventPending e = true := by
  have hraised : (u.raise .streamClosed).eventPending e = true := eventPending_raise h
  unfold State.eventPending at h hraised ⊢
  rcases jobSent_status id u with heq | heq
  · rwa [heq]
  · rwa [heq]

end leaving

/-! ### The transmission of a job's parcel (R89, R91) -/

section job

/-- A job, PLACED if it is the one with a serial number. -/
def Job.placedIf (id : Nat) (x : Job) : Job := if x.id = id then { x with placing := .placed } else x

theorem placedIf_id (id : Nat) (x : Job) : (x.placedIf id).id = x.id := by
  unfold Job.placedIf
  split <;> rfl

theorem placedIf_of_ne {id : Nat} {x : Job} (h : x.id ≠ id) : x.placedIf id = x := if_neg h

theorem find_map_placedIf (id : Nat) (queue : List Job) :
    (queue.map (Job.placedIf id)).find? (fun x => x.id == id) =
      (queue.find? (fun x => x.id == id)).map fun j => { j with placing := .placed } := by
  have hsame : ((fun x : Job => x.id == id) ∘ Job.placedIf id) = fun x => x.id == id :=
    funext fun x => by rw [Function.comp_apply, placedIf_id]
  rw [List.find?_map, hsame]
  cases hfind : queue.find? (fun x => x.id == id) with
  | none => rfl
  | some j =>
    have hid : j.id = id := beq_iff_eq.1 (List.find?_some (p := fun x : Job => x.id == id) hfind)
    exact congrArg some (if_pos hid)

theorem filter_map_placedIf (id : Nat) (queue : List Job) :
    (queue.map (Job.placedIf id)).filter (fun x => x.id != id) = queue.filter (fun x => x.id != id) := by
  have hsame : ((fun x : Job => x.id != id) ∘ Job.placedIf id) = fun x => x.id != id :=
    funext fun x => by rw [Function.comp_apply, placedIf_id]
  rw [List.filter_map, hsame]
  exact (List.map_congr_left fun x hx => placedIf_of_ne (bne_iff_ne.1 (List.mem_filter.1 hx).2)).trans (List.map_id _)

/-- A piece whose fetch is not complete when it is due (R91). -/
def Parcel.Late (p : Parcel) (id : Nat) : Prop :=
  p.fetch = .pending ∧ ∃ f sl l k ps q o n first last, p.body = .piece id f sl l k ps q o n first last

theorem transmit_of_job {p : Parcel} {id : Nat} (hjob : p.body.job = some id) (s : State) :
    ∃ queue free out status,
      s.transmit p =
        { s with sched := { s.sched with window := s.sched.window.tail, queue }, free, out, status } ∧
      (p.Late id → queue = s.sched.queue.map (Job.placedIf id)) ∧ (¬ p.Late id → queue = s.sched.queue) := by
  by_cases hfetch : p.fetch = .pending
  · rw [transmit_of_late hfetch]
    cases hbody : p.body with
    | piece i f sl l k ps q o n first last =>
      have hid : i = id := by
        rw [hbody] at hjob
        exact Option.some.inj hjob
      subst hid
      exact ⟨_, _, _, _, rfl, fun _ => rfl, fun h => absurd ⟨hfetch, f, sl, l, k, ps, q, o, n, first, last, hbody⟩ h⟩
    | absentRun =>
      refine ⟨_, _, _, _, rfl, fun ⟨_, h⟩ => ?_, fun _ => rfl⟩
      obtain ⟨f, sl, l, k, ps, q, o, n, first, last, hpiece⟩ := h
      rw [hbody] at hpiece
      cases hpiece
    | frameEnd =>
      refine ⟨_, _, _, _, rfl, fun ⟨_, h⟩ => ?_, fun _ => rfl⟩
      obtain ⟨f, sl, l, k, ps, q, o, n, first, last, hpiece⟩ := h
      rw [hbody] at hpiece
      cases hpiece
    | ring =>
      rw [hbody] at hjob
      cases hjob
  · rw [transmit_of_fetched hfetch]
    exact ⟨_, _, _, _, rfl, fun h => absurd h.1 hfetch, fun _ => rfl⟩

end job

end Sys2Proof.Machine

/-!
What the sending of the next parcel does (O27).
-/

namespace Sys2Proof.Machine

/-! ### The next parcel is sent (R89, R91) -/

section sending

variable {s : State} {p : Parcel}

theorem transmit_out (p : Parcel) (s : State) : (s.transmit p).out = s.out ++ [p.output s.free] := by
  by_cases hfetch : p.fetch = .pending
  · obtain ⟨-, -, -, -, -, -, -, -, -, hout, -⟩ := fetchOutcome_frame p.body true (s.sentParcel p)
    rw [transmit_of_late hfetch, hout]
    rfl
  · rw [transmit_of_fetched hfetch]
    rfl

theorem transmit_window (p : Parcel) (s : State) : (s.transmit p).sched.window = s.sched.window.tail := by
  by_cases hfetch : p.fetch = .pending
  · obtain ⟨-, -, ⟨-, -, -, -, hwindow, -⟩, -⟩ := fetchOutcome_frame p.body true (s.sentParcel p)
    rw [transmit_of_late hfetch, hwindow]
    rfl
  · rw [transmit_of_fetched hfetch]
    rfl

theorem transmit_counter (p : Parcel) (s : State) (c : Counter) :
    (s.transmit p).counter c = (s.countSent p.body (p.poison || decide (p.fetch = .pending))).counter c := by
  by_cases hfetch : p.fetch = .pending
  · rw [transmit_of_late hfetch, fetchOutcome_counter]
    rfl
  · rw [transmit_of_fetched hfetch]
    rfl

theorem transmit_free_of_fetched (h : p.fetch ≠ .pending) : (s.transmit p).free = s.free := by
  rw [transmit_of_fetched h]
  exact if_neg h

theorem transmit_free_of_late (h : p.fetch = .pending)
    (hring : ∀ r m tag n b tg sy, p.body = .ring r m tag n b tg sy → (s.rings.outbound[r]).sendCount < 256) :
    (s.transmit p).free = s.free + p.body.length := by
  rw [transmit_of_late h, fetchOutcome_free (s := s.sentParcel p) hring]
  exact if_pos h

theorem transmit_memErr (h : p.fetch = .pending) : (s.transmit p).eventPending .memErr = true := by
  rw [transmit_of_late h]
  exact fetchOutcome_memErr p.body _

/-- A late ring parcel reaches its record (R91, R100). -/
theorem transmit_late_ring (h : p.fetch = .pending) {r : Fin 4} {m : Nat} {tag : BitVec 8} {n b : Nat} {tg sy : Bool}
    (hbody : p.body = .ring r m tag n b tg sy) :
    RingFetchOutcome { s with free := s.free + n } (s.transmit p) r m true := by
  have houtcome := parcelFetched_outcome r m true ((s.sentParcel p).fetchEvent true)
  have hfree : (s.sentParcel p).free = s.free + n := by
    unfold State.sentParcel
    dsimp only
    rw [if_pos h, hbody]
    rfl
  rw [transmit_of_late h, fetchOutcome_ring hbody]
  exact houtcome.of_source rfl rfl rfl rfl hfree

theorem sendNext_eq {rest : List Parcel} (hwindow : s.sched.window = p :: rest) :
    ∃ d d', s.sendNext = ((((s.transmit p).withDue d).finishParcel p).withDue d') := by
  obtain ⟨d, hd⟩ := mirroredIn_eq_withDue ascending (State.transmit p) s
  obtain ⟨d', hd'⟩ := mirroredIn_eq_withDue releaseOrder (State.finishParcel p) (mirrored (State.transmit p) s)
  refine ⟨d, d', ?_⟩
  unfold State.sendNext
  rw [hwindow]
  refine hd'.trans ?_
  rw [mirrored_eq, hd]

theorem finishParcel_of_job {id : Nat} (h : p.body.job = some id) : s.finishParcel p = s.jobSent id := by
  unfold State.finishParcel
  rw [h]

theorem finishParcel_of_ring (h : p.body.job = none) : s.finishParcel p = s := by
  unfold State.finishParcel
  rw [h]

theorem finishParcel_counter (p : Parcel) (s : State) (c : Counter) : (s.finishParcel p).counter c = s.counter c := by
  unfold State.finishParcel
  split
  · rfl
  · exact jobSent_counter _ s c

theorem finishParcel_eventPending {e : Event} (p : Parcel) (h : s.eventPending e = true) :
    (s.finishParcel p).eventPending e = true := by
  unfold State.finishParcel
  split
  · exact h
  · exact jobSent_eventPending h

end sending

/-! ### The job of the parcel sent (R78, R90) -/

section job

variable {s : State} {p : Parcel} {id : Nat} {j : Job} {queue : List Job}

/-- The queue after a parcel of job `id` has gone out: a late piece's job is PLACED (R90, R91). -/
def Parcel.Placing (p : Parcel) (id : Nat) (before after : List Job) : Prop :=
  (p.Late id → after = before.map (Job.placedIf id)) ∧ (¬ p.Late id → after = before)

theorem Parcel.Placing.filter (h : p.Placing id s.sched.queue queue) :
    queue.filter (fun x => x.id != id) = s.sched.queue.filter (fun x => x.id != id) := by
  obtain ⟨hlate, hnow⟩ := h
  by_cases hl : p.Late id
  · rw [hlate hl, filter_map_placedIf]
  · rw [hnow hl]

theorem Parcel.Placing.of_none (h : p.Placing id s.sched.queue queue)
    (hfind : s.sched.queue.find? (fun x => x.id == id) = none) : queue = s.sched.queue := by
  obtain ⟨hlate, hnow⟩ := h
  by_cases hl : p.Late id
  · rw [hlate hl]
    refine (List.map_congr_left fun x hx => placedIf_of_ne fun hid => ?_).trans (List.map_id _)
    exact List.find?_eq_none.1 hfind x hx (beq_iff_eq.2 hid)
  · exact hnow hl

theorem Parcel.Placing.find (h : p.Placing id s.sched.queue queue)
    (hfind : s.sched.queue.find? (fun x => x.id == id) = some j) :
    ∃ k, queue.find? (fun x => x.id == id) = some { j with placing := k } ∧
      (k = .placed ↔ j.placing = .placed ∨ p.Late id) := by
  obtain ⟨hlate, hnow⟩ := h
  by_cases hl : p.Late id
  · refine ⟨.placed, ?_, by simp [hl]⟩
    rw [hlate hl, find_map_placedIf, hfind]
    rfl
  · refine ⟨j.placing, ?_, by simp [hl]⟩
    rw [hnow hl, hfind]

/-- The part as it stands while the leaving of a sent parcel's job is decided. -/
def State.afterParcel (queue : List Job) (free : Nat) (out : List Output) (status : StatusUnit) (s : State) : State :=
  { s with sched := { s.sched with window := s.sched.window.tail, queue }, free, out, status }

theorem transmit_placing (hjob : p.body.job = some id) (s : State) (due : List (Fin 32)) :
    ∃ queue free out status, (s.transmit p).withDue due = s.afterParcel queue free out status ∧
      p.Placing id s.sched.queue queue := by
  obtain ⟨queue, free, out, status, heq, hplacing⟩ := transmit_of_job hjob s
  rw [heq]
  exact ⟨queue, free, out, _, rfl, hplacing⟩

theorem jobParcel_none (hjob : p.body.job = some id) (hfind : s.sched.queue.find? (fun x => x.id == id) = none)
    (due : List (Fin 32)) :
    let t := ((s.transmit p).withDue due).jobSent id
    t.sched.queue = s.sched.queue ∧ t.tracker = s.tracker ∧ t.mbox = s.mbox ∧ t.path = s.path := by
  obtain ⟨queue, free, out, status, heq, hplacing⟩ := transmit_placing hjob s due
  have hqueue := hplacing.of_none hfind
  subst hqueue
  rw [heq, jobSent_of_none (u := s.afterParcel _ free out status) hfind]
  exact ⟨rfl, rfl, rfl, rfl⟩

theorem jobParcel_last (hjob : p.body.job = some id) (hfind : s.sched.queue.find? (fun x => x.id == id) = some j)
    (hplaced : j.placing = .placed ∨ p.Late id) (hlast : ∀ x ∈ s.sched.window.tail, x.body.job ≠ some id)
    (due : List (Fin 32)) :
    let t := ((s.transmit p).withDue due).jobSent id
    t.sched.queue = s.sched.queue.filter (fun x => x.id != id) ∧
      if s.tracker.stream.state = .draining ∧ s.tracker.frames = [] ∧ t.sched.queue = [] then
        t.tracker =
            { s.tracker with
              stream := Stream.closed
              slots := s.tracker.slots.map (fun x => { x with unfinished := 0 }) } ∧
          t.eventPending .streamClosed = true ∧
          ∀ tag, s.mbox.running = some { code := Command.closeStream.code, tag } →
            t.mbox = { s.mbox with running := none } ∧
              t.path =
                { s.path with
                  other := s.path.other ++ finalWrites s Command.closeStream.code tag .noError [s.countWord] }
      else
        t.mbox = s.mbox ∧ t.path = s.path ∧
          t.tracker =
            (if (s.tracker.slots[j.slot]).frame = some j.frame then
              { s.tracker with
                slots := s.tracker.slots.set j.slot
                  { s.tracker.slots[j.slot] with
                    unfinished := (s.tracker.slots[j.slot]).unfinished - j.body.lines } }
             else s.tracker) := by
  obtain ⟨queue, free, out, status, heq, hplacing⟩ := transmit_placing hjob s due
  obtain ⟨k, hfound, hiff⟩ := hplacing.find hfind
  have hfilter := hplacing.filter
  obtain ⟨hqueue, hleft⟩ := jobLeft_drainTest id { j with placing := k } (s.afterParcel queue free out status)
  rw [heq, jobSent_of_placed (u := s.afterParcel queue free out status) hfound (hiff.2 hplaced) hlast]
  exact ⟨hqueue.trans hfilter, hleft⟩

theorem jobParcel_more (hjob : p.body.job = some id) (hfind : s.sched.queue.find? (fun x => x.id == id) = some j)
    (hnot : ¬ ((j.placing = .placed ∨ p.Late id) ∧ ∀ x ∈ s.sched.window.tail, x.body.job ≠ some id))
    (due : List (Fin 32)) :
    let t := ((s.transmit p).withDue due).jobSent id
    t.tracker = s.tracker ∧ t.mbox = s.mbox ∧ t.path = s.path ∧ p.Placing id s.sched.queue t.sched.queue := by
  obtain ⟨queue, free, out, status, heq, hplacing⟩ := transmit_placing hjob s due
  obtain ⟨k, hfound, hiff⟩ := hplacing.find hfind
  rw [heq, jobSent_of_not_placed (u := s.afterParcel queue free out status) hfound
    fun ⟨hplaced, hlast⟩ => hnot ⟨hiff.1 hplaced, hlast⟩]
  exact ⟨rfl, rfl, rfl, hplacing⟩

end job

/-- The link check's polynomial, its bits in the order the check shifts them (R135). -/
theorem reversed_polynomial : (0x04C11DB7#32).reverse = 0xEDB88320#32 := by
  have hbits : ∀ i : Fin 32, (0x04C11DB7#32).getMsbD i = (0xEDB88320#32).getLsbD i := by decide
  refine BitVec.eq_of_getLsbD_eq fun i hi => ?_
  rw [BitVec.getLsbD_reverse]
  exact hbits ⟨i, hi⟩

/-- Settles O27: the next placed parcel as it goes out, in time or late, the leaving of its job, and its bytes. -/
theorem parcelSentOrLate : Obligations.ParcelSentOrLate := by
  unfold Obligations.ParcelSentOrLate
  refine ⟨fun p rest s hwindow => ?_, fun body poison payload => ?_, ⟨linkCheck_eq, reversed_polynomial⟩,
    ⟨fun _ _ => rfl, fieldAt_facts, fun n v => ⟨leBytes_length n v, fun i hi => byteAt_leBytes hi v⟩⟩,
    bytesAt_eq_map, padTo_eq_map, fillBytes_eq_map, fun body => ?_⟩
  · obtain ⟨d, d', hsend⟩ := sendNext_eq hwindow
    obtain ⟨⟨-, hout, hfree, -⟩, -, ⟨-, -, -, -, hkept, -⟩, -, -, hmap, -, -, hstitch, hrings, hlink⟩ :=
      finishParcel_frame p ((s.transmit p).withDue d)
    obtain ⟨⟨htmap, httracker, htstitch⟩, -, -, -, -, -, -, htlink, htmbox, -⟩ := transmit_frame p s
    have hcounter (c : Counter) : ((((s.transmit p).withDue d).finishParcel p).withDue d').counter c =
        (s.countSent p.body (p.poison || decide (p.fetch = .pending))).counter c :=
      (finishParcel_counter p _ c).trans (transmit_counter p s c)
    have hrest : s.sched.window.tail = rest := by rw [hwindow]; rfl
    refine ⟨_, congrArg (fun t => (.next t : Result)) hsend, (hkept.trans (transmit_window p s)).trans hrest, ?_, ?_, ?_, ?_,
      hmap.trans htmap, hstitch.trans htstitch, hlink.trans htlink, ?_, ?_⟩
    · have houtput := hout.trans (transmit_out p s)
      unfold Parcel.output at houtput
      cases hfetch : p.fetch with
      | notNeeded =>
        rw [hfetch] at houtput
        exact ⟨houtput, hfree.trans (transmit_free_of_fetched (by rw [hfetch]; exact nofun))⟩
      | complete data =>
        rw [hfetch] at houtput
        exact ⟨houtput, hfree.trans (transmit_free_of_fetched (by rw [hfetch]; exact nofun))⟩
      | pending =>
        rw [hfetch] at houtput
        exact ⟨houtput, fun h => hfree.trans (transmit_free_of_late hfetch h),
          finishParcel_eventPending (s := (s.transmit p).withDue d) p (transmit_memErr hfetch)⟩
    · intro j f sl l k ps q o n first last hbody
      rw [hcounter, hcounter, hbody]
      exact countSent_pieces _ s
    · intro r m tag n b tg sy hbody
      rw [hcounter, hbody]
      exact countSent_ring _ s
    · rw [hcounter, countSent_poisoned]
      simp only [Bool.or_eq_true, decide_eq_true_eq]
    · intro r m tag n b tg sy hbody
      rw [finishParcel_of_ring (by rw [hbody]; rfl)]
      refine ⟨httracker, htmbox, ?_⟩
      split
      · next hfetch => exact transmit_late_ring hfetch hbody
      · next hfetch =>
        rw [transmit_of_fetched hfetch]
        exact ⟨rfl, rfl, rfl⟩
    · intro id hjob late
      have hsame : (s.transmit p).rings = s.rings := by
        obtain ⟨_, _, _, _, heq, -⟩ := transmit_of_job hjob s
        rw [heq]
      refine ⟨hrings.trans hsame, ?_⟩
      rw [finishParcel_of_job hjob]
      cases hfind : s.sched.queue.find? (fun j => j.id == id) with
      | none => exact jobParcel_none hjob hfind d
      | some j =>
        refine ⟨fun ⟨hplaced, hlast⟩ => ?_, fun hnot => ?_⟩
        · exact jobParcel_last hjob hfind hplaced (by rwa [hrest]) d
        · exact jobParcel_more hjob hfind (by rwa [hrest]) d
  · refine ⟨bytes_length body poison payload, fun i hi => byteAt_bytes_payload body poison payload hi,
      bytes_check body poison payload, ?_⟩
    cases body with
    | piece id frame slot line kind present position offset n first last =>
      obtain ⟨h0, h1, h2, h4, h6, h8, hfields⟩ :=
        piece_layout poison payload id frame slot line kind present position offset n first last
      exact ⟨h2, rfl, h0, h1, h4, h6, h8.trans (by cases kind <;> rfl), hfields⟩
    | absentRun id frame slot first count =>
      obtain ⟨h0, h1, h2, hfields⟩ := absentRun_layout poison payload id frame slot first count
      exact ⟨h2, rfl, h0, h1, hfields⟩
    | frameEnd id frame slot whole torn absent =>
      obtain ⟨h0, h1, h2, hfields⟩ := frameEnd_layout poison payload id frame slot whole torn absent
      exact ⟨h2, rfl, h0, h1, hfields⟩
    | ring r record tag n buffer toggle sync =>
      obtain ⟨h0, h1, h2, hfields⟩ := ring_layout poison payload r record tag n buffer toggle sync
      exact ⟨h2, rfl, h0, h1, hfields⟩
  · cases body with
    | piece => rfl
    | absentRun => rfl
    | frameEnd => rfl
    | ring => rfl

end Sys2Proof.Machine

/-!
The placing of video parcels: the next parcel of each kind of job, and the cells that parcels take (O25).
-/

namespace Sys2Proof.Machine

/-! ### Parcels within a budget (R84, R87) -/

/-- What serving does to the window and the budget: parcels join the end of the window, and their cells with
the budget left are the budget. -/
def WindowGrows (s : State) (budget : Nat) (x : State × Nat) : Prop :=
  ∃ new, x.1.sched.window = s.sched.window ++ new ∧ (new.map (fun p => p.body.cells)).sum + x.2 = budget

section grows

variable {s t : State} {budget b : Nat} {x : State × Nat}

theorem WindowGrows.of_eq (h : t.sched.window = s.sched.window) : WindowGrows s budget (t, budget) :=
  ⟨[], by rw [h, List.append_nil], Nat.zero_add _⟩

theorem WindowGrows.refl (s : State) (budget : Nat) : WindowGrows s budget (s, budget) := .of_eq rfl

theorem WindowGrows.trans (h : WindowGrows s budget (t, b)) (h' : WindowGrows t b x) : WindowGrows s budget x := by
  obtain ⟨new, hwindow, hcells⟩ := h
  obtain ⟨new', hwindow', hcells'⟩ := h'
  refine ⟨new ++ new', ?_, ?_⟩
  · rw [hwindow', hwindow, List.append_assoc]
  · rw [List.map_append, List.sum_append, Nat.add_assoc, hcells']
    exact hcells

theorem windowGrows_of_place {body : ParcelBody} (hwindow : t.sched.window = (s.place body).sched.window)
    (h : body.cells ≤ budget) : WindowGrows s budget (t, budget - body.cells) := by
  refine ⟨_, hwindow, ?_⟩
  rw [List.map_cons, List.map_nil, List.sum_cons, List.sum_nil, Nat.add_zero]
  exact Nat.add_sub_cancel' h

/-- The parcels that stood in the window stay in front, and the new ones and the budget left are known by them. -/
theorem WindowGrows.facts (h : WindowGrows s budget x) :
    x.1.sched.window.take s.sched.window.length = s.sched.window ∧
      ((x.1.sched.window.drop s.sched.window.length).map (fun p => p.body.cells)).sum + x.2 = budget ∧
      s.sched.window.length ≤ x.1.sched.window.length := by
  obtain ⟨new, hwindow, hcells⟩ := h
  rw [hwindow, List.take_left, List.drop_left, List.length_append]
  exact ⟨rfl, hcells, Nat.le_add_right _ _⟩

end grows

/-! ### The next video parcel (R86, R87) -/

section video

variable {s : State} {budget : Nat} {j : Job}

theorem nextVideo_of_none (h : s.sched.queue.find? (fun j => decide (j.placing ≠ .placed)) = none) :
    s.nextVideo budget = none := by
  unfold State.nextVideo
  rw [h]

variable (h : s.sched.queue.find? (fun j => decide (j.placing ≠ .placed)) = some j)

include h

theorem nextVideo_of_absentRun {first n : Nat} (hbody : j.body = .absentRun first n) :
    s.nextVideo budget =
      if budget = 0 then none
      else some ((s.placed (.absentRun j.id j.frame j.slot first n)).withJob { j with placing := .placed }, budget - 1) := by
  unfold State.nextVideo
  rw [h]
  dsimp only
  rw [hbody]
  rfl

theorem nextVideo_of_frameEnd {whole torn absent : Nat} (hbody : j.body = .frameEnd whole torn absent) :
    s.nextVideo budget =
      if budget = 0 then none
      else
        some ((s.placed (.frameEnd j.id j.frame j.slot whole torn absent)).withJob { j with placing := .placed },
          budget - 1) := by
  unfold State.nextVideo
  rw [h]
  dsimp only
  rw [hbody]
  rfl

theorem nextVideo_of_line {line offset : Nat} {kind : LineKind} {present : List (Fin 6)} {k : Fin 6}
    (hbody : j.body = .line line kind present k offset) :
    s.nextVideo budget = s.cutPiece j line kind present k offset budget := by
  unfold State.nextVideo
  rw [h]
  dsimp only
  rw [hbody]

end video

/-- The bytes of the next piece: the smallest of the segment's rest, 1024 and the room left (R87). -/
def State.pieceLength (s : State) (k : Fin 6) (offset budget : Nat) : Nat :=
  min (s.positionLength k - offset) (min 1024 ((budget - 1) * 32))

theorem pieceCells_le {budget : Nat} (h : 2 ≤ budget) (s : State) (k : Fin 6) (offset : Nat) :
    1 + ceilDiv (s.pieceLength k offset budget) 32 ≤ budget := by
  have hroom : s.pieceLength k offset budget ≤ (budget - 1) * 32 := (min_le_right _ _).trans (min_le_right _ _)
  unfold ceilDiv
  omega

theorem cutPiece_eq (j : Job) (line : Nat) (kind : LineKind) (present : List (Fin 6)) (k : Fin 6) (offset budget : Nat)
    (s : State) :
    let p := s.pieceLength k offset budget
    let later := present.filter (fun q => decide (k < q))
    let last := decide (p = s.positionLength k - offset) && later.isEmpty
    s.cutPiece j line kind present k offset budget =
      if budget < 2 then none
      else
        some
          ((s.placed
              (.piece j.id j.frame j.slot line kind present k offset p (decide (j.placing = .waiting)) last)).withJob
            { j with
              placing := if last then .placed else .placing
              body :=
                if p = s.positionLength k - offset ∧ later ≠ [] then .line line kind present (later.headD k) 0
                else .line line kind present k (offset + p) },
            budget - (1 + ceilDiv p 32)) := by
  intro p later last
  have hbody : (if decide (p = s.positionLength k - offset) = true then
        match later with
        | [] => JobBody.line line kind present k (offset + p)
        | q :: _ => .line line kind present q 0
      else .line line kind present k (offset + p)) =
      if p = s.positionLength k - offset ∧ later ≠ [] then .line line kind present (later.headD k) 0
      else .line line kind present k (offset + p) := by
    by_cases hends : p = s.positionLength k - offset
    · rw [if_pos (decide_eq_true hends)]
      cases later with
      | nil => exact (if_neg fun hand => hand.2 rfl).symm
      | cons q rest => exact (if_pos ⟨hends, List.cons_ne_nil q rest⟩).symm
    · rw [if_neg (by simpa using hends), if_neg fun hand => hends hand.1]
  rw [← hbody]
  rfl

theorem nextVideo_zero (s : State) : s.nextVideo 0 = none := by
  cases hfind : s.sched.queue.find? (fun j => decide (j.placing ≠ .placed)) with
  | none => exact nextVideo_of_none hfind
  | some j =>
    cases hbody : j.body with
    | line => exact nextVideo_of_line hfind hbody
    | absentRun => exact nextVideo_of_absentRun hfind hbody
    | frameEnd => exact nextVideo_of_frameEnd hfind hbody

theorem cells_of_empty {b : ParcelBody} (h : b.length = 0) : b.cells = 1 := by
  unfold ParcelBody.cells
  rw [h]
  rfl

/-- A video parcel takes its cells of the budget (R84). -/
theorem nextVideo_grows {s : State} {budget : Nat} {x : State × Nat} (h : s.nextVideo budget = some x) :
    ∃ p, x.1.sched.window = s.sched.window ++ [p] ∧ p.body.cells + x.2 = budget := by
  have hgrow {t : State} {body : ParcelBody} {c : Nat} (hwindow : t.sched.window = (s.place body).sched.window)
      (hcells : body.cells = c) (hroom : c ≤ budget) :
      ∃ p, t.sched.window = s.sched.window ++ [p] ∧ p.body.cells + (budget - c) = budget := by
    subst hcells
    exact ⟨_, hwindow, Nat.add_sub_cancel' hroom⟩
  cases hfind : s.sched.queue.find? (fun j => decide (j.placing ≠ .placed)) with
  | none =>
    rw [nextVideo_of_none hfind] at h
    cases h
  | some j =>
    cases hbody : j.body with
    | line line kind present k offset =>
      rw [nextVideo_of_line hfind hbody, cutPiece_eq] at h
      split at h
      · cases h
      · next hroom =>
        cases h
        exact hgrow rfl rfl (pieceCells_le (Nat.le_of_not_lt hroom) s k offset)
    | absentRun first n =>
      rw [nextVideo_of_absentRun hfind hbody] at h
      split at h
      · cases h
      · next hroom =>
        cases h
        exact hgrow (body := .absentRun j.id j.frame j.slot first n) rfl (cells_of_empty rfl)
          (Nat.one_le_iff_ne_zero.2 hroom)
    | frameEnd whole torn absent =>
      rw [nextVideo_of_frameEnd hfind hbody] at h
      split at h
      · cases h
      · next hroom =>
        cases h
        exact hgrow (body := .frameEnd j.id j.frame j.slot whole torn absent) rfl (cells_of_empty rfl)
          (Nat.one_le_iff_ne_zero.2 hroom)

/-! ### A VIDEO entry (R85, R86) -/

theorem serveVideo_succ_none {s : State} {budget : Nat} (h : s.nextVideo budget = none) (fuel : Nat) :
    serveVideo (fuel + 1) budget s = (s, budget) := by
  rw [serveVideo, h]

theorem serveVideo_succ_some {s : State} {budget : Nat} {x : State × Nat} (h : s.nextVideo budget = some x) (fuel : Nat) :
    serveVideo (fuel + 1) budget s = serveVideo fuel x.2 x.1 := by
  rw [serveVideo, h]

theorem serveVideo_grows (fuel budget : Nat) (s : State) : WindowGrows s budget (serveVideo fuel budget s) := by
  induction fuel generalizing budget s with
  | zero => exact .refl s budget
  | succ fuel ih =>
    cases hnext : s.nextVideo budget with
    | none =>
      rw [serveVideo_succ_none hnext]
      exact .refl s budget
    | some x =>
      obtain ⟨p, hwindow, hcells⟩ := nextVideo_grows hnext
      rw [serveVideo_succ_some hnext]
      exact .trans (t := x.1) (b := x.2) ⟨[p], hwindow, hcells⟩ (ih x.2 x.1)

/-- A VIDEO entry places parcels until its fuel is used, or none is left that fits; each takes a cell at least. -/
theorem serveVideo_count (fuel budget : Nat) (s : State) :
    ∃ n, (serveVideo fuel budget s).1.sched.window.length = s.sched.window.length + n ∧ n ≤ fuel ∧
      n + (serveVideo fuel budget s).2 ≤ budget ∧
      (n = fuel ∨ (serveVideo fuel budget s).1.nextVideo (serveVideo fuel budget s).2 = none) := by
  induction fuel generalizing budget s with
  | zero => exact ⟨0, rfl, le_rfl, (Nat.zero_add _).le, .inl rfl⟩
  | succ fuel ih =>
    cases hnext : s.nextVideo budget with
    | none =>
      rw [serveVideo_succ_none hnext]
      exact ⟨0, rfl, Nat.zero_le _, (Nat.zero_add _).le, .inr hnext⟩
    | some x =>
      obtain ⟨p, hwindow, hcells⟩ := nextVideo_grows hnext
      obtain ⟨n, hlength, hfuel, hbudget, hend⟩ := ih x.2 x.1
      have hone : 1 ≤ p.body.cells := Nat.le_add_right _ _
      rw [hwindow, List.length_append, List.length_singleton] at hlength
      rw [serveVideo_succ_some hnext]
      exact ⟨n + 1, by omega, by omega, by omega, hend.imp (congrArg (· + 1)) id⟩

/-- A VIDEO entry of a quota, or of quota 0 for as many as fit (R86). -/
theorem serveVideo_quota (quota budget : Nat) (s : State) :
    let served := serveVideo (if quota = 0 then budget else quota) budget s
    ∃ n, served.1.sched.window.length = s.sched.window.length + n ∧ (quota ≠ 0 → n ≤ quota) ∧
      ((quota ≠ 0 ∧ n = quota) ∨ served.1.nextVideo served.2 = none) := by
  intro served
  obtain ⟨n, hlength, hfuel, hbudget, hend⟩ := serveVideo_count (if quota = 0 then budget else quota) budget s
  by_cases hquota : quota = 0
  · refine ⟨n, hlength, fun h => absurd hquota h, .inr (hend.elim (fun hn => ?_) id)⟩
    rw [if_pos hquota] at hn
    have hused : served.2 = 0 := by
      show (serveVideo _ _ _).2 = 0
      omega
    rw [hused]
    exact nextVideo_zero _
  · rw [if_neg hquota] at hfuel hend
    exact ⟨n, hlength, fun _ => hfuel, hend.imp (fun hn => ⟨hquota, hn⟩) fun hnone => by
      show (serveVideo _ _ _).1.nextVideo (serveVideo _ _ _).2 = none
      rwa [if_neg hquota]⟩

end Sys2Proof.Machine

/-!
The placing of ring records, the walk of a slot, and the window it builds (O25).
-/

namespace Sys2Proof.Machine

/-! ### A ring entry (R88, R100) -/

section ring

variable {s : State} {r : Fin 4} {cells budget : Nat} {sr : SendRecord}

theorem serveRing_of_not_ready (h : ∀ sr, (s.rings.outbound[r]).head ≠ .ready sr) :
    s.serveRing r cells budget = (s, budget) := by
  unfold State.serveRing
  dsimp only
  split
  · next sr hhead => exact absurd hhead (h sr)
  all_goals rfl

/-- The parcel of a ring's offered record (R88). -/
def OutRing.parcel (o : OutRing) (r : Fin 4) (sr : SendRecord) : ParcelBody :=
  .ring r sr.serial sr.tag sr.length sr.buffer (decide (o.kind = .reliable) && o.toggle)
    (decide (o.kind = .reliable) && o.syncNeeded)

/-- A ring whose offered record is placed at a count (R88, R100). -/
def OutRing.placedAt (o : OutRing) (sr : SendRecord) (count : FrameCount) : OutRing :=
  match o.kind with
  | .plain => { o with head := .placed sr }
  | .reliable => { o with head := .inFlight sr, sendCount := o.sendCount + 1, sentFrame := count }

variable (hhead : (s.rings.outbound[r]).head = .ready sr)

include hhead

theorem serveRing_of_ready :
    s.serveRing r cells budget =
      if budget = 0 then (s, budget)
      else if cells < ceilDiv sr.length 32 + 2 then (s.retireNext r sr .tooLarge, budget)
      else if budget < ceilDiv sr.length 32 + 1 then (s, budget)
      else
        (((s.placed ((s.rings.outbound[r]).parcel r sr)).updOut r fun o => o.placedAt sr s.link.count),
          budget - (ceilDiv sr.length 32 + 1)) := by
  unfold State.serveRing
  dsimp only
  rw [hhead]
  rfl

theorem serveRing_of_no_budget (h : budget = 0) : s.serveRing r cells budget = (s, budget) := by
  rw [serveRing_of_ready hhead, if_pos h]

theorem serveRing_of_too_large (hbudget : 0 < budget) (hlarge : cells < ceilDiv sr.length 32 + 2) :
    s.serveRing r cells budget = (s.retireNext r sr .tooLarge, budget) := by
  rw [serveRing_of_ready hhead, if_neg (Nat.ne_of_gt hbudget), if_pos hlarge]

theorem serveRing_of_no_room (hfits : ceilDiv sr.length 32 + 2 ≤ cells) (hroom : budget < ceilDiv sr.length 32 + 1) :
    s.serveRing r cells budget = (s, budget) := by
  rw [serveRing_of_ready hhead, if_neg (Nat.not_lt.2 hfits), if_pos hroom, ite_self]

theorem serveRing_of_room (hfits : ceilDiv sr.length 32 + 2 ≤ cells) (hroom : ceilDiv sr.length 32 + 1 ≤ budget) :
    s.serveRing r cells budget =
      (((s.placed ((s.rings.outbound[r]).parcel r sr)).updOut r fun o => o.placedAt sr s.link.count),
        budget - (ceilDiv sr.length 32 + 1)) := by
  rw [serveRing_of_ready hhead, if_neg (by omega), if_neg (Nat.not_lt.2 hfits), if_neg (Nat.not_lt.2 hroom)]

end ring

theorem serveRing_grows (r : Fin 4) (cells budget : Nat) (s : State) :
    WindowGrows s budget (s.serveRing r cells budget) := by
  by_cases hready : ∃ sr, (s.rings.outbound[r]).head = .ready sr
  · obtain ⟨sr, hhead⟩ := hready
    rw [serveRing_of_ready hhead]
    split_ifs with hbudget hlarge hroom
    · exact .refl s budget
    · obtain ⟨-, -, -, -, hsched, -⟩ := retireNext_frame r sr .tooLarge s
      exact .of_eq (congrArg Scheduler.window hsched)
    · exact .refl s budget
    · have hcells : ((s.rings.outbound[r]).parcel r sr).cells = ceilDiv sr.length 32 + 1 := Nat.add_comm _ _
      rw [← hcells] at hroom ⊢
      exact windowGrows_of_place rfl (Nat.le_of_not_lt hroom)
  · rw [serveRing_of_not_ready fun sr hhead => hready ⟨sr, hhead⟩]
    exact .refl s budget

/-- The toggles of a ring after a record too large (R100, R104). -/
theorem retired_tooLarge (o : OutRing) :
    (o.retired .tooLarge).sendCount = 0 ∧ (o.retired .tooLarge).consumer = o.consumer + 1 ∧
      if o.kind = .reliable ∧ 0 < o.sendCount then
        (o.retired .tooLarge).toggle = !o.toggle ∧ (o.retired .tooLarge).syncNeeded = true
      else
        (o.retired .tooLarge).toggle = o.toggle ∧ (o.retired .tooLarge).syncNeeded = o.syncNeeded := by
  refine ⟨rfl, rfl, ?_⟩
  unfold OutRing.retired OutRing.settleToggle
  cases hkind : o.kind with
  | plain => exact ⟨rfl, rfl⟩
  | reliable =>
    by_cases hsent : 0 < o.sendCount
    · simp only [hsent, and_self, if_true]
    · simp only [hsent, and_false, if_false, and_self]

theorem retireNext_tooLarge_counter (r : Fin 4) (sr : SendRecord) (s : State) :
    (s.retireNext r sr .tooLarge).counter .recordsTooLarge = saturate (s.counter .recordsTooLarge) 1 := by
  have heq := retireNext_eq r sr .tooLarge s
  generalize s.retireNext r sr .tooLarge = t at heq
  rw [heq]
  show (State.count .recordsTooLarge (if sr.attention = true then s.raise .ringAttn else s)).counter _ = _
  rw [count_counter_same]
  split <;> rfl

/-! ### The walk of a slot (R85) -/

section walk

variable {s : State} {cells budget : Nat} {e : ServiceEntry} {rest : List ServiceEntry}

theorem walkEntries_of_held (h : s.sched.hold[e.source.lane] ≠ 0) :
    walkEntries cells (e :: rest) budget s = walkEntries cells rest budget s := if_pos h

theorem walkEntries_of_video (h : s.sched.hold[e.source.lane] = 0) (hsource : e.source = .video) :
    walkEntries cells (e :: rest) budget s =
      walkEntries cells rest (serveVideo (if e.quota = 0 then budget else e.quota) budget s).2
        (serveVideo (if e.quota = 0 then budget else e.quota) budget s).1 := by
  rw [walkEntries, if_neg (not_not.2 h)]
  dsimp only
  rw [hsource]

theorem walkEntries_of_unbound {r : Fin 4} (h : s.sched.hold[e.source.lane] = 0) (hsource : e.source = .ring r)
    (hstate : (s.rings.outbound[r]).state = .unbound) :
    walkEntries cells (e :: rest) budget s = (s.haltSchedule, budget) := by
  rw [walkEntries, if_neg (not_not.2 h), hsource]
  dsimp only
  rw [hstate]

theorem walkEntries_of_halted {r : Fin 4} (h : s.sched.hold[e.source.lane] = 0) (hsource : e.source = .ring r)
    (hstate : (s.rings.outbound[r]).state = .halted) :
    walkEntries cells (e :: rest) budget s = walkEntries cells rest budget s := by
  rw [walkEntries, if_neg (not_not.2 h), hsource]
  dsimp only
  rw [hstate]

theorem walkEntries_of_active {r : Fin 4} (h : s.sched.hold[e.source.lane] = 0) (hsource : e.source = .ring r)
    (hstate : (s.rings.outbound[r]).state = .active) :
    walkEntries cells (e :: rest) budget s =
      walkEntries cells rest (s.serveRing r cells budget).2 (s.serveRing r cells budget).1 := by
  rw [walkEntries, if_neg (not_not.2 h), hsource]
  dsimp only
  rw [hstate]

end walk

theorem walkEntries_grows (cells : Nat) (entries : List ServiceEntry) (budget : Nat) (s : State) :
    WindowGrows s budget (walkEntries cells entries budget s) := by
  induction entries generalizing budget s with
  | nil => exact .refl s budget
  | cons e rest ih =>
    by_cases hheld : s.sched.hold[e.source.lane] = 0
    · cases hsource : e.source with
      | video =>
        rw [walkEntries_of_video hheld hsource]
        exact (serveVideo_grows _ budget s).trans (ih _ _)
      | ring r =>
        cases hstate : (s.rings.outbound[r]).state with
        | unbound =>
          rw [walkEntries_of_unbound hheld hsource hstate]
          exact .of_eq rfl
        | halted =>
          rw [walkEntries_of_halted hheld hsource hstate]
          exact ih budget s
        | active =>
          rw [walkEntries_of_active hheld hsource hstate]
          exact (serveRing_grows r cells budget s).trans (ih _ _)
    · rw [walkEntries_of_held hheld]
      exact ih budget s

/-! ### The fetches of a window (R89) -/

section fetches

/-- The part with own reads at the end of the EGRESS class. -/
def State.withEgress (s : State) (reads : List OwnRequest) : State :=
  { s with path := { s.path with egress := s.path.egress ++ reads } }

theorem withEgress_nil (s : State) : s.withEgress [] = s := by
  unfold State.withEgress
  rw [List.append_nil]

theorem withEgress_append (s : State) (a b : List OwnRequest) : (s.withEgress a).withEgress b = s.withEgress (a ++ b) := by
  unfold State.withEgress
  rw [← List.append_assoc]

theorem foldl_issueEgress_eq (owner : Owner) (cs : List (Nat × Nat)) (s : State) :
    cs.foldl (fun t c => t.issueEgress owner c.1 c.2) s =
      s.withEgress (cs.map fun c => { owner, addr := c.1, access := .read c.2, live := true }) := by
  induction cs generalizing s with
  | nil => exact (withEgress_nil s).symm
  | cons c cs ih =>
    rw [List.foldl_cons, ih]
    exact withEgress_append s _ _

theorem issueFetch_eq (p : Parcel) (s : State) : s.issueFetch p = s.withEgress (s.fetchReads p) :=
  foldl_issueEgress_eq _ _ s

theorem foldl_issueFetch_eq (ps : List Parcel) (s : State) :
    ps.foldl (fun t p => t.issueFetch p) s = s.withEgress (ps.flatMap s.fetchReads) := by
  induction ps generalizing s with
  | nil => exact (withEgress_nil s).symm
  | cons p ps ih =>
    have hreads : (s.withEgress (s.fetchReads p)).fetchReads = s.fetchReads := rfl
    rw [List.foldl_cons, issueFetch_eq, ih, withEgress_append, hreads, List.flatMap_cons]

end fetches

/-! ### The window of a frame (R84, R85, R89) -/

section build

variable {s : State}

/-- The slot of the count walked against the cells of the frame, or nothing placed where no schedule is ACTIVE. -/
def State.walked (s : State) : State × Nat :=
  match s.sched.state, s.sched.active with
  | .active, some sch =>
    walkEntries s.link.cells.1 (sch[s.link.count.toNat % 16]'(Nat.mod_lt _ (by decide))) (s.link.cells.1 - 1) s
  | _, _ => (s, s.link.cells.1 - 1)

theorem buildWindow_eq (s : State) :
    s.buildWindow =
      (s.walked.1.withEgress
          ((s.walked.1.sched.window.drop s.sched.window.length).flatMap s.walked.1.fetchReads),
        (s.walked.1.sched.window.drop s.sched.window.length).length, s.walked.2) :=
  congrArg (·, _, _) (foldl_issueFetch_eq _ _)

theorem walked_grows (s : State) : WindowGrows s (s.link.cells.1 - 1) s.walked := by
  unfold State.walked
  split
  · exact walkEntries_grows _ _ _ s
  · exact .refl s _

/-- The cells of the parcels placed and the idle fill are the budget; the parcels placed before stay in front. -/
theorem buildWindow_facts (s : State) :
    ((s.buildWindow.1.sched.window.drop s.sched.window.length).map (fun p => p.body.cells)).sum + s.buildWindow.2.2 =
        s.link.cells.1 - 1 ∧
      s.buildWindow.1.sched.window.take s.sched.window.length = s.sched.window ∧
      s.buildWindow.2.1 + s.sched.window.length = s.buildWindow.1.sched.window.length := by
  obtain ⟨hkept, hcells, hlength⟩ := (walked_grows s).facts
  rw [buildWindow_eq]
  refine ⟨hcells, hkept, ?_⟩
  rw [List.length_drop]
  exact Nat.sub_add_cancel hlength

theorem walked_of_active {sch : Schedule} {i : Fin 16} (hstate : s.sched.state = .active) (hactive : s.sched.active = some sch)
    (hi : i.val = s.link.count.toNat % 16) :
    s.walked = walkEntries s.link.cells.1 sch[i] (s.link.cells.1 - 1) s := by
  unfold State.walked
  rw [hstate, hactive]
  have hslot : sch[s.link.count.toNat % 16]'(Nat.mod_lt _ (by decide)) = sch[i] := by
    show _ = sch[i.val]
    simp only [hi]
  exact congrArg (fun entries => walkEntries s.link.cells.1 entries (s.link.cells.1 - 1) s) hslot

theorem walked_of_inactive (h : s.sched.state ≠ .active) : s.walked = (s, s.link.cells.1 - 1) := by
  unfold State.walked
  split
  · next hstate _ => exact absurd hstate h
  · rfl

theorem buildWindow_of_inactive (h : s.sched.state ≠ .active) : s.buildWindow = (s, 0, s.link.cells.1 - 1) := by
  rw [buildWindow_eq, walked_of_inactive h]
  dsimp only
  rw [List.drop_length, List.flatMap_nil, withEgress_nil]
  rfl

end build

end Sys2Proof.Machine

/-!
The link frame start as one equation: the count and a due change, the promotion, the move, the window and the
hold timers (O23, O25).
-/

namespace Sys2Proof.Machine

/-! ### The due list and the effects of a change (R162) -/

section due

variable (due : List (Fin 32)) (s : State)

theorem finishIf_withDue (c : Command) (e : ErrorCode) (d : List Word) :
    (s.withDue due).finishIf c e d = (s.finishIf c e d).withDue due := by
  have hrunning : (s.withDue due).isRunning c = s.isRunning c := rfl
  unfold State.finishIf
  rw [hrunning]
  split
  · next hrun =>
    obtain ⟨r, hsome, -⟩ := (isRunning_iff s c).1 hrun
    rw [finish_of_running (s := s.withDue due) hsome, finish_of_running hsome]
    rfl
  · rfl

theorem endSetSplit_withDue (e : ErrorCode) : (s.withDue due).endSetSplit e = (s.endSetSplit e).withDue due :=
  finishIf_withDue due s _ _ _

theorem updLink_withDue (f : LinkUnit → LinkUnit) : (s.withDue due).updLink f = (s.updLink f).withDue due := rfl

theorem raise_withDue (e : Event) : (s.withDue due).raise e = (s.raise e).withDue due := rfl

theorem rateEffect_withDue : (s.withDue due).rateEffect = s.rateEffect.withDue due := by
  have hlink : (s.withDue due).link = s.link := rfl
  unfold State.rateEffect
  rw [hlink]
  split
  · split <;> rfl
  · rfl

theorem splitEffect_withDue : (s.withDue due).splitEffect = s.splitEffect.withDue due := by
  have hlink : (s.withDue due).link = s.link := rfl
  unfold State.splitEffect
  rw [hlink]
  split
  · split
    · split
      · rw [updLink_withDue, raise_withDue, endSetSplit_withDue]
      · rw [updLink_withDue, endSetSplit_withDue]
    · rfl
  · rfl

end due

/-! ### The steps of the frame start (R121) -/

section steps

variable {s : State}

/-- The count goes up, and a change due at it takes effect (R121, R139, R140). -/
def State.effected (s : State) : State := s.tick.rateEffect.splitEffect

/-- The part as the link frame start takes up the move, with a due list. -/
def State.started (s : State) (due : List (Fin 32)) : State :=
  (s.effected.updSched (Scheduler.promote s.effected.link.count)).withDue due

theorem frameStart_eq (s : State) :
    ∃ d d' d'', s.frameStart =
      ((((s.started d).moveLink.withDue d').frameWindow).updSched Scheduler.countDown).withDue d'' := by
  obtain ⟨d₁, h₁⟩ := mirroredIn_eq_withDue ascending State.tick s
  obtain ⟨d₂, h₂⟩ := mirroredIn_eq_withDue ascending State.rateEffect (mirrored State.tick s)
  obtain ⟨d₃, h₃⟩ := mirroredIn_eq_withDue ascending State.splitEffect
    (mirrored State.rateEffect (mirrored State.tick s))
  have heffected : mirrored State.splitEffect (mirrored State.rateEffect (mirrored State.tick s)) =
      s.effected.withDue d₃ := by
    rw [mirrored_eq, h₃, mirrored_eq, h₂, mirrored_eq, h₁, rateEffect_withDue, splitEffect_withDue, splitEffect_withDue]
    rfl
  obtain ⟨d, hd⟩ := mirroredIn_eq_withDue ascending (fun t => t.updSched (Scheduler.promote t.link.count))
    (s.effected.withDue d₃)
  obtain ⟨d', hd'⟩ := mirroredIn_eq_withDue linkOrder State.moveLink (s.started d)
  obtain ⟨d₆, h₆⟩ := mirroredIn_eq_withDue windowOrder State.frameWindow ((s.started d).moveLink.withDue d')
  obtain ⟨d'', hd''⟩ := mirroredIn_eq_withDue ascending (fun t => t.updSched Scheduler.countDown)
    (((s.started d).moveLink.withDue d').frameWindow.withDue d₆)
  have hstarted : mirrored (fun t => t.updSched (Scheduler.promote t.link.count)) (s.effected.withDue d₃) =
      s.started d := hd
  refine ⟨d, d', d'', ?_⟩
  unfold State.frameStart
  dsimp only
  rw [heffected, hstarted, hd', h₆]
  exact hd''

/-- No change takes effect at the count that the frame start opens. -/
def State.Quiet (s : State) : Prop :=
  s.link.state = .up → ∀ c, s.link.change = some c → c.effective ≠ s.link.count + 1

theorem rateEffect_of_quiet (h : s.link.state = .up → ∀ c, s.link.change = some c → c.effective ≠ s.link.count) :
    s.rateEffect = s := by
  unfold State.rateEffect
  split
  · next hchange => exact if_neg fun ⟨hup, hdue⟩ => h hup _ hchange hdue
  · rfl

theorem splitEffect_of_quiet (h : s.link.state = .up → ∀ c, s.link.change = some c → c.effective ≠ s.link.count) :
    s.splitEffect = s := by
  unfold State.splitEffect
  split
  · next hchange => exact if_neg fun ⟨hup, hdue⟩ => h hup _ hchange hdue
  · rfl

theorem effected_of_quiet (h : s.Quiet) : s.effected = s.tick := by
  unfold State.effected
  rw [rateEffect_of_quiet (s := s.tick) h, splitEffect_of_quiet (s := s.tick) h]

/-- The part as it takes up the move where no change is due. -/
theorem started_of_quiet (h : s.Quiet) (due : List (Fin 32)) :
    s.started due =
      { s with
        link := { s.link with count := s.link.count + 1, returnTaken := false }
        sched := s.sched.promote (s.link.count + 1)
        status := { s.status with due } } := by
  unfold State.started
  rw [effected_of_quiet h]
  rfl

end steps

/-! ### The window of an UP frame (R84, R142) -/

section up

variable {s : State}

theorem upWindow_eq (s : State) :
    s.upWindow =
      { s.buildWindow.1 with
        out := s.out ++ [.header (s.forwardHeader s.buildWindow.2.1).bytes s.buildWindow.2.2]
        rings :=
          { s.buildWindow.1.rings with
            inbound := s.rings.inbound.map (fun q => { q with toSend := .none, releaseDue := false })
            ret := { s.rings.ret with releaseDue := false } }
        link := { s.link with dropRepeat := s.link.dropRepeat - 1 } } := by
  obtain ⟨⟨-, htracker, -⟩, -, -, -, -, hinbound, hret, hlink, -, hout, -⟩ := buildWindow_frame s
  have hheader : s.buildWindow.1.forwardHeader s.buildWindow.2.1 = s.forwardHeader s.buildWindow.2.1 := by
    unfold State.forwardHeader
    rw [hlink, htracker, hinbound, hret]
  unfold State.upWindow
  dsimp only
  rw [hheader, ← hinbound, ← hret, ← hlink, ← hout]
  rfl

end up

end Sys2Proof.Machine

/-!
The moves of the link at a frame start, and the window of an UP frame (O23, O25).
-/

namespace Sys2Proof.Machine

/-! ### The move of the link at a frame start (R123, R126) -/

section move

variable {u : State}

/-- The part with the link in another condition, and the cells of that condition in force (R121). -/
def State.inForce (u : State) (l : LinkUnit) (st : StatusUnit) : State :=
  { u with link := { l with cells := l.effectiveCells }, status := st }

theorem moveLink_of_up (h : u.link.state = .up) : u.moveLink = u.inForce u.link u.status := by
  unfold State.moveLink State.changeLink
  rw [h]
  cases u.link.move <;> rfl

theorem moveLink_to_up (h : u.link.state = .training) (hmove : u.link.move = some .up) :
    u.moveLink =
      u.inForce
        { u.link.noTrial with
          state := .up, rate := u.link.trialRate.getD .quarter, lossRun := 0, monitorFrames := 0, monitorErrors := 0
          dropRepeat := if 0 < u.link.dropRepeat then 4 else 0 }
        (u.raise .linkChange).status := by
  have hne : u.linkStatus .up = (u.raise .linkChange).status := linkStatus_of_ne (by rw [h]; decide)
  unfold State.moveLink State.changeLink State.becomeUp
  rw [h, hmove]
  dsimp only
  rw [setLink_eq, hne]
  rfl

end move

/-! ### The link frame start of an UP frame -/

section up

variable {s : State}

/-- The link frame start opens an UP frame (R123, R127). -/
def State.OpensUp (s : State) : Prop := s.link.state = .up ∨ (s.link.state = .training ∧ s.link.move = some .up)

theorem moved_of_opensUp (hopens : s.OpensUp) (hquiet : s.Quiet) (d d' : List (Fin 32)) :
    let m := (s.started d).moveLink.withDue d'
    m.link.state = .up ∧
      m =
        { s with
          sched := s.sched.promote (s.link.count + 1)
          link := m.link
          status :=
            { s.status with
              due := d'
              events :=
                if s.link.state = .up then s.status.events else s.status.events ||| Event.linkChange.mask } } ∧
      m.link.dropRepeat = if s.link.state = .training ∧ 0 < s.link.dropRepeat then 4 else s.link.dropRepeat := by
  rw [started_of_quiet hquiet]
  rcases hopens with hup | ⟨htraining, hmove⟩
  · rw [moveLink_of_up (by exact hup), if_pos hup, hup]
    exact ⟨hup, rfl, rfl⟩
  · rw [moveLink_to_up (by exact htraining) (by exact hmove), htraining]
    refine ⟨rfl, rfl, ?_⟩
    show (if 0 < s.link.dropRepeat then 4 else 0) = _
    by_cases hrepeat : 0 < s.link.dropRepeat
    · rw [if_pos hrepeat, if_pos ⟨rfl, hrepeat⟩]
    · rw [if_neg hrepeat, if_neg fun h => hrepeat h.2, Nat.eq_zero_of_not_pos hrepeat]

theorem frameWindow_of_up (h : s.link.state = .up) : s.frameWindow = s.upWindow := by
  unfold State.frameWindow
  rw [h]

/-- The frame start of an UP frame is the build of its window, its header, and the hold timers. -/
theorem frameStart_of_up {m : State} {d'' : List (Fin 32)} (hup : m.link.state = .up)
    (heq : s.frameStart = (m.frameWindow.updSched Scheduler.countDown).withDue d'') :
    s.frameStart.link = { m.link with dropRepeat := m.link.dropRepeat - 1 } ∧
      s.frameStart.sched = m.buildWindow.1.sched.countDown ∧ s.frameStart.path = m.buildWindow.1.path ∧
      s.frameStart.rings =
        { m.buildWindow.1.rings with
          inbound := m.rings.inbound.map (fun q => { q with toSend := .none, releaseDue := false })
          ret := { m.rings.ret with releaseDue := false } } ∧
      s.frameStart.free = m.buildWindow.1.free ∧ SameStatus m.buildWindow.1 s.frameStart ∧
      s.frameStart.out = m.out ++ [.header (m.forwardHeader m.buildWindow.2.1).bytes m.buildWindow.2.2] := by
  rw [heq, frameWindow_of_up hup, upWindow_eq]
  generalize m.buildWindow = b
  exact ⟨rfl, rfl, rfl, rfl, rfl, rfl, rfl⟩

end up

theorem exec_linkFrameStart (s : State) : exec .linkFrameStart s = .next s.frameStart := rfl

/-! ### The obligation -/

theorem promote_eq (count : FrameCount) (c : Scheduler) :
    c.promote count =
      match c.staged with
      | none => c
      | some (sch, due) =>
        if due = .nextFrame ∨ count.toNat % 16 = 0 then
          { c with active := some sch, staged := none, state := .active }
        else c := by
  unfold Scheduler.promote
  cases c.staged with
  | none => rfl
  | some staged =>
    obtain ⟨sch, due⟩ := staged
    cases due with
    | nextFrame => simp
    | nextCycle => simp

/-- Settles O25: the window of a frame, by the walk of its slot, the serving of each entry and the placing of each
parcel. -/
theorem windowFillsItsCells : Obligations.WindowFillsItsCells := by
  unfold Obligations.WindowFillsItsCells
  refine ⟨buildWindow_facts,
    ⟨fun s hopens hquiet => ?_, fun s => buildWindow_of_inactive, fun sch i s hstate hactive hi => ?_,
      fun job line k offset n frame slot kind present position first last w s hw => ?_,
      fun r record n buffer tag toggle sync s => rfl⟩,
    ⟨fun cells budget s => rfl, ⟨rfl, fun r => rfl⟩, fun cells budget e rest s =>
      ⟨walkEntries_of_held, fun hheld => ?_⟩⟩,
    ⟨fun fuel budget s => ?_, serveVideo_quota, fun budget s => ?_⟩, fun r cells budget o s ho => ?_, fun count c => ?_⟩
  · obtain ⟨d, d', d'', heq⟩ := frameStart_eq s
    obtain ⟨hup, hmoved, hrepeat⟩ := moved_of_opensUp hopens (fun _ => hquiet) d d'
    obtain ⟨hlink, hsched, hpath, hrings, hfree, hstatus, -⟩ := frameStart_of_up hup heq
    generalize (s.started d).moveLink.withDue d' = m at *
    refine ⟨_, d', exec_linkFrameStart s, ?_⟩
    rw [hlink, ← hrepeat]
    intro start
    have hstart : start = m := hmoved.symm
    rw [hstart]
    exact ⟨hsched, hpath, (congrArg RingUnit.outbound hrings).trans rfl,
      (congrArg RingUnit.nextSerial hrings).trans rfl, hfree, hstatus⟩
  · rw [buildWindow_eq, walked_of_active hstate hactive hi]
    rfl
  · unfold State.payloadAddr
    dsimp only
    rw [hw]
  · cases hsource : e.source with
    | video => exact walkEntries_of_video hheld hsource
    | ring r =>
      dsimp only
      cases hstate : (s.rings.outbound[r]).state with
      | unbound => exact walkEntries_of_unbound hheld hsource hstate
      | halted => exact walkEntries_of_halted hheld hsource hstate
      | active => exact walkEntries_of_active hheld hsource hstate
  · cases hnext : s.nextVideo budget with
    | none => exact serveVideo_succ_none hnext fuel
    | some x => exact serveVideo_succ_some hnext fuel
  · cases hfind : s.sched.queue.find? (fun j => decide (j.placing ≠ .placed)) with
    | none => exact nextVideo_of_none hfind
    | some j =>
      obtain ⟨id, frame, slot, body, _⟩ := j
      cases body with
      | line line kind present k offset => exact (nextVideo_of_line hfind rfl).trans (cutPiece_eq ..)
      | absentRun first n => exact nextVideo_of_absentRun hfind rfl
      | frameEnd whole torn absent => exact nextVideo_of_frameEnd hfind rfl
  · subst ho
    refine ⟨serveRing_of_not_ready, fun sr hhead => ?_⟩
    intro k
    refine ⟨serveRing_of_no_budget hhead, fun hbudget hlarge => ?_, serveRing_of_no_room hhead, fun hfits hroom =>
      (serveRing_of_room hhead hfits hroom).trans ?_⟩
    · obtain ⟨-, -, -, -, hsched, -, -, hlink, -⟩ := retireNext_frame r sr .tooLarge s
      obtain ⟨-, -, -, -, hother⟩ := retireNext_others r sr .tooLarge s
      obtain ⟨hcount, hconsumer, htoggle⟩ := retired_tooLarge s.rings.outbound[r]
      refine ⟨_, serveRing_of_too_large hhead hbudget hlarge, hsched, hlink, ?_, ?_, ?_, hother,
        retireNext_fetchFollows r sr .tooLarge s, retireNext_tooLarge_counter r sr s,
        fun hatt => retireNext_attention hatt s⟩
      · rw [retireNext_slot]
        exact hconsumer
      · rw [retireNext_slot]
        exact hcount
      · rw [retireNext_slot]
        exact htoggle
    · rfl
  · exact promote_eq count c

end Sys2Proof.Machine

/-!
The bytes of the link headers and of the TRAIN_PATTERN parcel (O23; section 11.4).
-/

namespace Sys2Proof.Machine

/-! ### A header cell (section 11.4) -/

section cell

variable {fields : List Byte}

/-- The cell of a header: its fields, in 28 bytes, and their check. -/
def headerCell (fields : List Byte) : List Byte := withCheck (padTo 28 fields)

theorem headerCell_length (fields : List Byte) : (headerCell fields).length = 32 := by
  unfold headerCell
  rw [withCheck_length, padTo_length]

theorem headerCell_take (fields : List Byte) : (headerCell fields).take 28 = padTo 28 fields :=
  List.take_left' (padTo_length 28 fields)

theorem headerCell_check (fields : List Byte) :
    (headerCell fields).drop 28 = leBytes 4 (linkCheck ((headerCell fields).take 28)).toNat :=
  withCheck_drop (padTo_length 28 fields)

theorem byteAt_headerCell {i : Nat} (h : i < 28) : byteAt (headerCell fields) i = byteAt fields i := by
  unfold headerCell
  rw [byteAt_withCheck (by rwa [padTo_length]), byteAt_padTo h]

theorem field2_of_headerCell {i v : Nat} (hi : i + 2 ≤ 28)
    (h : bytesAt fields i 2 = [BitVec.ofNat 8 v, BitVec.ofNat 8 (v / 256)]) :
    fieldAt (headerCell fields) i 2 = v % 65536 := by
  have hcell : fieldAt (headerCell fields) i 2 = fieldAt fields i 2 :=
    fieldAt_congr fun _ _ hj => byteAt_headerCell (Nat.lt_of_lt_of_le hj hi)
  rw [hcell, fieldAt, h, leValue_pair]

end cell

/-! ### The TRAIN_PATTERN parcel (R125) -/

theorem trainPattern_length (n : Byte) : (trainPattern n).length = 992 := by
  unfold trainPattern
  rw [List.length_map, List.length_range]

/-- The TRAIN_PATTERN parcel before its check. -/
def trainBody (n : Byte) : List Byte := padTo 28 [0x14, 0, 0xE0, 0x03] ++ trainPattern n

theorem trainParcel_eq (n : Byte) : trainParcel n = withCheck (trainBody n) := rfl

theorem trainBody_length (n : Byte) : (trainBody n).length = 1020 := by
  unfold trainBody
  rw [List.length_append, padTo_length, trainPattern_length]

theorem trainParcel_facts (n : Byte) :
    (trainParcel n).length = 1024 ∧ (trainParcel n).take 28 = padTo 28 [0x14, 0, 0xE0, 0x03] ∧
      (∀ i, i < 992 → byteAt (trainParcel n) (28 + i) = BitVec.ofNat 8 (i + n.toNat)) ∧
      (trainParcel n).drop 1020 = leBytes 4 (linkCheck ((trainParcel n).take 1020)).toNat := by
  rw [trainParcel_eq]
  refine ⟨?_, ?_, fun i hi => ?_, withCheck_drop (trainBody_length n)⟩
  · rw [withCheck_length, trainBody_length]
  · unfold withCheck trainBody
    rw [List.append_assoc, List.take_left' (padTo_length _ _)]
  · have hright := byteAt_append_right (padTo 28 [0x14, 0, 0xE0, 0x03]) (trainPattern n) i
    rw [padTo_length] at hright
    have hlt : 28 + i < (trainBody n).length := by
      rw [trainBody_length]
      omega
    rw [byteAt_withCheck hlt]
    refine hright.trans ?_
    unfold byteAt trainPattern
    rw [List.getD_eq_getElem _ _ (by simpa using hi), List.getElem_map, List.getElem_range]

/-! ### The forward header (R142) -/

/-- The announced change of a forward header (R142). -/
def announcedBytes (change : Option PendingChange) : List Byte :=
  match change with
  | none => [0, 0, 0, 0, 0, 0]
  | some c => changeBytes c.change (linkFrameNumber c.effective)

/-- The drop report of a forward header (R143). -/
def dropBytes (drop : Option (FrameNumber × BitVec 8)) : List Byte :=
  match drop with
  | none => [0, 0, 0, 0]
  | some d => [1] ++ leBytes 2 d.1.toNat ++ [d.2]

/-- The fields of a forward header. -/
def ForwardHeader.fields (h : ForwardHeader) : List Byte :=
  [0x01, h.frame, BitVec.ofNat 8 h.rate.code, BitVec.ofNat 8 h.stream.code] ++ announcedBytes h.change ++
    [h.ack0.byte, h.ack1.byte, holdByte h.hold0, holdByte h.hold1, holdByte h.holdReturn] ++ dropBytes h.drop ++
    leBytes 2 h.parcels

theorem forwardHeader_bytes (h : ForwardHeader) : h.bytes = headerCell h.fields := by
  obtain ⟨frame, rate, stream, change, ack0, ack1, hold0, hold1, holdReturn, drop, parcels⟩ := h
  cases change <;> cases drop <;> rfl

theorem announcedBytes_eq (change : Option PendingChange) :
    ∃ a b c d e f, announcedBytes change = [a, b, c, d, e, f] := by
  cases change with
  | none => exact ⟨_, _, _, _, _, _, rfl⟩
  | some c =>
    obtain ⟨change, effective, echoed⟩ := c
    cases change <;> exact ⟨_, _, _, _, _, _, rfl⟩

theorem dropBytes_eq (drop : Option (FrameNumber × BitVec 8)) : ∃ a b c d, dropBytes drop = [a, b, c, d] := by
  cases drop <;> exact ⟨_, _, _, _, rfl⟩

theorem byte_of_header {h : ForwardHeader} {i : Nat} {x : Byte} (hi : i < 28) (hx : byteAt h.fields i = x) :
    byteAt h.bytes i = x := by
  rw [forwardHeader_bytes, byteAt_headerCell hi, hx]

theorem field_of_header {h : ForwardHeader} {i v : Nat} (hi : i + 2 ≤ 28)
    (hv : bytesAt h.fields i 2 = [BitVec.ofNat 8 v, BitVec.ofNat 8 (v / 256)]) : fieldAt h.bytes i 2 = v % 65536 := by
  rw [forwardHeader_bytes, field2_of_headerCell hi hv]

/-- The fields that every forward header carries at their places. -/
theorem forwardHeader_fixed (h : ForwardHeader) :
    byteAt h.bytes 0 = 0x01 ∧ byteAt h.bytes 1 = h.frame ∧ (byteAt h.bytes 2).toNat = h.rate.code ∧
      (byteAt h.bytes 3).toNat = h.stream.code ∧ byteAt h.bytes 0x0A = h.ack0.byte ∧
      byteAt h.bytes 0x0B = h.ack1.byte ∧ byteAt h.bytes 0x0C = h.hold0.getD 0xFF ∧
      byteAt h.bytes 0x0D = h.hold1.getD 0xFF ∧ byteAt h.bytes 0x0E = h.holdReturn.getD 0xFF ∧
      fieldAt h.bytes 0x13 2 = h.parcels % 65536 := by
  obtain ⟨a, b, c, d, e, f, hannounced⟩ := announcedBytes_eq h.change
  obtain ⟨k, l, m, n, hdrop⟩ := dropBytes_eq h.drop
  have hfields : h.fields =
      [0x01, h.frame, BitVec.ofNat 8 h.rate.code, BitVec.ofNat 8 h.stream.code, a, b, c, d, e, f, h.ack0.byte,
        h.ack1.byte, holdByte h.hold0, holdByte h.hold1, holdByte h.holdReturn, k, l, m, n] ++ leBytes 2 h.parcels := by
    unfold ForwardHeader.fields
    rw [hannounced, hdrop]
    rfl
  have hrate : (BitVec.ofNat 8 h.rate.code).toNat = h.rate.code := by cases h.rate <;> rfl
  have hstream : (BitVec.ofNat 8 h.stream.code).toNat = h.stream.code := by cases h.stream <;> rfl
  have hbyte {i : Nat} {x : Byte} (hi : i < 28) (hx : byteAt h.fields i = x) : byteAt h.bytes i = x :=
    byte_of_header hi hx
  rw [hfields] at hbyte
  refine ⟨hbyte (by decide) rfl, hbyte (by decide) rfl, ?_, ?_, hbyte (by decide) rfl, hbyte (by decide) rfl,
    hbyte (by decide) rfl, hbyte (by decide) rfl, hbyte (by decide) rfl, field_of_header (by decide) ?_⟩
  · rw [hbyte (by decide) rfl]
    exact hrate
  · rw [hbyte (by decide) rfl]
    exact hstream
  · rw [hfields]
    rfl

section announced

variable {h : ForwardHeader}

theorem forwardHeader_no_change (hchange : h.change = none) : byteAt h.bytes 4 = 0 := by
  refine byte_of_header (by decide) ?_
  unfold ForwardHeader.fields
  rw [hchange]
  rfl

theorem forwardHeader_rate {r : Rate} {effective : FrameCount} {echoed : Bool}
    (hchange : h.change = some { change := .rate r, effective, echoed }) :
    byteAt h.bytes 5 = linkFrameNumber effective ∧ byteAt h.bytes 4 = 1 ∧ fieldAt h.bytes 6 2 = r.code := by
  have hcode : r.code % 65536 = r.code := by cases r <;> rfl
  have hfield : fieldAt h.bytes 6 2 = r.code % 65536 := by
    refine field_of_header (by decide) ?_
    unfold ForwardHeader.fields
    rw [hchange]
    rfl
  refine ⟨byte_of_header (by decide) ?_, byte_of_header (by decide) ?_, hfield.trans hcode⟩
  all_goals
    unfold ForwardHeader.fields
    rw [hchange]
    rfl

theorem forwardHeader_split {f rt : Nat} {effective : FrameCount} {echoed : Bool}
    (hchange : h.change = some { change := .split f rt, effective, echoed }) :
    byteAt h.bytes 5 = linkFrameNumber effective ∧ byteAt h.bytes 4 = 2 ∧ fieldAt h.bytes 6 2 = f % 65536 ∧
      fieldAt h.bytes 8 2 = rt % 65536 := by
  refine ⟨byte_of_header (by decide) ?_, byte_of_header (by decide) ?_, field_of_header (by decide) ?_,
    field_of_header (by decide) ?_⟩
  all_goals
    unfold ForwardHeader.fields
    rw [hchange]
    rfl

theorem forwardHeader_no_drop (hdrop : h.drop = none) : byteAt h.bytes 0x0F = 0 := by
  obtain ⟨a, b, c, d, e, f, hannounced⟩ := announcedBytes_eq h.change
  refine byte_of_header (by decide) ?_
  unfold ForwardHeader.fields
  rw [hannounced, hdrop]
  rfl

theorem forwardHeader_drop {frame : FrameNumber} {n : BitVec 8} (hdrop : h.drop = some (frame, n)) :
    byteAt h.bytes 0x0F = 1 ∧ fieldAt h.bytes 0x10 2 = frame.toNat ∧ byteAt h.bytes 0x12 = n := by
  obtain ⟨a, b, c, d, e, f, hannounced⟩ := announcedBytes_eq h.change
  have hfield : fieldAt h.bytes 0x10 2 = frame.toNat % 65536 := by
    refine field_of_header (by decide) ?_
    unfold ForwardHeader.fields
    rw [hannounced, hdrop]
    rfl
  refine ⟨byte_of_header (by decide) ?_, hfield.trans (frameNumber_mod frame), byte_of_header (by decide) ?_⟩
  all_goals
    unfold ForwardHeader.fields
    rw [hannounced, hdrop]
    rfl

end announced

theorem answer_byte_eq (a : Answer) :
    a.byte =
      match a with
      | .none => 0
      | .ack g => if g then 0x81 else 0x01
      | .nak g => if g then 0x82 else 0x02 := by
  cases a with
  | none => rfl
  | ack g => cases g <;> rfl
  | nak g => cases g <;> rfl

end Sys2Proof.Machine

/-!
The link frame start of a frame that is not UP: the move of the link and the window it sends (O23).
-/

namespace Sys2Proof.Machine

/-! ### The moves of a link that is not UP (R123, R124, R126) -/

section moves

variable {u : State}

theorem changeLink_same (u : State) :
    u.changeLink = { u with link := u.changeLink.link, status := u.changeLink.status } := by
  have hprobing (h : u.link.state ≠ .up) :
      u.enterProbing = { u with link := u.enterProbing.link, status := u.enterProbing.status } := by
    rw [enterProbing_of_not_up h]
  unfold State.changeLink
  split
  · rw [setLink_eq]
    rfl
  · unfold State.becomeUp
    rw [setLink_eq]
    rfl
  · rfl
  · next hstate _ => exact hprobing (by rw [hstate]; decide)
  · rfl
  · next hstate =>
    split
    · exact hprobing (by rw [hstate]; decide)
    · rfl
  · rfl
  · rfl

theorem moveLink_of_changeLink {v : State} (h : u.changeLink = v) : u.moveLink = v.inForce v.link v.status := by
  unfold State.moveLink
  rw [h]
  rfl

theorem changeLink_of_disabled (h : u.link.state = .down) (henabled : u.link.enabled = false) : u.changeLink = u := by
  unfold State.changeLink
  rw [h]
  cases u.link.move <;> exact if_neg (by rw [henabled]; exact Bool.false_ne_true)

theorem changeLink_of_enabled (h : u.link.state = .down) (henabled : u.link.enabled = true) :
    u.changeLink = u.enterProbing := by
  unfold State.changeLink
  rw [h]
  cases u.link.move <;> exact if_pos henabled

theorem changeLink_of_probing (h : u.link.state = .probing) (hmove : u.link.move ≠ some .training) :
    u.changeLink = u := by
  unfold State.changeLink
  rw [h]
  cases hm : u.link.move with
  | none => rfl
  | some m =>
    cases m with
    | training => exact absurd hm hmove
    | _ => rfl

theorem changeLink_to_training (h : u.link.state = .probing) (hmove : u.link.move = some .training) :
    u.changeLink =
      { u with
        link := { u.link.noTrial with state := .training, trialRate := some u.link.ceiling }
        status := (u.raise .linkChange).status } := by
  have hne : u.linkStatus .training = (u.raise .linkChange).status := linkStatus_of_ne (by rw [h]; decide)
  unfold State.changeLink
  rw [h, hmove]
  dsimp only
  rw [setLink_eq, hne]
  rfl

theorem changeLink_to_trial {r : Rate} (h : u.link.state = .training) (hmove : u.link.move = some (.trial r)) :
    u.changeLink = u.updLink (LinkUnit.startTrial r) := by
  unfold State.changeLink
  rw [h, hmove]

theorem changeLink_to_probing (h : u.link.state = .training) (hmove : u.link.move = some .probing) :
    u.changeLink = u.enterProbing := by
  unfold State.changeLink
  rw [h, hmove]

theorem changeLink_of_training (h : u.link.state = .training) (hmove : u.link.move = none ∨ u.link.move = some .training) :
    u.changeLink = u.updLink fun l => { l with trialFrame := min (l.trialFrame + 1) 15 } := by
  unfold State.changeLink
  rw [h]
  rcases hmove with hmove | hmove <;> rw [hmove] <;> rfl

theorem enterProbing_raised (h : u.link.state = .down ∨ u.link.state = .training) :
    u.enterProbing =
      { u with
        link := { u.link.noTrial with state := .probing, probeFrames := 0, probeCycles := 0, lossRun := 0 }
        status := (u.raise .linkChange).status } := by
  have hup : u.link.state ≠ .up := by rcases h with h | h <;> rw [h] <;> decide
  have hprobing : u.link.state ≠ .probing := by rcases h with h | h <;> rw [h] <;> decide
  rw [enterProbing_of_not_up hup, linkStatus_of_ne hprobing]

end moves

/-! ### The cells in force (R121) -/

theorem effective_trial (r : Rate) : (effective 128 r, effective 64 r) = (32 * r.factor, 16 * r.factor) := by
  cases r <;> rfl

theorem effectiveCells_of_probing {l : LinkUnit} (h : l.state = .probing) : l.effectiveCells = (32, 16) := by
  unfold LinkUnit.effectiveCells
  rw [h]
  rfl

theorem effectiveCells_of_training {l : LinkUnit} {r : Rate} (h : l.state = .training) (hrate : l.trialRate = some r) :
    l.effectiveCells = (32 * r.factor, 16 * r.factor) := by
  unfold LinkUnit.effectiveCells
  rw [h, hrate]
  exact effective_trial r

/-! ### The windows of PROBING and TRAINING (R124, R125) -/

section windows

variable {m : State}

/-- What the window of a frame that is not UP sends (R121, R124, R125). -/
def LinkUnit.windowOutputs (l : LinkUnit) : List Output :=
  match l.state with
  | .down | .up => []
  | .probing => [.header (probeHeader (linkFrameNumber l.count) l.ceiling) (l.cells.1 - 1)]
  | .training =>
    .header (trainingHeader (linkFrameNumber l.count) (l.trialRate.getD .quarter) l.trialFrame)
        (l.cells.1 - 1 - 32 * ((l.cells.1 - 1) / 32)) ::
      List.replicate ((l.cells.1 - 1) / 32) (.parcel (trainParcel (linkFrameNumber l.count)))

theorem foldl_emit_eq (bs : List (List Byte)) (s : State) :
    bs.foldl (fun t b => t.emit (.parcel b)) s = { s with out := s.out ++ bs.map .parcel } := by
  induction bs generalizing s with
  | nil => simp
  | cons b bs ih =>
    rw [List.foldl_cons, ih]
    simp [State.emit]

theorem frameWindow_of_not_up (h : m.link.state ≠ .up) :
    m.frameWindow = { m with out := m.out ++ m.link.windowOutputs } := by
  unfold State.frameWindow LinkUnit.windowOutputs
  cases hstate : m.link.state with
  | down => simp
  | probing => rfl
  | training =>
    unfold State.trainingWindow
    dsimp only
    rw [foldl_emit_eq, List.map_replicate]
    simp [State.emit]
  | up => exact absurd hstate h

theorem windowOutputs_of_probing {l : LinkUnit} (h : l.state = .probing) (hcells : l.cells = (32, 16)) :
    l.windowOutputs = [.header (probeHeader (linkFrameNumber l.count) l.ceiling) 31] := by
  unfold LinkUnit.windowOutputs
  rw [h, hcells]
  rfl

theorem windowOutputs_of_training {l : LinkUnit} {r : Rate} (h : l.state = .training) (hrate : l.trialRate = some r)
    (hcells : l.cells = (32 * r.factor, 16 * r.factor)) :
    l.windowOutputs = trainingOutputs (linkFrameNumber l.count) r l.trialFrame := by
  unfold LinkUnit.windowOutputs trainingOutputs
  rw [h, hrate, hcells]
  cases r <;> rfl

end windows

/-! ### The frame start of a frame that is not UP -/

section starts

variable {s : State}

theorem quiet_of_not_up (h : s.link.state ≠ .up) : s.Quiet := fun hup => absurd hup h

/-- The link unit as a new frame begins (R121). -/
def LinkUnit.ticked (l : LinkUnit) : LinkUnit := { l with count := l.count + 1, returnTaken := false }

/-- A frame start of which only the link, LINK_CHANGE and the outputs are to be told (R121). -/
def State.framed (s : State) (l : LinkUnit) (raised : Bool) (due : List (Fin 32)) : State :=
  { s with
    sched := (s.sched.promote (s.link.count + 1)).countDown
    link := l
    status :=
      { s.status with
        due, events := if raised then s.status.events ||| Event.linkChange.mask else s.status.events }
    out := s.out ++ l.windowOutputs }

theorem frameStart_framed {l : LinkUnit} {st : LinkState} (hs : s.link.state ≠ .up) (raised : Bool)
    (hchange : ∀ u : State, u.link = s.link.ticked →
      u.changeLink = { u with link := l, status := if raised then (u.raise .linkChange).status else u.status })
    (hstate : l.state = st) (hl : st ≠ .up) :
    ∃ due, s.frameStart = s.framed { l with cells := l.effectiveCells } raised due := by
  obtain ⟨d, d', d'', heq⟩ := frameStart_eq s
  rw [started_of_quiet (quiet_of_not_up hs)] at heq
  have hmoved := moveLink_of_changeLink (hchange
    { s with
      link := { s.link with count := s.link.count + 1, returnTaken := false }
      sched := s.sched.promote (s.link.count + 1)
      status := { s.status with due := d } } rfl)
  rw [hmoved, frameWindow_of_not_up (by rw [← hstate] at hl; exact hl)] at heq
  refine ⟨d'', heq.trans ?_⟩
  cases raised <;> rfl

/-- The header of a PROBING frame (R124). -/
def State.probeOutputs (s : State) : List Output :=
  [.header (probeHeader (linkFrameNumber (s.link.count + 1)) s.link.ceiling) 31]

theorem frameStart_of_disabled (h : s.link.state = .down) (henabled : s.link.enabled = false) :
    ∃ due, s.frameStart = s.framed (s.link.opened (0, 0)) false due ∧ (s.link.opened (0, 0)).windowOutputs = [] := by
  obtain ⟨due, heq⟩ := frameStart_framed (l := s.link.ticked) (by rw [h]; decide) false
    (fun u hu => (changeLink_of_disabled (by rw [hu]; exact h) (by rw [hu]; exact henabled)).trans (by rw [← hu]; rfl))
    h (by decide)
  have hcells : s.link.ticked.effectiveCells = (0, 0) := by
    unfold LinkUnit.effectiveCells
    rw [show s.link.ticked.state = .down from h]
  rw [hcells] at heq
  refine ⟨due, heq, ?_⟩
  unfold LinkUnit.windowOutputs
  rw [show (s.link.opened (0, 0)).state = .down from h]

theorem frameStart_of_enabled (h : s.link.state = .down) (henabled : s.link.enabled = true) :
    ∃ l due, l.state = .probing ∧ s.frameStart = s.framed l true due ∧ l.windowOutputs = s.probeOutputs := by
  obtain ⟨due, heq⟩ := frameStart_framed (st := .probing)
    (l := { s.link.ticked.noTrial with state := .probing, probeFrames := 0, probeCycles := 0, lossRun := 0 })
    (by rw [h]; decide) true
    (fun u hu => (changeLink_of_enabled (by rw [hu]; exact h) (by rw [hu]; exact henabled)).trans
      ((enterProbing_raised (.inl (by rw [hu]; exact h))).trans (by rw [hu]; rfl)))
    rfl (by decide)
  exact ⟨_, due, rfl, heq, windowOutputs_of_probing rfl rfl⟩

theorem frameStart_of_probing (h : s.link.state = .probing) (hmove : s.link.move ≠ some .training) :
    ∃ due, s.frameStart = s.framed (s.link.opened (32, 16)) false due ∧
      (s.link.opened (32, 16)).windowOutputs = s.probeOutputs := by
  obtain ⟨due, heq⟩ := frameStart_framed (l := s.link.ticked) (by rw [h]; decide) false
    (fun u hu => (changeLink_of_probing (by rw [hu]; exact h) (by rw [hu]; exact hmove)).trans (by rw [← hu]; rfl))
    h (by decide)
  rw [effectiveCells_of_probing (l := s.link.ticked) h] at heq
  exact ⟨due, heq, windowOutputs_of_probing h rfl⟩

theorem frameStart_to_training (h : s.link.state = .probing) (hmove : s.link.move = some .training) :
    let l :=
      { s.link.opened (32 * s.link.ceiling.factor, 16 * s.link.ceiling.factor) with
        state := .training, trialRate := some s.link.ceiling, trialFrame := 0, trialBaseErrors := 0
        trialOwnErrors := 0, move := none }
    ∃ due, s.frameStart = s.framed l true due ∧
      l.windowOutputs = trainingOutputs (linkFrameNumber (s.link.count + 1)) s.link.ceiling 0 := by
  intro l
  obtain ⟨due, heq⟩ := frameStart_framed (st := .training)
    (l := { s.link.ticked.noTrial with state := .training, trialRate := some s.link.ceiling }) (by rw [h]; decide) true
    (fun u hu => (changeLink_to_training (by rw [hu]; exact h) (by rw [hu]; exact hmove)).trans (by rw [hu]; rfl))
    rfl (by decide)
  rw [effectiveCells_of_training (l := { s.link.ticked.noTrial with state := .training, trialRate := some s.link.ceiling })
    rfl rfl] at heq
  exact ⟨due, heq, windowOutputs_of_training rfl rfl rfl⟩

theorem frameStart_to_trial {r : Rate} (h : s.link.state = .training) (hmove : s.link.move = some (.trial r)) :
    let l :=
      { s.link.opened (32 * r.factor, 16 * r.factor) with
        trialRate := some r, trialFrame := 0, trialBaseErrors := 0, trialOwnErrors := 0, move := none }
    ∃ due, s.frameStart = s.framed l false due ∧
      l.windowOutputs = trainingOutputs (linkFrameNumber (s.link.count + 1)) r 0 := by
  intro l
  obtain ⟨due, heq⟩ := frameStart_framed (l := s.link.ticked.startTrial r) (by rw [h]; decide) false
    (fun u hu => (changeLink_to_trial (by rw [hu]; exact h) (by rw [hu]; exact hmove)).trans (by rw [← hu]; rfl))
    h (by decide)
  rw [effectiveCells_of_training (l := s.link.ticked.startTrial r) (r := r) h rfl] at heq
  exact ⟨due, heq, windowOutputs_of_training h rfl rfl⟩

theorem frameStart_of_training {r : Rate} (h : s.link.state = .training)
    (hmove : s.link.move = none ∨ s.link.move = some .training) (hrate : s.link.trialRate = some r) :
    let l :=
      { s.link.opened (32 * r.factor, 16 * r.factor) with
        trialFrame := if s.link.trialFrame < 15 then s.link.trialFrame + 1 else 15 }
    ∃ due, s.frameStart = s.framed l false due ∧
      l.windowOutputs = trainingOutputs (linkFrameNumber (s.link.count + 1)) r l.trialFrame := by
  intro l
  have hframe : min (s.link.trialFrame + 1) 15 = if s.link.trialFrame < 15 then s.link.trialFrame + 1 else 15 := by
    split <;> omega
  obtain ⟨due, heq⟩ := frameStart_framed
    (l := { s.link.ticked with trialFrame := if s.link.trialFrame < 15 then s.link.trialFrame + 1 else 15 })
    (by rw [h]; decide) false
    (fun u hu => (changeLink_of_training (by rw [hu]; exact h) (by rw [hu]; exact hmove)).trans
      (by rw [← hframe]; unfold State.updLink; rw [hu]; rfl))
    h (by decide)
  rw [effectiveCells_of_training
    (l := { s.link.ticked with trialFrame := if s.link.trialFrame < 15 then s.link.trialFrame + 1 else 15 }) (r := r)
    h hrate] at heq
  exact ⟨due, heq, windowOutputs_of_training h hrate rfl⟩

theorem frameStart_to_probing (h : s.link.state = .training) (hmove : s.link.move = some .probing) :
    let l :=
      { s.link.opened (32, 16) with
        state := .probing, trialRate := none, trialFrame := 0, trialBaseErrors := 0, trialOwnErrors := 0, move := none
        probeFrames := 0, probeCycles := 0, lossRun := 0 }
    ∃ due, s.frameStart = s.framed l true due ∧ l.windowOutputs = s.probeOutputs := by
  intro l
  obtain ⟨due, heq⟩ := frameStart_framed (st := .probing)
    (l := { s.link.ticked.noTrial with state := .probing, probeFrames := 0, probeCycles := 0, lossRun := 0 })
    (by rw [h]; decide) true
    (fun u hu => (changeLink_to_probing (by rw [hu]; exact h) (by rw [hu]; exact hmove)).trans
      ((enterProbing_raised (.inr (by rw [hu]; exact h))).trans (by rw [hu]; rfl)))
    rfl (by decide)
  exact ⟨due, heq, windowOutputs_of_probing rfl rfl⟩

end starts

end Sys2Proof.Machine

/-!
What the build of a window keeps, and the link frame start of an UP frame (O23).
-/

namespace Sys2Proof.Machine

/-! ### What the build of a window keeps (R85, R88, R104) -/

/-- What every step of a window's build keeps: pending events stay, no rate step-down is counted,
own writes join the end of the OTHER class, and no schedule becomes staged. -/
def Builds (s t : State) : Prop :=
  (∀ e, s.eventPending e = true → t.eventPending e = true) ∧
    t.counter .rateStepDowns = s.counter .rateStepDowns ∧
    (∃ more, t.path.other = s.path.other ++ more) ∧ (s.sched.staged = none → t.sched.staged = none)

section builds

variable {s t v : State}

theorem Builds.of_same (hevents : t.status.events = s.status.events) (hcounters : t.status.counters = s.status.counters)
    (hother : t.path.other = s.path.other)
    (hstaged : t.sched.staged = s.sched.staged) : Builds s t := by
  refine ⟨fun e he => ?_, ?_, ⟨[], by rw [hother, List.append_nil]⟩, fun h => hstaged.trans h⟩
  · unfold State.eventPending at he ⊢
    rwa [hevents]
  · unfold State.counter
    rw [hcounters]

theorem Builds.refl (s : State) : Builds s s := .of_same rfl rfl rfl rfl

theorem Builds.trans (h : Builds s t) (h' : Builds t v) : Builds s v := by
  obtain ⟨hevent, hcounter, ⟨more, hmore⟩, hstaged⟩ := h
  obtain ⟨hevent', hcounter', ⟨more', hmore'⟩, hstaged'⟩ := h'
  exact ⟨fun e he => hevent' e (hevent e he), hcounter'.trans hcounter,
    ⟨more ++ more', by rw [hmore', hmore, List.append_assoc]⟩, fun h => hstaged' (hstaged h)⟩

theorem serveVideo_builds (fuel budget : Nat) (s : State) : Builds s (serveVideo fuel budget s).1 := by
  obtain ⟨-, -, ⟨-, hstaged, -⟩, hpath, -, -, -, hstatus⟩ := serveVideo_frame fuel budget s
  exact .of_same (congrArg StatusUnit.events hstatus) (congrArg StatusUnit.counters hstatus) (congrArg PathUnit.other hpath)
    hstaged

theorem retireNext_tooLarge_builds (r : Fin 4) (sr : SendRecord) (s : State) :
    Builds s (s.retireNext r sr .tooLarge) := by
  obtain ⟨-, -, -, -, hsched, -⟩ := retireNext_frame r sr .tooLarge s
  obtain ⟨-, -, -, -, hother⟩ := retireNext_others r sr .tooLarge s
  refine ⟨fun e he => retireNext_pending he, ?_, ⟨_, hother⟩, fun h => by rw [hsched, h]⟩
  have heq := retireNext_eq r sr .tooLarge s
  generalize s.retireNext r sr .tooLarge = t at heq
  rw [heq]
  show (State.count .recordsTooLarge (if sr.attention = true then s.raise .ringAttn else s)).counter _ = _
  rw [count_counter_ne (by decide)]
  split <;> rfl

theorem serveRing_builds (r : Fin 4) (cells budget : Nat) (s : State) : Builds s (s.serveRing r cells budget).1 := by
  by_cases hready : ∃ sr, (s.rings.outbound[r]).head = .ready sr
  · obtain ⟨sr, hhead⟩ := hready
    rw [serveRing_of_ready hhead]
    split_ifs
    · exact .refl s
    · exact retireNext_tooLarge_builds r sr s
    · exact .refl s
    · exact .of_same rfl rfl rfl rfl
  · rw [serveRing_of_not_ready fun sr hhead => hready ⟨sr, hhead⟩]
    exact .refl s

theorem haltSchedule_builds (s : State) : Builds s s.haltSchedule := by
  refine ⟨fun e he => ?_, rfl, ⟨[], (List.append_nil _).symm⟩, fun h => ?_⟩
  · have hraised : (s.raise .schedHalt).eventPending e = true := eventPending_raise he
    exact hraised
  · show s.sched.staged.map _ = none
    rw [h]
    rfl

theorem walkEntries_builds (cells : Nat) (entries : List ServiceEntry) (budget : Nat) (s : State) :
    Builds s (walkEntries cells entries budget s).1 := by
  induction entries generalizing budget s with
  | nil => exact .refl s
  | cons e rest ih =>
    by_cases hheld : s.sched.hold[e.source.lane] = 0
    · cases hsource : e.source with
      | video =>
        rw [walkEntries_of_video hheld hsource]
        exact (serveVideo_builds _ budget s).trans (ih _ _)
      | ring r =>
        cases hstate : (s.rings.outbound[r]).state with
        | unbound =>
          rw [walkEntries_of_unbound hheld hsource hstate]
          exact haltSchedule_builds s
        | halted =>
          rw [walkEntries_of_halted hheld hsource hstate]
          exact ih budget s
        | active =>
          rw [walkEntries_of_active hheld hsource hstate]
          exact (serveRing_builds r cells budget s).trans (ih _ _)
    · rw [walkEntries_of_held hheld]
      exact ih budget s

theorem buildWindow_builds (s : State) : Builds s s.buildWindow.1 := by
  have hwalked : Builds s s.walked.1 := by
    unfold State.walked
    split
    · exact walkEntries_builds _ _ _ s
    · exact .refl s
  rw [buildWindow_eq]
  exact hwalked.trans (.of_same rfl rfl rfl rfl)

theorem frameWindow_builds (s : State) : Builds s s.frameWindow := by
  by_cases hup : s.link.state = .up
  · rw [frameWindow_of_up hup, upWindow_eq]
    exact (buildWindow_builds s).trans (.of_same rfl rfl rfl rfl)
  · rw [frameWindow_of_not_up hup]
    exact .of_same rfl rfl rfl rfl

end builds

/-! ### The effect of a change at the frame start (R139, R140) -/

section effect

variable {s : State}

theorem effected_same (s : State) :
    SameOutside s s.effected ∧ SameCapture s s.effected ∧ s.effected.sched = s.sched ∧ s.effected.rings = s.rings ∧
      s.effected.path.mode = s.path.mode ∧ s.effected.link.state = s.link.state ∧
      s.effected.link.count = s.link.count + 1 ∧ s.effected.link.returnTaken = false ∧
      LinkUnit.SameDrop s.link s.effected.link := by
  have hcount : s.tick.link.count = s.link.count + 1 := rfl
  have htaken : s.tick.link.returnTaken = false := rfl
  unfold State.effected
  simp [hcount, htaken]

theorem effected_of_rate {r : Rate} {echoed : Bool} (hup : s.link.state = .up)
    (hchange : s.link.change = some { change := .rate r, effective := s.link.count + 1, echoed }) :
    s.effected = s.tick.rateEffect := by
  have hnone : s.tick.rateEffect.link.change = none := by
    rw [rateEffect_eq (s := s.tick) hup hchange]
  unfold State.effected
  refine splitEffect_of_quiet fun _ c hc => ?_
  rw [hnone] at hc
  cases hc

theorem rateEffect_of_split {f rt : Nat} {effective : FrameCount} {echoed : Bool}
    (hchange : s.link.change = some { change := .split f rt, effective, echoed }) : s.rateEffect = s := by
  unfold State.rateEffect
  rw [hchange]

theorem effected_of_split {f rt : Nat} {echoed : Bool}
    (hchange : s.link.change = some { change := .split f rt, effective := s.link.count + 1, echoed }) :
    s.effected = s.tick.splitEffect := by
  unfold State.effected
  rw [rateEffect_of_split (s := s.tick) hchange]

end effect

/-! ### What every frame start opens (R121) -/

section opens

variable {s u : State}

theorem changeLink_repeat (u : State) :
    (0 < u.changeLink.link.dropRepeat ↔ 0 < u.link.dropRepeat) ∧
      (u.changeLink.link.state ≠ .up → u.changeLink.link.dropRepeat = u.link.dropRepeat) ∧
      (u.link.state = .up → u.changeLink.link = u.link) := by
  have hkept {v : State} (hlink : v.link.dropRepeat = u.link.dropRepeat) (hup : u.link.state = .up → v.link = u.link) :
      (0 < v.link.dropRepeat ↔ 0 < u.link.dropRepeat) ∧
        (v.link.state ≠ .up → v.link.dropRepeat = u.link.dropRepeat) ∧ (u.link.state = .up → v.link = u.link) :=
    ⟨by rw [hlink], fun _ => hlink, hup⟩
  have hprobing (h : u.link.state ≠ .up) := hkept (v := u.enterProbing) (by rw [enterProbing_of_not_up h]; rfl)
    fun hup => absurd hup h
  unfold State.changeLink
  split
  · next hstate _ => exact hkept (by rw [setLink_eq]; rfl) fun hup => absurd (hstate.symm.trans hup) (by decide)
  · next hstate _ =>
    have hrepeat : u.becomeUp.link.dropRepeat = if 0 < u.link.dropRepeat then 4 else 0 := by
      unfold State.becomeUp
      rw [setLink_eq]
      rfl
    have hup : u.becomeUp.link.state = .up := by
      unfold State.becomeUp
      rw [setLink_eq]
      rfl
    refine ⟨?_, fun h => absurd hup h, fun h => absurd (hstate.symm.trans h) (by decide)⟩
    rw [hrepeat]
    split <;> omega
  · next hstate _ => exact hkept rfl fun hup => absurd (hstate.symm.trans hup) (by decide)
  · next hstate _ => exact hprobing (by rw [hstate]; decide)
  · next hstate _ _ _ => exact hkept rfl fun hup => absurd (hstate.symm.trans hup) (by decide)
  · next hstate =>
    split
    · exact hprobing (by rw [hstate]; decide)
    · exact hkept rfl fun _ => rfl
  · exact hkept rfl fun _ => rfl
  · exact hkept rfl fun _ => rfl

/-- The part as it builds the window of the frame that starts: the count and the cells, the schedule promoted, and
nothing else of the capture side, the rings and the outputs (R121). -/
def Opens (s m : State) : Prop :=
  m.link.count = s.link.count + 1 ∧ m.link.returnTaken = false ∧ m.link.cells = m.link.effectiveCells ∧
    m.sched = s.sched.promote (s.link.count + 1) ∧ m.rings = s.rings ∧ m.out = s.out ∧ SameCapture s m ∧
    m.straps = s.straps ∧ m.pending = s.pending ∧ m.path.mode = s.path.mode ∧
    m.link.lastDropped = s.link.lastDropped ∧ m.link.dropCount = s.link.dropCount ∧
    (0 < m.link.dropRepeat ↔ 0 < s.link.dropRepeat) ∧
    (s.link.state = .up → m.link.state = .up ∧ m.link.dropRepeat = s.link.dropRepeat) ∧
    (m.link.state ≠ .up → m.path = s.path ∧ m.link.dropRepeat = s.link.dropRepeat)

theorem moved_opens (s : State) (d d' : List (Fin 32)) : Opens s ((s.started d).moveLink.withDue d') := by
  obtain ⟨⟨hstraps, hout, -, hpending⟩, hcapture, hsched, hrings, hmode, hstate, hcount, htaken, hdropped, hdrops,
    hrepeat⟩ := effected_same s
  obtain ⟨hpositive, hkept, hup⟩ := changeLink_repeat (s.started d)
  obtain ⟨-, -, -, -, -, -, -, -, -, -, -, -, hcount', hdropped', hdrops', -, htaken', -⟩ := changeLink_frame (s.started d)
  have hsame := changeLink_same (s.started d)
  rw [moveLink_of_changeLink hsame]
  generalize (s.started d).changeLink.link = l at *
  have hopens (h : s.link.state = .up) : l = (s.started d).link := hup (hstate.trans h)
  refine ⟨hcount'.trans hcount, htaken'.trans htaken, rfl, ?_, hrings, hout, hcapture, hstraps, hpending, hmode,
    hdropped'.trans hdropped, hdrops'.trans hdrops, ?_, fun h => ?_, fun h => ?_⟩
  · show s.effected.sched.promote s.effected.link.count = _
    rw [hsched, hcount]
  · rw [← hrepeat]
    exact hpositive
  · have hl := hopens h
    subst hl
    exact ⟨hstate.trans h, hrepeat⟩
  · have hquiet : s.Quiet := quiet_of_not_up fun hs => by
      have hl := hopens hs
      subst hl
      exact h (hstate.trans hs)
    refine ⟨?_, (hkept h).trans hrepeat⟩
    show s.effected.path = s.path
    rw [effected_of_quiet hquiet]
    rfl

end opens

end Sys2Proof.Machine

/-!
The link frame start (O23).
-/

namespace Sys2Proof.Machine

section start

variable {s m : State} {d'' : List (Fin 32)}

theorem promote_keeps (count : FrameCount) (c : Scheduler) :
    (c.promote count).hold = c.hold ∧ (c.promote count).window = c.window := by
  rw [promote_eq]
  split
  · exact ⟨rfl, rfl⟩
  · split <;> exact ⟨rfl, rfl⟩

theorem promote_of_due {count : FrameCount} {c : Scheduler} {sch : Schedule} {due : Due}
    (hstaged : c.staged = some (sch, due)) (hdue : due = .nextFrame ∨ count.toNat % 16 = 0) :
    (c.promote count).active = some sch ∧ (c.promote count).staged = none := by
  rw [promote_eq, hstaged]
  dsimp only
  rw [if_pos hdue]
  exact ⟨rfl, rfl⟩

theorem effectiveCells_eq (l : LinkUnit) :
    l.effectiveCells =
      match l.state with
      | .down => (0, 0)
      | .probing => (32, 16)
      | .training =>
        (128 * (l.trialRate.getD .quarter).factor / 4, 64 * (l.trialRate.getD .quarter).factor / 4)
      | .up => (l.splitF * l.rate.factor / 4, l.splitRt * l.rate.factor / 4) := by
  unfold LinkUnit.effectiveCells
  cases l.state <;> rfl

/-- What the frame start of every frame leaves after its window (R121). -/
theorem frameStart_opened (hopens : Opens s m)
    (heq : s.frameStart = (m.frameWindow.updSched Scheduler.countDown).withDue d'') :
    s.frameStart.link.count = s.link.count + 1 ∧ s.frameStart.link.returnTaken = false ∧
      s.frameStart.link.cells = s.frameStart.link.effectiveCells ∧ s.frameStart.link.state = m.link.state ∧
      (∀ i : Fin 5, s.frameStart.sched.hold[i] = if s.sched.hold[i] = 0 then 0 else s.sched.hold[i] - 1) ∧
      (∀ sch due, s.sched.staged = some (sch, due) → (due = .nextFrame ∨ (s.link.count + 1).toNat % 16 = 0) →
        s.frameStart.sched.active = some sch ∧ s.frameStart.sched.staged = none) ∧
      SameCapture s s.frameStart ∧ s.frameStart.straps = s.straps ∧ s.frameStart.pending = s.pending ∧
      s.frameStart.path.mode = s.path.mode := by
  obtain ⟨hcount, htaken, hcells, hsched, -, -, hcapture, hstraps, hpending, hmode, -⟩ := hopens
  obtain ⟨⟨hmap', htracker', hstitch'⟩, ⟨hmode', -⟩, ⟨hactive', hhold', -⟩, hlink', -, hstraps', -, hpending'⟩ :=
    frameWindow_frame m
  obtain ⟨-, -, -, hstaged'⟩ := frameWindow_builds m
  obtain ⟨hstate', -, -, hrate', hsplitF', hsplitRt', hcount', -, -, -, htrial', -, -, -, -, -, -, -, -, -, -, htaken',
    hcells'⟩ := hlink'
  obtain ⟨hmap, htracker, hstitch⟩ := hcapture
  have hforce : m.frameWindow.link.effectiveCells = m.link.effectiveCells := by
    unfold LinkUnit.effectiveCells
    rw [hstate', hrate', hsplitF', hsplitRt', htrial']
  rw [heq]
  refine ⟨hcount'.trans hcount, htaken'.trans htaken, (hcells'.trans hcells).trans hforce.symm, hstate', fun i => ?_,
    fun sch due hstaged hdue => ?_, ⟨hmap'.trans hmap, htracker'.trans htracker, hstitch'.trans hstitch⟩,
    hstraps'.trans hstraps, hpending'.trans hpending, hmode'.trans hmode⟩
  · have hhold : m.frameWindow.sched.hold = s.sched.hold := by
      rw [hhold', hsched, (promote_keeps _ _).1]
    show (m.frameWindow.sched.hold.map fun t => if t = 0 then 0 else t - 1)[i] = _
    rw [hhold]
    exact Vector.getElem_map _ _
  · obtain ⟨hactive, hnone⟩ := promote_of_due hstaged hdue
    rw [← hsched] at hactive hnone
    exact ⟨hactive'.trans hactive, hstaged' hnone⟩

/-- The frame start of a frame that is not UP touches no ring, no parcel and no request (R121). -/
theorem frameStart_of_not_up (hopens : Opens s m) (hup : m.link.state ≠ .up)
    (heq : s.frameStart = (m.frameWindow.updSched Scheduler.countDown).withDue d'') :
    s.frameStart.rings = s.rings ∧ s.frameStart.sched.window = s.sched.window ∧ s.frameStart.path = s.path ∧
      s.frameStart.link.dropRepeat = s.link.dropRepeat := by
  obtain ⟨-, -, -, hsched, hrings, -, -, -, -, -, -, -, -, -, hkept⟩ := hopens
  obtain ⟨hpath, hrepeat⟩ := hkept hup
  rw [heq, frameWindow_of_not_up hup]
  refine ⟨hrings, ?_, hpath, hrepeat⟩
  show m.sched.window = _
  rw [hsched, (promote_keeps _ _).2]

/-- The forward header that the frame start of an UP frame sends (R142). -/
def State.sentHeader (s t : State) : ForwardHeader :=
  let hold (q : InRing) : Option Byte :=
    if q.holdRequested then some 16 else if q.releaseDue then some 0 else none
  { frame := linkFrameNumber (s.link.count + 1), rate := t.link.rate
    stream := s.tracker.stream.state, change := t.link.change
    ack0 := s.rings.inbound[0].toSend, ack1 := s.rings.inbound[1].toSend
    hold0 := hold s.rings.inbound[0], hold1 := hold s.rings.inbound[1]
    holdReturn :=
      if s.rings.ret.bound = false then some 16 else if s.rings.ret.releaseDue then some 0 else none
    drop := if 0 < s.link.dropRepeat then some (s.link.lastDropped, s.link.dropCount) else none
    parcels := t.sched.window.length - s.sched.window.length }

theorem frameStart_of_up_window (hopens : Opens s m) (hup : m.link.state = .up)
    (heq : s.frameStart = (m.frameWindow.updSched Scheduler.countDown).withDue d'') :
    ∃ idle, s.frameStart.out = s.out ++ [.header (s.sentHeader s.frameStart).bytes idle] ∧
      ((s.frameStart.sched.window.drop s.sched.window.length).map (fun p => p.body.cells)).sum + idle =
        s.frameStart.link.cells.1 - 1 ∧
      (∀ r : Fin 2,
        s.frameStart.rings.inbound[r] = { s.rings.inbound[r] with toSend := .none, releaseDue := false }) ∧
      s.frameStart.rings.ret = { s.rings.ret with releaseDue := false } ∧
      (s.link.state = .up → s.frameStart.link.dropRepeat = s.link.dropRepeat - 1) := by
  obtain ⟨hcount, -, -, hsched, hrings, hout, ⟨-, htracker, -⟩, -, -, -, hdropped, hdrops, hrepeat, hkept, -⟩ := hopens
  obtain ⟨hlink, hsched', -, hrings', -, -, hout'⟩ := frameStart_of_up hup heq
  have hwindow : m.sched.window = s.sched.window := by rw [hsched, (promote_keeps _ _).2]
  obtain ⟨hcells, -, hlength⟩ := buildWindow_facts m
  have hheader : m.forwardHeader m.buildWindow.2.1 = s.sentHeader s.frameStart := by
    have hreturn : m.rings.ret.request =
        if s.rings.ret.bound = false then some 16 else if s.rings.ret.releaseDue then some 0 else none := by
      rw [hrings]
      unfold ReturnBinding.request
      cases s.rings.ret.bound <;> rfl
    have hdrop : (if 0 < m.link.dropRepeat then some (m.link.lastDropped, m.link.dropCount) else none) =
        if 0 < s.link.dropRepeat then some (s.link.lastDropped, s.link.dropCount) else none := by
      rw [hdropped, hdrops]
      exact if_congr hrepeat rfl rfl
    have hparcels : m.buildWindow.2.1 = s.frameStart.sched.window.length - s.sched.window.length := by
      rw [hsched', ← hwindow]
      exact Nat.eq_sub_of_add_eq hlength
    unfold State.forwardHeader State.sentHeader
    dsimp only
    rw [hcount, htracker, hreturn, hdrop, hparcels, hrings, hlink]
    rfl
  refine ⟨m.buildWindow.2.2, ?_, ?_, fun r => ?_, ?_, fun hs => ?_⟩
  · rw [hout', hheader, hout]
  · rw [hsched', hlink, ← hwindow]
    exact hcells
  · rw [hrings', ← hrings]
    exact Vector.getElem_map _ _
  · rw [hrings', ← hrings]
  · rw [hlink, ← (hkept hs).2]

end start

end Sys2Proof.Machine

/-!
The change that takes effect at a frame start, and the link frame start's obligation (O23).
-/

namespace Sys2Proof.Machine

/-! ### A change at the frame start of an UP frame (R139, R140) -/

section change

variable {s : State}

/-- An event pending as the window is built stays pending. -/
theorem frameStart_pending {m : State} {d'' : List (Fin 32)} {e : Event}
    (heq : s.frameStart = (m.frameWindow.updSched Scheduler.countDown).withDue d'') (h : m.eventPending e = true) :
    s.frameStart.eventPending e = true := by
  obtain ⟨hevents, -⟩ := frameWindow_builds m
  rw [heq]
  exact hevents e h

theorem frameStart_of_link_up (h : s.link.state = .up) :
    s.frameStart.link =
        { s.effected.link with
          cells := s.effected.link.effectiveCells, dropRepeat := s.effected.link.dropRepeat - 1 } ∧
      s.frameStart.mbox = s.effected.mbox ∧
      s.frameStart.counter .rateStepDowns = s.effected.counter .rateStepDowns ∧
      (∀ e, s.effected.eventPending e = true → s.frameStart.eventPending e = true) ∧
      ∃ more, s.frameStart.path.other = s.effected.path.other ++ more := by
  obtain ⟨-, -, -, -, -, hstate, -⟩ := effected_same s
  obtain ⟨d, d', d'', heq⟩ := frameStart_eq s
  have hup : (s.started d).link.state = .up := hstate.trans h
  rw [moveLink_of_up hup] at heq
  obtain ⟨hlink, -⟩ := frameStart_of_up (by exact hup) heq
  obtain ⟨-, -, -, -, -, -, hmbox, -⟩ :=
    frameWindow_frame (((s.started d).inForce (s.started d).link (s.started d).status).withDue d')
  obtain ⟨hevents, hcounter, hother, -⟩ :=
    frameWindow_builds (((s.started d).inForce (s.started d).link (s.started d).status).withDue d')
  refine ⟨hlink, ?_⟩
  rw [heq]
  exact ⟨hmbox, hcounter, hevents, hother⟩

/-- A RATE change due at the frame start takes effect (R139). -/
theorem frameStart_of_rate {r : Rate} {echoed : Bool} (h : s.link.state = .up)
    (hchange : s.link.change = some { change := .rate r, effective := s.link.count + 1, echoed }) :
    s.frameStart.link.rate = r ∧ s.frameStart.link.change = none ∧ s.frameStart.link.splitF = s.link.splitF ∧
      s.frameStart.link.splitRt = s.link.splitRt ∧ s.frameStart.eventPending .linkChange = true ∧
      s.frameStart.counter .rateStepDowns = saturate (s.counter .rateStepDowns) 1 ∧ s.frameStart.mbox = s.mbox := by
  obtain ⟨hlink, hmbox, hcounter, hevents, -⟩ := frameStart_of_link_up h
  rw [effected_of_rate h hchange, rateEffect_eq (s := s.tick) h hchange] at hlink hmbox hcounter hevents
  rw [hlink]
  exact ⟨rfl, rfl, rfl, rfl, hevents _ (raise_eventPending .linkChange s),
    hcounter.trans (count_counter_same .rateStepDowns s), hmbox⟩

/-- A SPLIT change due at the frame start takes effect if it is echoed, and ends SET SPLIT (R140). -/
theorem frameStart_of_split {f rt : Nat} {echoed : Bool} {tag : BitVec 8} (h : s.link.state = .up)
    (hchange : s.link.change = some { change := .split f rt, effective := s.link.count + 1, echoed })
    (hrun : s.mbox.running = some { code := Command.setSplit.code, tag }) :
    s.frameStart.link.change = none ∧ s.frameStart.link.rate = s.link.rate ∧
      s.frameStart.counter .rateStepDowns = s.counter .rateStepDowns ∧
      s.frameStart.mbox = { s.mbox with running := none } ∧
      (echoed = true →
        s.frameStart.link.splitF = f ∧ s.frameStart.link.splitRt = rt ∧
          s.frameStart.eventPending .linkChange = true) ∧
      (echoed = false →
        s.frameStart.link.splitF = s.link.splitF ∧ s.frameStart.link.splitRt = s.link.splitRt) ∧
      ∃ more, s.frameStart.path.other =
        s.path.other ++
          finalWrites s Command.setSplit.code tag (if echoed then .noError else .noAgreement)
            [numberWord (s.frameStart.link.splitF + atBit 16 s.frameStart.link.splitRt),
             BitVec.ofNat 64 (s.link.count + 1).toNat] ++ more := by
  obtain ⟨hlink, hmbox, hcounter, hevents, hother⟩ := frameStart_of_link_up h
  rw [effected_of_split hchange] at hlink hmbox hcounter hevents hother
  cases echoed with
  | true =>
    rw [splitEffect_of_echoed (s := s.tick) h hchange hrun] at hlink hmbox hcounter hevents hother
    rw [hlink]
    exact ⟨rfl, rfl, hcounter, hmbox, fun _ => ⟨rfl, rfl, hevents _ (raise_eventPending .linkChange s)⟩,
      fun hno => absurd hno (by decide), hother⟩
  | false =>
    rw [splitEffect_of_not_echoed (s := s.tick) h hchange hrun] at hlink hmbox hcounter hevents hother
    rw [hlink]
    exact ⟨rfl, rfl, hcounter, hmbox, fun hno => absurd hno (by decide), fun _ => ⟨rfl, rfl⟩, hother⟩

/-- No change is due: the link keeps its rate, its split and what is pending. -/
theorem frameStart_of_quiet_up (h : s.link.state = .up) (hquiet : s.Quiet) :
    s.frameStart.link.change = s.link.change ∧ s.frameStart.link.rate = s.link.rate ∧
      s.frameStart.link.splitF = s.link.splitF ∧ s.frameStart.link.splitRt = s.link.splitRt ∧
      s.frameStart.mbox = s.mbox := by
  obtain ⟨hlink, hmbox, -⟩ := frameStart_of_link_up h
  rw [effected_of_quiet hquiet] at hlink hmbox
  rw [hlink]
  exact ⟨rfl, rfl, rfl, rfl, hmbox⟩

/-- A trial that has passed opens an UP frame at its rate (R127). -/
theorem frameStart_to_up {r : Rate} (h : s.link.state = .training) (hmove : s.link.move = some .up)
    (hrate : s.link.trialRate = some r) :
    s.frameStart.link =
        { s.link.opened (s.link.splitF * r.factor / 4, s.link.splitRt * r.factor / 4) with
          state := .up, rate := r, trialRate := none, trialFrame := 0, trialBaseErrors := 0
          trialOwnErrors := 0, move := none, lossRun := 0, monitorFrames := 0, monitorErrors := 0
          dropRepeat := if 0 < s.link.dropRepeat then 3 else 0 } ∧
      s.frameStart.eventPending .linkChange = true := by
  obtain ⟨d, d', d'', heq⟩ := frameStart_eq s
  have hquiet : s.Quiet := quiet_of_not_up (by rw [h]; decide)
  have hlink : (s.started d).link = s.link.ticked := by
    rw [started_of_quiet hquiet]
    rfl
  rw [moveLink_to_up (by rw [hlink]; exact h) (by rw [hlink]; exact hmove), hlink] at heq
  obtain ⟨hsent, -⟩ := frameStart_of_up rfl heq
  have hrepeat : (if 0 < s.link.dropRepeat then 4 else 0) - 1 = if 0 < s.link.dropRepeat then 3 else 0 := by
    split <;> rfl
  have htrial : s.link.ticked.trialRate.getD .quarter = r := by
    show s.link.trialRate.getD _ = r
    rw [hrate]
    rfl
  refine ⟨hsent.trans ?_, frameStart_pending heq (raise_eventPending .linkChange _)⟩
  rw [htrial, ← hrepeat]
  rfl

end change

/-- Settles O23: the link frame start, by the move that is due and the frame it opens, and the bytes of the headers. -/
theorem linkFrameStartAdvances : Obligations.LinkFrameStartAdvances := by
  unfold Obligations.LinkFrameStartAdvances
  refine ⟨fun s => ⟨s.frameStart, exec_linkFrameStart s, ?_⟩, fun n r k => ?_, fun b hb => ?_, fun h => ?_, fun count => ?_⟩
  · obtain ⟨d, d', d'', heq⟩ := frameStart_eq s
    have hopens := moved_opens s d d'
    obtain ⟨hcount, htaken, hcells, hstate, hhold, hstaged, hcapture, hstraps, hpending, hmode⟩ :=
      frameStart_opened hopens heq
    refine ⟨hcount, htaken, hhold, fun sch h => hstaged sch _ h (.inl rfl),
      fun sch h hcycle => hstaged sch _ h (.inr hcycle), hcapture, hstraps, hpending, hmode, hcells.trans (effectiveCells_eq _), ?_, ?_, ?_,
      ?_, ?_, ?_, ?_, ?_, ?_, ?_, ?_, ?_, ?_, ?_⟩
    · intro h henabled
      obtain ⟨due, hframed, houtputs⟩ := frameStart_of_disabled h henabled
      rw [hframed]
      refine ⟨h, ?_⟩
      show s.out ++ LinkUnit.windowOutputs _ = _
      rw [houtputs, List.append_nil]
    · intro h henabled
      obtain ⟨l, due, hl, hframed, houtputs⟩ := frameStart_of_enabled h henabled
      rw [hframed]
      exact ⟨hl, raise_eventPending .linkChange s, congrArg (s.out ++ ·) houtputs⟩
    · intro h
      obtain ⟨-, -, -, -, -, -, -, -, -, -, -, -, -, hkept, -⟩ := hopens
      exact hstate.trans (hkept h).1
    · exact fun r echoed h hchange => frameStart_of_rate h hchange
    · exact fun f rt echoed tag h hchange hrun => frameStart_of_split h hchange hrun
    · exact fun h hquiet => frameStart_of_quiet_up h fun _ => hquiet
    · intro h hmove
      obtain ⟨due, hframed, houtputs⟩ := frameStart_of_probing h hmove
      rw [hframed]
      exact ⟨rfl, rfl, congrArg (s.out ++ ·) houtputs⟩
    · intro h hmove
      obtain ⟨due, hframed, houtputs⟩ := frameStart_to_training h hmove
      rw [hframed]
      exact ⟨rfl, raise_eventPending .linkChange s, congrArg (s.out ++ ·) houtputs⟩
    · intro r h hmove
      obtain ⟨due, hframed, houtputs⟩ := frameStart_to_trial h hmove
      rw [hframed]
      exact ⟨rfl, rfl, congrArg (s.out ++ ·) houtputs⟩
    · intro r h hmove hrate
      obtain ⟨due, hframed, houtputs⟩ := frameStart_of_training h hmove hrate
      rw [hframed]
      exact ⟨rfl, rfl, congrArg (s.out ++ ·) houtputs⟩
    · intro h hmove
      obtain ⟨due, hframed, houtputs⟩ := frameStart_to_probing h hmove
      rw [hframed]
      exact ⟨rfl, raise_eventPending .linkChange s, congrArg (s.out ++ ·) houtputs⟩
    · exact fun r h hmove hrate => frameStart_to_up h hmove hrate
    · exact fun h => frameStart_of_not_up hopens (by rwa [← hstate]) heq
    · exact fun h => frameStart_of_up_window hopens (by rwa [← hstate]) heq
  · exact ⟨headerCell_take _, headerCell_take _, trainParcel_facts n⟩
  · have hcell : ∃ fields, b = headerCell fields := by
      rcases hb with ⟨n, r, rfl⟩ | ⟨n, r, k, rfl⟩ | ⟨h, rfl⟩
      · exact ⟨_, rfl⟩
      · exact ⟨_, rfl⟩
      · exact ⟨_, forwardHeader_bytes h⟩
    obtain ⟨fields, rfl⟩ := hcell
    exact ⟨headerCell_length fields, headerCell_check fields⟩
  · obtain ⟨h0, h1, h2, h3, hA, hB, hC, hD, hE, h13⟩ := forwardHeader_fixed h
    refine ⟨h0, h1, h2, h3, ?_, hA.trans (answer_byte_eq _), hB.trans (answer_byte_eq _), hC, hD, hE, ?_, h13⟩
    · cases hchange : h.change with
      | none => exact forwardHeader_no_change hchange
      | some c =>
        obtain ⟨change, effective, echoed⟩ := c
        cases change with
        | rate r => exact forwardHeader_rate hchange
        | split f rt => exact forwardHeader_split hchange
    · cases hdrop : h.drop with
      | none => exact forwardHeader_no_drop hdrop
      | some d => exact forwardHeader_drop hdrop
  · exact BitVec.toNat_ofNat _ _

end Sys2Proof.Machine
